-- ==== Sys2Proof/Word.lean ====
section
/-! DEFINITION. The words and index types of the NP-610 model: bytes, slot, bank, class and tag numbers,
and the fixed lists that run over the slots and the banks. -/

namespace Sys2Proof

/-- One byte of a frame or of the profile image (chapter 10). -/
abbrev Byte := BitVec 8

/-- A slot number 0..9 (Conventions, Numbering). -/
abbrev SlotId := Fin 10

/-- A bank number 0 or 1. -/
abbrev BankId := Fin 2

/-- A class number 0..3. -/
abbrev ClassId := Fin 4

/-- A tag 0..7, as the three bits a frame carries it in (R173). -/
abbrev Tag := BitVec 3

/-- A forward sequence number, 16 bits, wrapping from 65535 to 0 (R107). -/
abbrev Seq := BitVec 16

/-- The slot field of a frame, 0..15 (R173). -/
abbrev SlotField := BitVec 4

/-- All ten slots in rising order. -/
def allSlots : List SlotId := [0, 1, 2, 3, 4, 5, 6, 7, 8, 9]

/-- Both banks in rising order. -/
def allBanks : List BankId := [0, 1]

end Sys2Proof
end

