-- ==== Sys2Proof/Syntax.lean ====
section
/-! DEFINITION. The commands of the NP-610: the bodies of the frames that reach the part, and `Instr` with one
constructor for each row of spec/opcode_table.json (a frame arrives, a line changes, a timer expires, an
operation that took time completes). -/

namespace Sys2Proof

/-- The operation a COMMAND frame names in its op byte (R94, R174); `other` carries any op byte the
part does not name, which is an attached command. -/
inductive Op where
  | read
  | write
  | verify
  | flush
  | identify
  | sense
  | probe
  | spinUp
  | loadHeads
  | unloadHeads
  | spinDown
  | powerOff
  | abort
  | other (code : Byte)
  deriving DecidableEq, Repr

/-- The fields of a COMMAND frame besides its op (R142, R173): slot field, tag, the reserved bit 7 of
byte 1 (forwarded as it arrived), flags, block address, and the count carried as count − 1. -/
structure CmdArgs where
  slot : SlotField
  tag : Tag
  rsv : Bool
  flags : Byte
  lba : BitVec 48
  countM1 : BitVec 16
  deriving DecidableEq, Repr

/-- A whole COMMAND frame. -/
structure Cmd where
  op : Op
  args : CmdArgs
  deriving DecidableEq, Repr

/-- The fields of a DATA frame besides its slot field (R173): the tag, reserved bit 7 of byte 1, the offset in
blocks, the length carried as length − 1, the reserved high bits of byte 4, and the payload, which
the part does not read. -/
structure DataBody where
  tag : Tag
  rsv : Bool
  offset : BitVec 16
  lenM1 : BitVec 4
  lenRsv : BitVec 4
  payload : List Byte
  deriving DecidableEq, Repr

/-- The fields of a DATA_REQUEST frame besides its slot field (R173). -/
structure RequestBody where
  tag : Tag
  rsv : Bool
  offset : BitVec 16
  lenM1 : BitVec 4
  lenRsv : BitVec 4
  deriving DecidableEq, Repr

/-- The fields of a drive's COMPLETION that the part reads or passes on (R126, R173). -/
structure DriveReport where
  tag : Tag
  op : Byte
  code : Byte
  residual : BitVec 24
  deriving DecidableEq, Repr

/-- A frame on the controller link as the port takes it (R142, R173). -/
inductive CtrlFrame where
  | command (c : Cmd)
  | data (slot : SlotField) (d : DataBody)
  | linkReset
  | discarded
  deriving DecidableEq, Repr

/-- A frame on a drive link as the drive link port takes it (R126, R173). -/
inductive DriveFrame where
  | completion (r : DriveReport)
  | data (d : DataBody)
  | dataRequest (r : RequestBody)
  | controlReply (op answer : Byte)
  | stateReply (report : Byte)
  | alertSelfUnload
  | alertFault
  | discarded
  deriving DecidableEq, Repr

/-- The link a raw frame arrives on: the controller link or the drive link of a slot. -/
inductive Link where
  | controller
  | drive (i : SlotId)
  deriving DecidableEq, Repr

/-- The commands of the part, one constructor for each row of spec/opcode_table.json, in its order. -/
inductive Instr where
  /-- RESET_ASSERT -/
  | resetAssert
  /-- RESET_DEASSERT -/
  | resetDeassert
  /-- LINK_RESET -/
  | linkReset
  /-- READ -/
  | read (c : CmdArgs)
  /-- WRITE -/
  | write (c : CmdArgs)
  /-- VERIFY -/
  | verify (c : CmdArgs)
  /-- FLUSH -/
  | flush (c : CmdArgs)
  /-- IDENTIFY -/
  | identify (c : CmdArgs)
  /-- OTHER_ATTACHED_COMMAND, with its op byte -/
  | otherAttached (op : Byte) (c : CmdArgs)
  /-- SENSE -/
  | sense (c : CmdArgs)
  /-- PROBE -/
  | probe (c : CmdArgs)
  /-- SPIN_UP -/
  | spinUp (c : CmdArgs)
  /-- LOAD_HEADS -/
  | loadHeads (c : CmdArgs)
  /-- UNLOAD_HEADS -/
  | unloadHeads (c : CmdArgs)
  /-- SPIN_DOWN -/
  | spinDown (c : CmdArgs)
  /-- POWER_OFF -/
  | powerOff (c : CmdArgs)
  /-- ABORT; its tag names the target -/
  | abort (c : CmdArgs)
  /-- DATA from the case controller -/
  | data (slot : SlotField) (d : DataBody)
  /-- FRAME_DISCARDED: the bytes of a frame that the layouts of R173 discard, and the link it came on -/
  | frameDiscarded (link : Link) (bytes : List Byte)
  /-- DRIVE_COMPLETION -/
  | driveCompletion (i : SlotId) (r : DriveReport)
  /-- DRIVE_DATA -/
  | driveData (i : SlotId) (d : DataBody)
  /-- DATA_REQUEST -/
  | dataRequest (i : SlotId) (r : RequestBody)
  /-- CONTROL_REPLY, with its two bytes (R175) -/
  | controlReply (i : SlotId) (op answer : Byte)
  /-- STATE_REPLY, with its report byte (R175) -/
  | stateReply (i : SlotId) (report : Byte)
  /-- DRIVE_ALERT_SELF_UNLOAD -/
  | driveAlertSelfUnload (i : SlotId)
  /-- DRIVE_ALERT_FAULT -/
  | driveAlertFault (i : SlotId)
  /-- PRESENT_ASSERTED -/
  | presentAsserted (i : SlotId)
  /-- PRESENT_DEASSERTED -/
  | presentDeasserted (i : SlotId)
  /-- PRESENT_DEBOUNCE_COMPLETE -/
  | presentDebounceComplete (i : SlotId)
  /-- POWER_FAULT_ASSERTED -/
  | powerFaultAsserted (i : SlotId)
  /-- POWER_FAULT_DEASSERTED -/
  | powerFaultDeasserted (i : SlotId)
  /-- DOCK_CHANGE, to the given level -/
  | dockChange (level : Bool)
  /-- DOCK_DEBOUNCE_COMPLETE -/
  | dockDebounceComplete
  /-- HANDLE_CHANGE, to the given level -/
  | handleChange (level : Bool)
  /-- HANDLE_DEBOUNCE_COMPLETE -/
  | handleDebounceComplete
  /-- RELOAD_EDGE -/
  | reloadEdge
  /-- SHOCK_TEST_EDGE -/
  | shockTestEdge
  /-- DATA_READY_EDGE -/
  | dataReadyEdge
  /-- SAMPLE: the three 16-bit values of a completed sensor read -/
  | sample (x y z : BitVec 16)
  /-- LOSS_TIMER_EXPIRY -/
  | lossTimerExpiry
  /-- POWER_DEADLINE_EXPIRY -/
  | powerDeadlineExpiry (i : SlotId)
  /-- SPIN_DEADLINE_EXPIRY -/
  | spinDeadlineExpiry (i : SlotId)
  /-- LOAD_DEADLINE_EXPIRY -/
  | loadDeadlineExpiry (i : SlotId)
  /-- UNLOAD_DEADLINE_EXPIRY -/
  | unloadDeadlineExpiry (i : SlotId)
  /-- STOP_DEADLINE_EXPIRY -/
  | stopDeadlineExpiry (i : SlotId)
  /-- QUERY_SCHEDULE_EXPIRY -/
  | queryScheduleExpiry (i : SlotId)
  /-- IDLE_TIMER_EXPIRY -/
  | idleTimerExpiry (i : SlotId)
  /-- STAGGER_TIMER_EXPIRY -/
  | staggerTimerExpiry (b : BankId)
  /-- TRANSIT_TIMER_EXPIRY -/
  | transitTimerExpiry
  /-- HOLD_DEADLINE_EXPIRY of the held entry with the tag -/
  | holdDeadlineExpiry (i : SlotId) (tag : Tag)
  /-- PROFILE_READ_COMPLETE, with the image bytes that arrived -/
  | profileReadComplete (image : List Byte)
  /-- READ_LIMIT_EXPIRY -/
  | readLimitExpiry
  /-- DRIVE_FRAME_SENT -/
  | driveFrameSent (i : SlotId)
  /-- UPSTREAM_FRAME_SENT -/
  | upstreamFrameSent
  deriving DecidableEq, Repr

end Sys2Proof
end

