-- ==== Sys2Proof/Decode.lean ====
section
/-! DEFINITION. The byte layouts of chapter 10 in both directions: the op, control and report bytes (R174, R175),
and the frames of the controller link and the drive links (R173). spec/opcode_table.json gives no row
any bits, so `decodeTableWord` answers none (log entry 27). -/

namespace Sys2Proof

/-- The command a word spells by the table's bits. No row of spec/opcode_table.json gives bits. -/
def decodeTableWord (_nbits _w : Nat) : Option Instr := none

/-- The op byte of an operation (R174). -/
def Op.code : Op → Byte
  | .read => 0x01
  | .write => 0x02
  | .verify => 0x03
  | .flush => 0x04
  | .identify => 0x10
  | .sense => 0x11
  | .probe => 0x20
  | .spinUp => 0x30
  | .loadHeads => 0x31
  | .unloadHeads => 0x32
  | .spinDown => 0x33
  | .powerOff => 0x34
  | .abort => 0x3F
  | .other code => code

/-- The operation an op byte names (R94, R174); every value R174 does not name is `other`. -/
def Op.ofCode (code : Byte) : Op :=
  if code = 0x01 then .read
  else if code = 0x02 then .write
  else if code = 0x03 then .verify
  else if code = 0x04 then .flush
  else if code = 0x10 then .identify
  else if code = 0x11 then .sense
  else if code = 0x20 then .probe
  else if code = 0x30 then .spinUp
  else if code = 0x31 then .loadHeads
  else if code = 0x32 then .unloadHeads
  else if code = 0x33 then .spinDown
  else if code = 0x34 then .powerOff
  else if code = 0x3F then .abort
  else .other code

/-- Byte 1 of the frames that carry a slot and a tag: slot in bits 0..3, tag in bits 4..6, and bit 7
the source of a COMPLETION or reserved (R173). -/
def slotTagByte (slot : SlotField) (tag : Tag) (top : Bool) : Byte :=
  BitVec.ofBool top ++ tag ++ slot

/-- The slot field of byte 1 (R173). -/
def byteSlot (b : Byte) : SlotField := b.extractLsb' 0 4

/-- The tag of byte 1 (R173). -/
def byteTag (b : Byte) : Tag := b.extractLsb' 4 3

/-- Bit 7 of byte 1 (R173). -/
def byteTop (b : Byte) : Bool := b.getLsbD 7

/-- The two bytes of a 16-bit field, low byte first. -/
def bytes16 (v : BitVec 16) : List Byte := [v.extractLsb' 0 8, v.extractLsb' 8 8]

/-- A 16-bit field of two bytes, low byte first. -/
def word16 (lo hi : Byte) : BitVec 16 := hi ++ lo

/-- The three bytes of a 24-bit field, low byte first. -/
def bytes24 (v : BitVec 24) : List Byte :=
  [v.extractLsb' 0 8, v.extractLsb' 8 8, v.extractLsb' 16 8]

/-- A 24-bit field of three bytes, low byte first. -/
def word24 (b0 b1 b2 : Byte) : BitVec 24 := b2 ++ b1 ++ b0

/-- The six bytes of a 48-bit block address, low byte first. -/
def bytes48 (v : BitVec 48) : List Byte :=
  [v.extractLsb' 0 8, v.extractLsb' 8 8, v.extractLsb' 16 8, v.extractLsb' 24 8,
   v.extractLsb' 32 8, v.extractLsb' 40 8]

/-- A 48-bit block address of six bytes, low byte first. -/
def word48 (b0 b1 b2 b3 b4 b5 : Byte) : BitVec 48 := b5 ++ b4 ++ b3 ++ b2 ++ b1 ++ b0

/-- Byte 4 of a DATA or DATA_REQUEST frame: length − 1 in bits 0..3, bits 4..7 reserved (R173). -/
def lengthByte (lenM1 lenRsv : BitVec 4) : Byte := lenRsv ++ lenM1

/-- A COMMAND frame as bytes (R173). A forwarded COMMAND goes to the drive byte for byte as it arrived,
so this is its layout on both links. -/
def Cmd.bytes (c : Cmd) : List Byte :=
  [0x01, slotTagByte c.args.slot c.args.tag c.args.rsv, c.op.code, c.args.flags]
    ++ bytes48 c.args.lba ++ bytes16 c.args.countM1

/-- A DATA frame as bytes, under the kind byte of its direction (R173). -/
def DataBody.bytes (kind : Byte) (slot : SlotField) (d : DataBody) : List Byte :=
  [kind, slotTagByte slot d.tag d.rsv] ++ bytes16 d.offset ++ [lengthByte d.lenM1 d.lenRsv]
    ++ d.payload

/-- A DATA_REQUEST frame as bytes (R173). -/
def RequestBody.bytes (slot : SlotField) (r : RequestBody) : List Byte :=
  [0x83, slotTagByte slot r.tag r.rsv] ++ bytes16 r.offset ++ [lengthByte r.lenM1 r.lenRsv]

/-- The bytes of a frame from the case controller (R142, R173); a discarded frame has none of its own. -/
def CtrlFrame.bytes : CtrlFrame → List Byte
  | .command c => c.bytes
  | .data slot d => d.bytes 0x02 slot
  | .linkReset => [0x03]
  | .discarded => []

/-- The bytes of a frame from a drive (R126, R173, R175), its slot bits 0. The bytes that the part
writes over in a COMPLETION are sent as 0. -/
def DriveFrame.bytes : DriveFrame → List Byte
  | .completion r =>
    [0x81, slotTagByte 0 r.tag false, r.op, r.code] ++ bytes24 r.residual ++ [0, 0, 0]
  | .data d => d.bytes 0x82 0
  | .dataRequest r => r.bytes 0
  | .controlReply op answer => [0x90, op, answer]
  | .stateReply report => [0x91, report]
  | .alertSelfUnload => [0x92, 0x01]
  | .alertFault => [0x92, 0x02]
  | .discarded => []

/-- The body of a DATA frame from its bytes 1 onward (R173). -/
def dataBody (b1 lo hi b4 : Byte) (payload : List Byte) : DataBody :=
  { tag := byteTag b1, rsv := byteTop b1, offset := word16 lo hi,
    lenM1 := b4.extractLsb' 0 4, lenRsv := b4.extractLsb' 4 4, payload := payload }

/-- The body of a DATA_REQUEST frame from its bytes 1 to 4 (R173). -/
def requestBody (b1 lo hi b4 : Byte) : RequestBody :=
  { tag := byteTag b1, rsv := byteTop b1, offset := word16 lo hi,
    lenM1 := b4.extractLsb' 0 4, lenRsv := b4.extractLsb' 4 4 }

/-- The frame that bytes from the case controller spell: a COMMAND, a DATA frame or a LINK_RESET, and a
discarded frame for everything else. Bytes beyond a kind's length are ignored, a payload apart (R173). -/
def parseCtrl : List Byte → CtrlFrame
  | [] => .discarded
  | kind :: rest =>
    if kind = 0x01 then
      match rest with
      | b1 :: op :: fl :: a0 :: a1 :: a2 :: a3 :: a4 :: a5 :: c0 :: c1 :: _ =>
        .command
          { op := Op.ofCode op
            args :=
              { slot := byteSlot b1, tag := byteTag b1, rsv := byteTop b1, flags := fl,
                lba := word48 a0 a1 a2 a3 a4 a5, countM1 := word16 c0 c1 } }
      | _ => .discarded
    else if kind = 0x02 then
      match rest with
      | b1 :: lo :: hi :: b4 :: payload => .data (byteSlot b1) (dataBody b1 lo hi b4 payload)
      | _ => .discarded
    else if kind = 0x03 then .linkReset
    else .discarded

/-- The frame that bytes from a drive spell. A CONTROL_REPLY keeps its two bytes, which the port judges
(R126, R175); the slot bits are ignored (R173). -/
def parseDrive : List Byte → DriveFrame
  | [] => .discarded
  | kind :: rest =>
    if kind = 0x81 then
      match rest with
      | b1 :: op :: code :: r0 :: r1 :: r2 :: _ :: _ :: _ :: _ =>
        .completion { tag := byteTag b1, op := op, code := code, residual := word24 r0 r1 r2 }
      | _ => .discarded
    else if kind = 0x82 then
      match rest with
      | b1 :: lo :: hi :: b4 :: payload => .data (dataBody b1 lo hi b4 payload)
      | _ => .discarded
    else if kind = 0x83 then
      match rest with
      | b1 :: lo :: hi :: b4 :: _ => .dataRequest (requestBody b1 lo hi b4)
      | _ => .discarded
    else if kind = 0x90 then
      match rest with
      | op :: answer :: _ => .controlReply op answer
      | _ => .discarded
    else if kind = 0x91 then
      match rest with
      | report :: _ => .stateReply report
      | _ => .discarded
    else if kind = 0x92 then
      match rest with
      | b1 :: _ =>
        if b1 = 0x01 then .alertSelfUnload
        else if b1 = 0x02 then .alertFault
        else .discarded
      | _ => .discarded
    else .discarded

end Sys2Proof
end

