-- ==== Sys2Proof/Config.lean ====
section
/-! DEFINITION. What is fixed in the part (times, capacities, slot states, levels) and the transit profile:
the profile's shape (R165, R166), its built-in defaults (R167), and the levels of the case lines that
`State.reset` assumes (log entry 4). Durations of a profile are held in milliseconds (R165). -/

namespace Sys2Proof

/-- The levels of the ladder, lowest first (R1); the park level takes one of the first three. -/
inductive Level where
  | off
  | idle
  | spun
  | loaded
  deriving DecidableEq, Repr

/-- The motion states (R66). -/
inductive MotionSt where
  | settling
  | still
  | rolling
  | tilted
  | jolt
  | sensorLost
  deriving DecidableEq, Repr

/-- The edge policies of the device notice (R148). -/
inductive EdgePolicy where
  | none
  | entry
  | entryAndExit
  deriving DecidableEq, Repr

/-- One slot map entry: enabled, bank and class (R5, R165). -/
structure SlotMap where
  enabled : Bool
  bank : BankId
  cls : ClassId
  deriving DecidableEq, Repr

/-- The entries of one class (R166): currents in budget units, deadlines and idle times in milliseconds.
An idle time of 0 leaves the idle timer absent (R27). -/
structure ClassEntry where
  iElec : Nat
  iRun : Nat
  iHead : Nat
  iSpin : Nat
  powerMs : Nat
  spinMs : Nat
  loadMs : Nat
  unloadMs : Nat
  stopMs : Nat
  unloadIdleMs : Nat
  stopIdleMs : Nat
  offIdleMs : Nat
  deriving DecidableEq, Repr

/-- The motion parameters of section 3.7. -/
structure MotionParams where
  kb : Nat
  kv : Nat
  tjolt : Nat
  troll : Nat
  nroll : Nat
  wquiet : Nat
  tsettle : Nat
  dsettle : Nat
  ttilt : Int
  htilt : Nat
  deriving DecidableEq, Repr

/-- One permit row (R78). -/
structure PermitRow where
  load : Bool
  spin : Bool
  unloadOnEntry : Bool
  deriving DecidableEq, Repr

/-- The permit rows the profile supplies; JOLT's row is fixed in the part (R78). -/
structure PermitTable where
  settling : PermitRow
  still : PermitRow
  rolling : PermitRow
  tilted : PermitRow
  sensorLost : PermitRow
  deriving DecidableEq, Repr

/-- The edge policy of each motion state (R148). -/
structure EdgeTable where
  settling : EdgePolicy
  still : EdgePolicy
  rolling : EdgePolicy
  tilted : EdgePolicy
  jolt : EdgePolicy
  sensorLost : EdgePolicy
  deriving DecidableEq, Repr

/-- A transit profile: a complete set of clamped values (R162, R165). -/
structure Profile where
  slots : Vector SlotMap 10
  dock : Vector Nat 2
  battery : Vector Nat 2
  concurrency : Vector Nat 2
  staggerMs : Nat
  probeMs : Nat
  holdMs : Nat
  retryLimit : Nat
  transitMs : Nat
  parkLevel : Level
  motion : MotionParams
  permits : PermitTable
  edges : EdgeTable
  motionNotice : Bool
  classes : Vector ClassEntry 4
  deriving DecidableEq, Repr

/-- The class defaults of R166. -/
def Config.defaultClass : ClassEntry :=
  { iElec := 40, iRun := 60, iHead := 80, iSpin := 250,
    powerMs := 3000, spinMs := 15000, loadMs := 800, unloadMs := 500, stopMs := 20000,
    unloadIdleMs := 30000, stopIdleMs := 600000, offIdleMs := 0 }

/-- The motion parameter defaults of section 3.7. -/
def Config.defaultMotion : MotionParams :=
  { kb := 9, kv := 4, tjolt := 250, troll := 40, nroll := 80, wquiet := 3,
    tsettle := 24, dsettle := 400, ttilt := 96, htilt := 8 }

/-- The built-in slot map: all enabled, class 0, slots 0..4 on bank 0 and 5..9 on bank 1 (R2, R167). -/
def Config.defaultSlots : Vector SlotMap 10 :=
  #v[⟨true, 0, 0⟩, ⟨true, 0, 0⟩, ⟨true, 0, 0⟩, ⟨true, 0, 0⟩, ⟨true, 0, 0⟩,
     ⟨true, 1, 0⟩, ⟨true, 1, 0⟩, ⟨true, 1, 0⟩, ⟨true, 1, 0⟩, ⟨true, 1, 0⟩]

/-- The default permit rows (R78). -/
def Config.defaultPermits : PermitTable :=
  { settling := ⟨false, true, true⟩, still := ⟨true, true, false⟩, rolling := ⟨false, true, true⟩,
    tilted := ⟨false, true, true⟩, sensorLost := ⟨false, true, true⟩ }

/-- The default edge policies (R148, R165). -/
def Config.defaultEdges : EdgeTable :=
  { settling := .none, still := .none, rolling := .none, tilted := .entry, jolt := .entry,
    sensorLost := .entry }

/-- The built-in defaults (R167). -/
def Config.defaults : Profile :=
  { slots := Config.defaultSlots
    dock := #v[400, 400]
    battery := #v[400, 400]
    concurrency := #v[1, 1]
    staggerMs := 1500
    probeMs := 50
    holdMs := 60000
    retryLimit := 2
    transitMs := 5000
    parkLevel := .idle
    motion := Config.defaultMotion
    permits := Config.defaultPermits
    edges := Config.defaultEdges
    motionNotice := false
    classes := #v[Config.defaultClass, Config.defaultClass, Config.defaultClass, Config.defaultClass] }

/-- The keep-alive interval of the QUERY schedule, 1 second (R9). -/
def Config.keepAliveMs : Nat := 1000
/-- The DOCK and HANDLE debounce, 100 ms (R30, R86). -/
def Config.lineDebounceMs : Nat := 100
/-- The PRESENT debounce, 500 ms (R24). -/
def Config.presentDebounceMs : Nat := 500
/-- The loss timer, 10 ms (R54). -/
def Config.lossMs : Nat := 10
/-- The read limit of a profile read, 100 ms (R163). -/
def Config.readLimitMs : Nat := 100
/-- The samples of a window (R64). -/
def Config.windowSamples : Nat := 800
/-- The places of a slot upstream queue (R141). -/
def Config.upstreamPlaces : Nat := 48
/-- The places of the bad-slot queue (R141). -/
def Config.badSlotPlaces : Nat := 4
/-- The free places every slot upstream queue must have before a controller frame is taken (R143). -/
def Config.ctrlReserve : Nat := 18
/-- The free places a slot upstream queue must have before a drive's data frame is taken (R144). -/
def Config.driveReserve : Nat := 17
/-- The places of a data source (R131). -/
def Config.dataPlaces : Nat := 64
/-- The data requests a record lists (R97, R122). -/
def Config.requestPlaces : Nat := 8
/-- The most times a command is returned to the hold queue (R115). -/
def Config.reissueLimit : Nat := 3
/-- The missed QUERYs, and the cancel misses, that end in LINK_LOST (R9, R139). -/
def Config.missLimit : Nat := 3

/-- The PRESENT levels `State.reset` is sampled at: all ten drives seated, as in section 11.1.
DESIGN CHOICE (log entry 4), unsafe: the spec gives an input line no level. -/
def Config.resetPresent : Bool := true
/-- The POWER_FAULT levels `State.reset` is sampled at: no trip. DESIGN CHOICE (log entry 4), unsafe. -/
def Config.resetPowerFault : Bool := false
/-- The DOCK level `State.reset` is sampled at: docked, as in section 11.1. DESIGN CHOICE (log entry 4),
unsafe. -/
def Config.resetDock : Bool := true
/-- The HANDLE level `State.reset` is sampled at: not extended. DESIGN CHOICE (log entry 4), unsafe. -/
def Config.resetHandle : Bool := false

end Sys2Proof
end

