-- ==== Sys2Proof/Machine/State.lean ====
section
/-! DEFINITION. The state of the NP-610: every field the blocks of chapters 1 to 9 hold, the levels of the case
lines, the frames that wait on the links, and the queue of commands; with the fault and refusal types
and the state right after reset. -/

namespace Sys2Proof.Machine

/-- The reasons a command stops the machine. There is none: every command of this part has an effect (a
frame or an event that the spec discards has the effect of changing nothing), so the type has no
constructor and no step can answer a fault. Safe. -/
inductive Fault where
  deriving DecidableEq, Repr

/-- The reasons a command has no meaning in the model. -/
inductive Refusal where
  /-- Raised by `exec`'s arm of a command that has no meaning yet. Safe. No arm raises it. -/
  | notModelled (mnemonic : String)
  deriving DecidableEq, Repr

/-- The eleven states of a slot (R1). -/
inductive SlotSt where
  | empty
  | off
  | powering
  | idle
  | spinningUp
  | spun
  | loading
  | loaded
  | unloading
  | stopping
  | fault
  deriving DecidableEq, Repr

/-- The cause of the most recent spin failure (R2, R12). -/
inductive SpinFailure where
  | timeout
  | refused
  deriving DecidableEq, Repr

/-- The outstanding control operation (R2, R8). -/
inductive Outstanding where
  | none
  | spin
  | load
  | unload
  | stop
  | queryOnly
  deriving DecidableEq, Repr

/-- The operations of a CONTROL frame (R125, R175). -/
inductive ControlOp where
  | spin
  | load
  | unload
  | stop
  | query
  | cancelAll
  deriving DecidableEq, Repr

/-- The slot context of the slot engine (R2). Times are milliseconds since power-on reset. -/
structure SlotContext where
  state : SlotSt
  map : SlotMap
  retry : Nat
  spinMark : Bool
  lastFail : SpinFailure
  emergency : Bool
  outstanding : Outstanding
  stepDeadline : Option Nat
  queryPending : Bool
  missed : Nat
  lastActivity : Nat
  idleTimer : Option Nat
  faultAck : Bool
  presentDebounce : Option Nat
  latch : Bool
  deriving DecidableEq, Repr

/-- Whether a held command has been forwarded before (R96). -/
inductive Origin where
  | new
  | requeued
  deriving DecidableEq, Repr

/-- A hold entry (R96). The tag, operation, block address, count and flags are those of `cmd`. -/
structure HoldEntry where
  cmd : Cmd
  origin : Origin
  seq : Option Seq
  reissue : Nat
  deadline : Option Nat
  inProgress : Bool
  deriving DecidableEq, Repr

/-- One data request of a record (R97): offset, and length carried as length − 1. -/
structure DataRequest where
  offset : BitVec 16
  lenM1 : BitVec 4
  deriving DecidableEq, Repr

/-- An in-flight record (R97). -/
structure InFlight where
  cmd : Cmd
  seq : Seq
  reissue : Nat
  abortForwarded : Bool
  requests : List DataRequest
  deriving DecidableEq, Repr

/-- The state of one command passage (R95). The abort list holds the forwarded ABORT frames whole,
since R117 completes each with its own count field (log entry 11). -/
structure Passage where
  hold : List HoldEntry
  flight : List InFlight
  aborts : List Cmd
  nextSeq : Seq
  demand : Option Level
  deriving DecidableEq, Repr

/-- A frame on its way down a drive link (R125); its constructor names its source (R131). -/
inductive DownFrame where
  | control (op : ControlOp)
  | command (c : Cmd)
  | data (d : DataBody)
  deriving DecidableEq, Repr

/-- A running QUERY schedule: the expiry time of the next QUERY and the interval (R131). -/
structure QuerySchedule where
  expiry : Nat
  interval : Nat
  deriving DecidableEq, Repr

/-- The state of one drive link port (R131). -/
structure Port where
  control : List ControlOp
  command : List Cmd
  data : List DataBody
  sending : Option DownFrame
  query : Option QuerySchedule
  cancelPending : Bool
  cancelMiss : Nat
  deriving DecidableEq, Repr

/-- The codes of a sense entry (R153). -/
inductive SenseCode where
  | powerTimeout
  | spinTimeout
  | spinRefused
  | loadFailed
  | unloadFailed
  | stopTimeout
  | linkLost
  | driveFault
  | powerTrip
  | slotRemoved
  | emergencyUnload
  | selfUnload
  | aborted
  | slotEmpty
  | slotFault
  | tagInUse
  | inTransit
  | holdExpired
  | motionAbort
  deriving DecidableEq, Repr

/-- An occupied sense record (R152). Its class is fixed by its code (R153). -/
structure SenseRecord where
  code : SenseCode
  tag : Option Tag
  slotState : SlotSt
  motion : MotionSt
  held : Nat
  requeued : Option Nat
  overrun : Nat
  deriving DecidableEq, Repr

/-- The source of a COMPLETION (R173). -/
inductive Source where
  | drive
  | interposer
  deriving DecidableEq, Repr

/-- The slot hint of a COMPLETION (R147); no state stands for NO_SLOT. -/
structure Hint where
  state : Option SlotSt
  held : Nat
  deriving DecidableEq, Repr

/-- A COMPLETION on its way up, before its transit word is filled (R144, R146). -/
structure Completion where
  slot : SlotField
  tag : Tag
  op : Byte
  source : Source
  code : Byte
  residual : BitVec 24
  hint : Hint
  deriving DecidableEq, Repr

/-- A frame on its way up (R144). -/
inductive UpFrame where
  | completion (c : Completion)
  | data (slot : SlotField) (d : DataBody)
  | dataRequest (slot : SlotField) (r : RequestBody)
  deriving DecidableEq, Repr

/-- The upstream frame in transmission; a COMPLETION carries the transit word it was filled with when
its transmission began (R146). -/
structure UpSending where
  frame : UpFrame
  word : Option (BitVec 16)
  deriving DecidableEq, Repr

/-- Everything the part holds for one slot: the slot context (R2), the command passage (R95), the
drive link port (R131), the sense record and slot notice (R152), the slot upstream queue and cancel
fence (R141), the charge (R32), the emergency requeue count (R77), the levels of its PRESENT and
POWER_FAULT lines, and the frames that wait on its drive link (R144). -/
structure Slot where
  ctx : SlotContext
  pass : Passage
  port : Port
  record : Option SenseRecord
  notice : Bool
  upstream : List UpFrame
  fence : Bool
  charge : Nat
  requeues : Nat
  presentLine : Bool
  powerFaultLine : Bool
  waiting : List DriveFrame
  deriving DecidableEq, Repr

/-- The kinds of admission entry (R35). -/
inductive Kind where
  | power
  | spin
  | load
  deriving DecidableEq, Repr

/-- An admission entry (R35); its order is its place in the queue. `retried` marks an entry placed by a
retry decision (R13, R15), whose grant keeps the retry count (R14, log entry 10). -/
structure AdmEntry where
  slot : SlotId
  kind : Kind
  bank : BankId
  retried : Bool
  deriving DecidableEq, Repr

/-- The admission unit's account of one bank (R30 to R43). The sum is computed (log entry 12). -/
structure Bank where
  budget : Nat
  overdraw : Bool
  stagger : Option Nat
  deriving DecidableEq, Repr

/-- The admission unit (R30 to R43): the admission queue, head first, the recognized DOCK value and its
debounce, and the accounts of the two banks. -/
structure Admission where
  queue : List AdmEntry
  dock : Bool
  dockDebounce : Option Nat
  banks : Vector Bank 2
  deriving DecidableEq, Repr

/-- The motion monitor (R55). -/
structure Motion where
  state : MotionSt
  seeded : Bool
  gx : Int
  gy : Int
  gz : Int
  acc : Nat
  tally : Nat
  tLast : Nat
  window : Nat
  settle : Nat
  quiet : Nat
  shockPending : Bool
  reading : Bool
  lossTimer : Option Nat
  deriving DecidableEq, Repr

/-- Park control (R77), but for the requeue count of each slot, which stands in `Slot`. -/
structure Park where
  handle : Bool
  handleDebounce : Option Nat
  transitTimer : Option Nat
  lowering : Bool
  deriving DecidableEq, Repr

/-- The read state of the profile loader (R162). -/
inductive ReadState where
  | idle
  | powerOnRead
  | reloadRead
  deriving DecidableEq, Repr

/-- The profile loader (R162). -/
structure Loader where
  profile : Profile
  readState : ReadState
  again : Bool
  defaulted : Bool
  rejected : Bool
  readLimit : Option Nat
  deriving DecidableEq, Repr

/-- The controller link port (R141), but for the queues and fences of the slots, which stand in `Slot`.
`waiting` holds the frames that wait on the controller link, oldest first (R143, log entry 6). -/
structure CtrlPort where
  badSlot : List UpFrame
  lastServed : Fin 11
  sending : Option UpSending
  deviceNotice : Bool
  causeMotion : Bool
  causeProfile : Bool
  waiting : List CtrlFrame
  deriving DecidableEq, Repr

/-- The machine: the slots, the blocks of which there is one, the levels of the RESET, DOCK and HANDLE
lines, the time in milliseconds since power-on reset, and the commands that wait, first in, first
out. -/
structure State where
  slots : Vector Slot 10
  admission : Admission
  motion : Motion
  park : Park
  loader : Loader
  ctrl : CtrlPort
  resetAsserted : Bool
  dockLine : Bool
  handleLine : Bool
  now : Nat
  pending : List Instr
  deriving DecidableEq, Repr

/-- A command passage after power-on reset (R95). -/
def Passage.reset : Passage :=
  { hold := [], flight := [], aborts := [], nextSeq := 0, demand := none }

/-- A drive link port after power-on reset (R131). -/
def Port.reset : Port :=
  { control := [], command := [], data := [], sending := none, query := none,
    cancelPending := false, cancelMiss := 0 }

/-- A slot after power-on reset, with its lines at the levels given: OFF where PRESENT is asserted and
EMPTY where not (R3); every other field as its own table gives it (R2, R77, R95, R131, R141, R152). -/
def Slot.reset (map : SlotMap) (present powerFault : Bool) : Slot :=
  { ctx :=
      { state := if present then .off else .empty, map := map, retry := 0, spinMark := false,
        lastFail := .timeout, emergency := false, outstanding := .none, stepDeadline := none,
        queryPending := false, missed := 0, lastActivity := 0, idleTimer := none,
        faultAck := false, presentDebounce := none, latch := powerFault }
    pass := Passage.reset, port := Port.reset, record := none, notice := false, upstream := [],
    fence := false, charge := 0, requeues := 0, presentLine := present,
    powerFaultLine := powerFault, waiting := [] }

/-- A bank's account after power-on reset (R31, R42, R43). -/
def Bank.reset : Bank := { budget := 400, overdraw := false, stagger := none }

/-- The motion monitor after power-on reset, its loss timer started (R54, R55). -/
def Motion.reset : Motion :=
  { state := .settling, seeded := false, gx := 0, gy := 0, gz := 0, acc := 0, tally := 0,
    tLast := 0, window := 0, settle := 0, quiet := 0, shockPending := false, reading := false,
    lossTimer := some Config.lossMs }

/-- Park control after power-on reset with HANDLE sampled at the level given (R77, R86): sampled
asserted, the lock stands and the transit timer runs. -/
def Park.reset (handle : Bool) : Park :=
  { handle := handle, handleDebounce := none,
    transitTimer := if handle then some Config.defaults.transitMs else none, lowering := false }

/-- The profile loader after power-on reset, the power-on read started (R162, R163, R168). -/
def Loader.reset : Loader :=
  { profile := Config.defaults, readState := .powerOnRead, again := false, defaulted := false,
    rejected := false, readLimit := some Config.readLimitMs }

/-- The controller link port after power-on reset (R141), with nothing waiting on the link. -/
def CtrlPort.reset : CtrlPort :=
  { badSlot := [], lastServed := 10, sending := none, deviceNotice := false, causeMotion := false,
    causeProfile := false, waiting := [] }

/-- The machine as the deassertion of RESET leaves it, with the case lines sampled at the levels given,
before any slot with a set POWER_FAULT latch enters FAULT (R3). -/
def State.afterReset (present powerFault : Vector Bool 10) (dock handle : Bool) : State :=
  { slots :=
      #v[Slot.reset ⟨true, 0, 0⟩ present[0] powerFault[0],
         Slot.reset ⟨true, 0, 0⟩ present[1] powerFault[1],
         Slot.reset ⟨true, 0, 0⟩ present[2] powerFault[2],
         Slot.reset ⟨true, 0, 0⟩ present[3] powerFault[3],
         Slot.reset ⟨true, 0, 0⟩ present[4] powerFault[4],
         Slot.reset ⟨true, 1, 0⟩ present[5] powerFault[5],
         Slot.reset ⟨true, 1, 0⟩ present[6] powerFault[6],
         Slot.reset ⟨true, 1, 0⟩ present[7] powerFault[7],
         Slot.reset ⟨true, 1, 0⟩ present[8] powerFault[8],
         Slot.reset ⟨true, 1, 0⟩ present[9] powerFault[9]]
    admission := { queue := [], dock := dock, dockDebounce := none, banks := #v[Bank.reset, Bank.reset] }
    motion := Motion.reset
    park := Park.reset handle
    loader := Loader.reset
    ctrl := CtrlPort.reset
    resetAsserted := false
    dockLine := dock
    handleLine := handle
    now := 0
    pending := [] }

/-- The machine right after reset, its case lines at the levels of log entry 4. -/
def State.reset : State :=
  State.afterReset (Vector.replicate 10 Config.resetPresent)
    (Vector.replicate 10 Config.resetPowerFault) Config.resetDock Config.resetHandle

end Sys2Proof.Machine
end

