-- ==== Sys2Proof/Machine/Operands.lean ====
section
/-! DEFINITION. What the operands of a command mean: the class and needed level of an operation (R94), the level,
power and settledness of a slot state (R1), completion codes (R174), control, state and alert values
(R175), slot fields (R143), and the readings of a sample (R53). -/

namespace Sys2Proof

/-- The place of a level on the ladder, from 1 for OFF (R1). -/
def Level.rank : Level → Nat
  | .off => 1
  | .idle => 2
  | .spun => 3
  | .loaded => 4

/-- The classes of operation (R94), with the needed level or the target level. -/
inductive OpClass where
  | media
  | attached
  | probe
  | raising (need : Level)
  | lowering (target : Level)
  | abort
  deriving DecidableEq, Repr

/-- The class of an operation (R94). A SENSE that reaches a hold queue is an attached command (R101). -/
def Op.cls : Op → OpClass
  | .read => .media
  | .write => .media
  | .verify => .media
  | .flush => .media
  | .identify => .attached
  | .sense => .attached
  | .probe => .probe
  | .spinUp => .raising .spun
  | .loadHeads => .raising .loaded
  | .unloadHeads => .lowering .spun
  | .spinDown => .lowering .idle
  | .powerOff => .lowering .off
  | .abort => .abort
  | .other _ => .attached

/-- The level an operation of a class needs (R29, R94). -/
def OpClass.need : OpClass → Option Level
  | .media => some .loaded
  | .attached => some .idle
  | .probe => none
  | .raising l => some l
  | .lowering _ => none
  | .abort => none

/-- The needed level of an operation (R29, R94). -/
def Op.need (op : Op) : Option Level := op.cls.need

/-- The operation needs a level above the given one (R88, R104). -/
def Op.above (op : Op) (park : Level) : Bool :=
  match op.need with
  | none => false
  | some l => park.rank < l.rank

/-- The five spindle commands, which a FAULT slot hands to the slot engine (R26, R102). -/
def Op.isSpindle (op : Op) : Bool :=
  match op.cls with
  | .raising _ => true
  | .lowering _ => true
  | _ => false

/-- The count of a command, 1..65536 (R142). -/
def CmdArgs.count (c : CmdArgs) : Nat := c.countM1.toNat + 1

namespace Machine

/-- The place on the ladder of a slot state's level; 0 stands for "none", below OFF (R1). -/
def SlotSt.rank : SlotSt → Nat
  | .empty => 0
  | .off => 1
  | .powering => 1
  | .idle => 2
  | .spinningUp => 2
  | .spun => 3
  | .loading => 3
  | .loaded => 4
  | .unloading => 3
  | .stopping => 2
  | .fault => 0

/-- The powered states, which are those that ask for power (R1). -/
def SlotSt.powered : SlotSt → Bool
  | .empty => false
  | .off => false
  | .powering => true
  | .idle => true
  | .spinningUp => true
  | .spun => true
  | .loading => true
  | .loaded => true
  | .unloading => true
  | .stopping => true
  | .fault => false

/-- The settled states OFF, IDLE, SPUN and LOADED (R1). -/
def SlotSt.settled : SlotSt → Bool
  | .empty => false
  | .off => true
  | .powering => false
  | .idle => true
  | .spinningUp => false
  | .spun => true
  | .loading => false
  | .loaded => true
  | .unloading => false
  | .stopping => false
  | .fault => false

/-- A slot in the state holds the level (R94). -/
def SlotSt.holds (st : SlotSt) (need : Level) : Bool := need.rank ≤ st.rank

/-- The slot a slot field names, if it names one (R143). -/
def slotOfField (f : SlotField) : Option SlotId :=
  if h : f.toNat < 10 then some ⟨f.toNat, h⟩ else none

/-- The slot field that names a slot (R126). -/
def fieldOfSlot (i : SlotId) : SlotField := BitVec.ofNat 4 i.val

/-- The code byte OK (R174). -/
def codeOk : Byte := 0x00
/-- The code byte ABORTED (R174). -/
def codeAborted : Byte := 0x01
/-- The code byte UNLOADED_ABORT (R174). -/
def codeUnloadedAbort : Byte := 0x02
/-- The code byte NOT_LOADED (R174). -/
def codeNotLoaded : Byte := 0x03
/-- The code byte BAD_SLOT (R174). -/
def codeBadSlot : Byte := 0x40
/-- The code byte SLOT_EMPTY (R174). -/
def codeSlotEmpty : Byte := 0x41
/-- The code byte SLOT_FAULT (R174). -/
def codeSlotFault : Byte := 0x42
/-- The code byte TAG_IN_USE (R174). -/
def codeTagInUse : Byte := 0x43
/-- The code byte TAG_UNKNOWN (R174). -/
def codeTagUnknown : Byte := 0x44
/-- The code byte IN_TRANSIT (R174). -/
def codeInTransit : Byte := 0x45
/-- The code byte HOLD_EXPIRED (R174). -/
def codeHoldExpired : Byte := 0x46
/-- The code byte MOTION_ABORT (R174). -/
def codeMotionAbort : Byte := 0x47

/-- The value of a control operation in a CONTROL frame (R175). -/
def ControlOp.code : ControlOp → Byte
  | .spin => 0x01
  | .load => 0x02
  | .unload => 0x03
  | .stop => 0x04
  | .query => 0x05
  | .cancelAll => 0x06

/-- The operation a CONTROL_REPLY names, if its byte 1 is one of the six values (R175). -/
def controlOpOf (b : Byte) : Option ControlOp :=
  if b = 0x01 then some .spin
  else if b = 0x02 then some .load
  else if b = 0x03 then some .unload
  else if b = 0x04 then some .stop
  else if b = 0x05 then some .query
  else if b = 0x06 then some .cancelAll
  else none

/-- The answers of a CONTROL_REPLY (R126, R175). -/
inductive Answer where
  | accepted
  | refused
  | done
  | failed
  deriving DecidableEq, Repr

/-- The answer a CONTROL_REPLY gives, if its byte 2 is one of the four values (R175). -/
def answerOf (b : Byte) : Option Answer :=
  if b = 0x01 then some .accepted
  else if b = 0x02 then some .refused
  else if b = 0x03 then some .done
  else if b = 0x04 then some .failed
  else none

/-- The spindle report of a STATE_REPLY (R10, R175). -/
inductive Spindle where
  | stopped
  | accelerating
  | atSpeed
  | decelerating
  deriving DecidableEq, Repr

/-- The heads report of a STATE_REPLY (R10, R175). -/
inductive Heads where
  | parked
  | moving
  | onMedia
  deriving DecidableEq, Repr

/-- The fault report of a STATE_REPLY (R10, R175). -/
inductive DriveFaultReport where
  | none
  | spindle
  | head
  deriving DecidableEq, Repr

/-- The spindle in bits 0..1 of a report byte (R175). -/
def reportSpindle (b : Byte) : Spindle :=
  match (b.extractLsb' 0 2).toNat with
  | 0 => .stopped
  | 1 => .accelerating
  | 2 => .atSpeed
  | _ => .decelerating

/-- The heads in bits 2..3 of a report byte; 3 is taken as MOVING (R175). -/
def reportHeads (b : Byte) : Heads :=
  match (b.extractLsb' 2 2).toNat with
  | 0 => .parked
  | 2 => .onMedia
  | _ => .moving

/-- The fault in bits 4..5 of a report byte; 3 is taken as HEAD (R175). -/
def reportFault (b : Byte) : DriveFaultReport :=
  match (b.extractLsb' 4 2).toNat with
  | 0 => .none
  | 1 => .spindle
  | _ => .head

/-- A reading of the sensor: the low 12 bits of a 16-bit value, sign-extended (R53). -/
def reading (v : BitVec 16) : Int := (v.setWidth 12).toInt

end Machine

end Sys2Proof
end

