-- ==== Sys2Proof/Machine/Flags.lean ====
section
/-! DEFINITION. The part's reports: the class and value of a sense code (R153, R176), the transit word (R146, R176),
the slot hint and the sense record as bytes (R176), upstream and CONTROL frames as bytes (R173), the
PWR_EN lines (R22), and the NOTICE line (R160). -/

namespace Sys2Proof.Machine

/-- The classes of sense entry (R153). -/
inductive SenseClass where
  | drive
  | motion
  | command
  deriving DecidableEq, Repr

/-- The class a sense code fixes (R153). -/
def SenseCode.cls : SenseCode → SenseClass
  | .powerTimeout => .drive
  | .spinTimeout => .drive
  | .spinRefused => .drive
  | .loadFailed => .drive
  | .unloadFailed => .drive
  | .stopTimeout => .drive
  | .linkLost => .drive
  | .driveFault => .drive
  | .powerTrip => .drive
  | .slotRemoved => .drive
  | .emergencyUnload => .motion
  | .selfUnload => .motion
  | .aborted => .command
  | .slotEmpty => .command
  | .slotFault => .command
  | .tagInUse => .command
  | .inTransit => .command
  | .holdExpired => .command
  | .motionAbort => .command

/-- The value of a sense code (R176). -/
def SenseCode.value : SenseCode → Byte
  | .powerTimeout => 0x10
  | .spinTimeout => 0x11
  | .spinRefused => 0x12
  | .loadFailed => 0x13
  | .unloadFailed => 0x14
  | .stopTimeout => 0x15
  | .linkLost => 0x16
  | .driveFault => 0x17
  | .powerTrip => 0x18
  | .slotRemoved => 0x19
  | .emergencyUnload => 0x20
  | .selfUnload => 0x21
  | .aborted => 0x01
  | .slotEmpty => 0x41
  | .slotFault => 0x42
  | .tagInUse => 0x43
  | .inTransit => 0x45
  | .holdExpired => 0x46
  | .motionAbort => 0x47

/-- The value of a sense class in byte 1 of the record (R176). -/
def SenseClass.value : SenseClass → Byte
  | .drive => 1
  | .motion => 2
  | .command => 3

/-- The code of a motion state in the transit word and the sense record (R176). -/
def MotionSt.code : MotionSt → Nat
  | .settling => 0
  | .still => 1
  | .rolling => 2
  | .tilted => 3
  | .jolt => 4
  | .sensorLost => 5

/-- The code of a slot state in the slot hint and the sense record (R176). -/
def SlotSt.code : SlotSt → Nat
  | .empty => 0
  | .off => 1
  | .powering => 2
  | .idle => 3
  | .spinningUp => 4
  | .spun => 5
  | .loading => 6
  | .loaded => 7
  | .unloading => 8
  | .stopping => 9
  | .fault => 10

/-- The slot hint byte: state code in bits 0..3, NO_SLOT being 15, and held count in bits 4..7 (R176). -/
def Hint.byte (h : Hint) : Byte :=
  let code := match h.state with
    | none => 15
    | some st => SlotSt.code st
  BitVec.ofNat 4 h.held ++ BitVec.ofNat 4 code

/-- A tag as a byte of the sense record, 0xFF when absent (R176). -/
def tagByte : Option Tag → Byte
  | none => 0xFF
  | some t => t.setWidth 8

/-- The payload of a SENSE answer from an occupied record, 16 bytes (R157, R176). -/
def SenseRecord.bytes (r : SenseRecord) : List Byte :=
  [r.code.value, r.code.cls.value, tagByte r.tag, BitVec.ofNat 8 (SlotSt.code r.slotState),
   BitVec.ofNat 8 (MotionSt.code r.motion), BitVec.ofNat 8 r.held,
   (match r.requeued with | none => 0xFF | some n => BitVec.ofNat 8 n), BitVec.ofNat 8 r.overrun,
   0, 0, 0, 0, 0, 0, 0, 0]

/-- The payload of a SENSE answer with no record: code NONE, no class, no tag, no requeued count, the
present slot state, motion state and held count, and an overrun of 0 (R158, R176). -/
def noneRecordBytes (st : SlotSt) (m : MotionSt) (held : Nat) : List Byte :=
  [0, 0, 0xFF, BitVec.ofNat 8 (SlotSt.code st), BitVec.ofNat 8 (MotionSt.code m),
   BitVec.ofNat 8 held, 0xFF, 0, 0, 0, 0, 0, 0, 0, 0, 0]

/-- A bit of the transit word. -/
def flagBit (n : Nat) (b : Bool) : Nat := if b then 2 ^ n else 0

/-- Some slot's notice is pending, the any-slot-notice field of the transit word (R146). -/
def State.anySlotNotice (s : State) : Bool := s.slots.toList.any (·.notice)

/-- The transit word as the owning blocks stand (R146, R176). -/
def State.transitWord (s : State) : BitVec 16 :=
  BitVec.ofNat 16
    (MotionSt.code s.motion.state + flagBit 3 s.park.handle + flagBit 4 s.admission.dock
      + flagBit 5 s.ctrl.deviceNotice + flagBit 6 s.anySlotNotice + flagBit 7 s.loader.defaulted
      + flagBit 8 s.loader.rejected + flagBit 9 s.ctrl.causeMotion + flagBit 10 s.ctrl.causeProfile)

/-- The NOTICE line: asserted exactly while some slot notice or the device notice is pending (R160). -/
def State.noticeLine (s : State) : Bool := s.anySlotNotice || s.ctrl.deviceNotice

/-- The PWR_EN line of a slot: on while its state asks for power, its POWER_FAULT latch is clear, and
RESET is deasserted (R22). -/
def State.powerEnable (s : State) (i : SlotId) : Bool :=
  s.slots[i].ctx.state.powered && !s.slots[i].ctx.latch && !s.resetAsserted

/-- The transit lock stands exactly while HANDLE recognized is asserted (R77). -/
def State.lock (s : State) : Bool := s.park.handle

/-- A source bit (R173). -/
def Source.bit : Source → Bool
  | .drive => false
  | .interposer => true

/-- A COMPLETION as it goes up with its transit word (R173). -/
def Completion.bytes (c : Completion) (word : BitVec 16) : List Byte :=
  [0x81, slotTagByte c.slot c.tag c.source.bit, c.op, c.code] ++ bytes24 c.residual
    ++ bytes16 word ++ [c.hint.byte]

/-- The upstream frame in transmission as bytes (R173). -/
def UpSending.bytes (u : UpSending) : List Byte :=
  match u.frame with
  | .completion c => c.bytes (u.word.getD 0)
  | .data slot d => d.bytes 0x82 slot
  | .dataRequest slot r => r.bytes slot

/-- A frame to the drive of a slot as bytes: a CONTROL frame carries its operation and nothing else; a
forwarded COMMAND or DATA frame goes as it arrived (R125, R173, R175). -/
def DownFrame.bytes (i : SlotId) : DownFrame → List Byte
  | .control op => [0x10, op.code]
  | .command c => c.bytes
  | .data d => d.bytes 0x02 (fieldOfSlot i)

end Sys2Proof.Machine
end

