-- ==== Sys2Proof/Machine/Ops.lean ====
section
/-! DEFINITION. The named operations every block uses: reading and writing one slot, time, the drive link port and
its arbiter (chapter 6), the idle timer and activity (R27), the upstream queues and their arbiter
(chapter 7), the sense store (chapter 8), completions the part makes (R106), and the entry of a slot
into a state (R1, R8, R9, R14, R32, R135). -/

namespace Sys2Proof.Machine

/-! ## One slot of the state -/

/-- What the part holds for slot i. -/
def State.slot (s : State) (i : SlotId) : Slot := s.slots[i]

/-- The state with slot i replaced. -/
def State.setSlot (s : State) (i : SlotId) (x : Slot) : State := { s with slots := s.slots.set i x }

/-- The state with slot i changed by f. -/
def State.modSlot (s : State) (i : SlotId) (f : Slot → Slot) : State := s.setSlot i (f (s.slot i))

/-- The account of bank b. -/
def State.bank (s : State) (b : BankId) : Bank := s.admission.banks[b]

/-- The state with bank b's account changed by f. -/
def State.modBank (s : State) (b : BankId) (f : Bank → Bank) : State :=
  { s with admission := { s.admission with banks := s.admission.banks.set b (f (s.bank b)) } }

/-- The state with the admission queue replaced. -/
def State.setQueue (s : State) (q : List AdmEntry) : State :=
  { s with admission := { s.admission with queue := q } }

/-- The profile in force (R162). -/
def State.profile (s : State) : Profile := s.loader.profile

/-- The class entry of a slot's slot map in force, read from the profile in force (R5). -/
def Slot.classIn (p : Profile) (x : Slot) : ClassEntry := p.classes[x.ctx.map.cls]

/-- Time has reached t: an event that belongs to time t moves the clock up to it, never back (log entry 2). -/
def State.reach (s : State) (t : Nat) : State := { s with now := max s.now t }

/-! ## The drive link port -/

/-- The arbiter: with the link free, the head of the control source, else of the command source, else of
the data source, begins its transmission (R132). -/
def Port.pick (p : Port) : Port :=
  match p.sending with
  | some _ => p
  | none =>
    match p.control with
    | op :: rest => { p with control := rest, sending := some (.control op) }
    | [] =>
      match p.command with
      | c :: rest => { p with command := rest, sending := some (.command c) }
      | [] =>
        match p.data with
        | d :: rest => { p with data := rest, sending := some (.data d) }
        | [] => p

/-- A CONTROL frame is handed over: UNLOAD at the head of the control source, every other at the tail
(R132). -/
def Port.handControl (op : ControlOp) (p : Port) : Port :=
  Port.pick
    (match op with
    | .unload => { p with control := op :: p.control }
    | _ => { p with control := p.control ++ [op] })

/-- A QUERY is handed over, unless one still waits in the control source (R136). -/
def Port.handQuery (p : Port) : Port :=
  if p.control.contains .query then p else p.handControl .query

/-- A COMMAND frame is handed over to the tail of the command source (R133). -/
def Port.handCommand (c : Cmd) (p : Port) : Port := Port.pick { p with command := p.command ++ [c] }

/-- A DATA frame is handed over to the tail of the data source (R133). -/
def Port.handData (d : DataBody) (p : Port) : Port := Port.pick { p with data := p.data ++ [d] }

/-- The DATA frames of a tag that still wait are removed (R133). -/
def Port.dropData (tag : Tag) (p : Port) : Port :=
  { p with data := p.data.filter (fun d => d.tag != tag) }

/-- An operation frame, of which the control source holds at most one (R131). -/
def ControlOp.isOperation : ControlOp → Bool
  | .spin => true
  | .load => true
  | .unload => true
  | .stop => true
  | .query => false
  | .cancelAll => false

/-- The waiting frame of an operation that is no longer outstanding is removed (R132). -/
def Port.dropOperations (p : Port) : Port :=
  { p with control := p.control.filter (fun op => !op.isOperation) }

/-- The end of the frame in transmission: it has reached the drive and the arbiter picks again (R131,
R132). -/
def Port.sent (p : Port) : Port := Port.pick { p with sending := none }

/-- The port of a slot that becomes unpowered: sources emptied, transmission cut short, schedule
stopped, the cancel exchange ended (R135, R140). -/
def Port.powerDown (_p : Port) : Port := Port.reset

/-! ## Idle timer and activity -/

/-- The idle time of a class in a settled powered state, in milliseconds; 0 elsewhere (R27). -/
def classIdleMs (c : ClassEntry) : SlotSt → Nat
  | .idle => c.offIdleMs
  | .spun => c.stopIdleMs
  | .loaded => c.unloadIdleMs
  | .empty => 0
  | .off => 0
  | .powering => 0
  | .spinningUp => 0
  | .loading => 0
  | .unloading => 0
  | .stopping => 0
  | .fault => 0

/-- The idle timer starts afresh where its three conditions hold, and is absent where one does not or
where the idle time is 0 (R27). -/
def Slot.touchIdle (p : Profile) (now : Nat) (x : Slot) : Slot :=
  let len := classIdleMs (x.classIn p) x.ctx.state
  { x with
    ctx :=
      { x.ctx with
        idleTimer :=
          if x.pass.hold.isEmpty && x.pass.flight.isEmpty && len != 0 then some (now + len)
          else none } }

/-- The last-activity time is set to the present time, which restarts a running idle timer (R27). -/
def Slot.act (p : Profile) (now : Nat) (x : Slot) : Slot :=
  Slot.touchIdle p now { x with ctx := { x.ctx with lastActivity := now } }

/-- Activity of slot i (R27). -/
def State.active (s : State) (i : SlotId) : State := s.modSlot i (Slot.act s.profile s.now)

/-- The idle timer of slot i after a change of its hold queue or in-flight set (R27). -/
def State.touchIdle (s : State) (i : SlotId) : State := s.modSlot i (Slot.touchIdle s.profile s.now)

/-! ## The controller link, upstream -/

/-- The queue at an arbiter position: a slot's, or the bad-slot queue at 10 (R145). -/
def State.upstreamAt (s : State) (p : Fin 11) : List UpFrame :=
  if h : p.val < 10 then (s.slot ⟨p.val, h⟩).upstream else s.ctrl.badSlot

/-- The state with the queue at an arbiter position replaced. -/
def State.setUpstreamAt (s : State) (p : Fin 11) (q : List UpFrame) : State :=
  if h : p.val < 10 then s.modSlot ⟨p.val, h⟩ (fun x => { x with upstream := q })
  else { s with ctrl := { s.ctrl with badSlot := q } }

/-- The positions in the order the arbiter looks at them: from the one after the last served, round
0..10 (R145). -/
def servedOrder (last : Fin 11) : List (Fin 11) :=
  (List.range 11).map (fun k => Fin.ofNat 11 (last.val + 1 + k))

/-- A frame's transmission begins: a COMPLETION is filled with the transit word of this moment, and one
that carries the device notice clears it and both causes (R146, R149). -/
def State.beginUpstream (s : State) (f : UpFrame) : State :=
  match f with
  | .completion _ =>
    { s with
      ctrl :=
        { s.ctrl with
          sending := some { frame := f, word := some s.transitWord }
          deviceNotice := false
          causeMotion := s.ctrl.causeMotion && !s.ctrl.deviceNotice
          causeProfile := s.ctrl.causeProfile && !s.ctrl.deviceNotice } }
  | .data _ _ => { s with ctrl := { s.ctrl with sending := some { frame := f, word := none } } }
  | .dataRequest _ _ => { s with ctrl := { s.ctrl with sending := some { frame := f, word := none } } }

/-- The first position of a list whose queue holds a frame. -/
def State.firstWaiting (s : State) : List (Fin 11) → Option (Fin 11)
  | [] => none
  | p :: rest => if (s.upstreamAt p).isEmpty then s.firstWaiting rest else some p

/-- The upstream transmit arbiter: with the link free, the first queue round from the last served
position sends its head (R145). -/
def State.pickUpstream (s : State) : State :=
  match s.ctrl.sending with
  | some _ => s
  | none =>
    match s.firstWaiting (servedOrder s.ctrl.lastServed) with
    | none => s
    | some p =>
      match s.upstreamAt p with
      | [] => s
      | f :: rest =>
        State.beginUpstream
          { s.setUpstreamAt p rest with
            ctrl := { (s.setUpstreamAt p rest).ctrl with lastServed := p } } f

/-- A frame of slot i joins the tail of its slot upstream queue, and begins its transmission at once if
the link is free (R144, R145). -/
def State.handUp (s : State) (i : SlotId) (f : UpFrame) : State :=
  State.pickUpstream (s.modSlot i (fun x => { x with upstream := x.upstream ++ [f] }))

/-- The device notice is raised with cause MOTION (R148). -/
def State.raiseMotion (s : State) : State :=
  { s with ctrl := { s.ctrl with deviceNotice := true, causeMotion := true } }

/-- The device notice is raised with cause PROFILE (R148). -/
def State.raiseProfile (s : State) : State :=
  { s with ctrl := { s.ctrl with deviceNotice := true, causeProfile := true } }

/-! ## The sense store -/

/-- The slot notice after an entry of the code: pending for class DRIVE, and for class MOTION with the
motion-notice bit set; otherwise as it stands (R156). -/
def noticeAfter (p : Profile) (code : SenseCode) (notice : Bool) : Bool :=
  match code.cls with
  | .drive => true
  | .motion => p.motionNotice || notice
  | .command => notice

/-- An entry reaches the sense store: it fills an empty record, with the captured fields given, or
raises the overrun of an occupied one to at most 15; and it decides the slot notice (R154, R156). -/
def State.submit (s : State) (i : SlotId) (code : SenseCode) (tag : Option Tag)
    (requeued : Option Nat) (st : SlotSt) (held : Nat) : State :=
  s.modSlot i (fun x =>
    { x with
      record :=
        match x.record with
        | none =>
          some { code := code, tag := tag, slotState := st, motion := s.motion.state, held := held,
                 requeued := requeued, overrun := 0 }
        | some r => some { r with overrun := min 15 (r.overrun + 1) }
      notice := noticeAfter s.profile code x.notice })

/-! ## Completions -/

/-- The slot hint of slot i as it stands (R147). -/
def State.hint (s : State) (i : SlotId) : Hint :=
  { state := some (s.slot i).ctx.state, held := (s.slot i).pass.hold.length }

/-- The residual of a completion the part makes: 0 for OK, the full count for every other code (R106). -/
def partResidual (code : Byte) (c : Cmd) : BitVec 24 :=
  if code = codeOk then 0 else BitVec.ofNat 24 c.args.count

/-- The completion the part makes of a command of slot i, with the hint as the slot stands (R106, R147). -/
def State.partCompletion (s : State) (i : SlotId) (c : Cmd) (code : Byte) : Completion :=
  { slot := fieldOfSlot i, tag := c.args.tag, op := c.op.code, source := .interposer, code := code,
    residual := partResidual code c, hint := s.hint i }

/-- The part completes a command of slot i, which is activity of the slot (R27, R106). -/
def State.complete (s : State) (i : SlotId) (c : Cmd) (code : Byte) : State :=
  (s.handUp i (.completion (s.partCompletion i c code))).active i

/-- The part completes a command of slot i and submits the COMMAND-class entry of the code, with the
slot's state and held count as the completion's hint has them (R106, R155). -/
def State.completeSensed (s : State) (i : SlotId) (c : Cmd) (code : Byte) (sense : SenseCode) : State :=
  (s.complete i c code).submit i sense (some c.args.tag) none (s.slot i).ctx.state
    (s.slot i).pass.hold.length

/-! ## Entering a state -/

/-- The charge of a state in a class (R1). -/
def classCharge (c : ClassEntry) : SlotSt → Nat
  | .empty => 0
  | .off => 0
  | .powering => c.iElec
  | .idle => c.iElec
  | .spinningUp => c.iSpin
  | .spun => c.iRun
  | .loading => c.iHead
  | .loaded => c.iHead
  | .unloading => c.iHead
  | .stopping => c.iRun
  | .fault => 0

/-- The charge a slot takes on a transition: 0 unpowered; else the class current of the new state, not
less than the former charge on a raising transition and not more on any other (R32). -/
def Slot.chargeOn (p : Profile) (x : Slot) (st : SlotSt) (raising : Bool) : Nat :=
  if st.powered then
    if raising then max x.charge (classCharge (x.classIn p) st) else min x.charge (classCharge (x.classIn p) st)
  else 0

/-- The outstanding control operation of a state (R6, R7, R11, R12). -/
def SlotSt.outstanding : SlotSt → Outstanding
  | .empty => .none
  | .off => .none
  | .powering => .queryOnly
  | .idle => .none
  | .spinningUp => .spin
  | .spun => .none
  | .loading => .load
  | .loaded => .none
  | .unloading => .unload
  | .stopping => .stop
  | .fault => .none

/-- The control frame handed over on entry into a state (R6, R7). -/
def SlotSt.entryFrame : SlotSt → Option ControlOp
  | .empty => none
  | .off => none
  | .powering => none
  | .idle => none
  | .spinningUp => some .spin
  | .spun => none
  | .loading => some .load
  | .loaded => none
  | .unloading => some .unload
  | .stopping => some .stop
  | .fault => none

/-- The step deadline of a state in progress, from the moment it is entered (R6, R7, R11, R12). -/
def classDeadline (c : ClassEntry) (now : Nat) : SlotSt → Option Nat
  | .empty => none
  | .off => none
  | .powering => some (now + c.powerMs)
  | .idle => none
  | .spinningUp => some (now + c.spinMs)
  | .spun => none
  | .loading => some (now + c.loadMs)
  | .loaded => none
  | .unloading => some (now + c.unloadMs)
  | .stopping => some (now + c.stopMs)
  | .fault => none

/-- The QUERY interval of a powered state (R9). -/
def queryInterval (p : Profile) : SlotSt → Nat
  | .powering => p.probeMs
  | .spinningUp => p.probeMs
  | .stopping => p.probeMs
  | .idle => Config.keepAliveMs
  | .spun => Config.keepAliveMs
  | .loading => Config.keepAliveMs
  | .loaded => Config.keepAliveMs
  | .unloading => Config.keepAliveMs
  | .empty => Config.keepAliveMs
  | .off => Config.keepAliveMs
  | .fault => Config.keepAliveMs

/-- The port on entry into a state: unpowered, it powers down (R135); powered, the waiting operation
frame is removed, the QUERY schedule restarts from its full interval (R9), and the state's control
frame is handed over (R6, R7, R132). -/
def Port.enter (p : Profile) (now : Nat) (st : SlotSt) (port : Port) : Port :=
  if st.powered then
    let q := { port.dropOperations with
      query := some { expiry := now + queryInterval p st, interval := queryInterval p st } }
    match st.entryFrame with
    | none => q
    | some op => q.handControl op
  else port.powerDown

/-- A slot enters a state: its charge (R32), outstanding operation and deadline (R6 to R8), retry count
(R14), query marks (R9, R25), port and fence (R135, R140), and idle timer (R27). The frames that wait
on the drive link of a slot that becomes unpowered are discarded with the change (R135). -/
def Slot.enter (p : Profile) (now : Nat) (st : SlotSt) (raising keepRetry : Bool) (x : Slot) : Slot :=
  let restart := st == .powering || !st.powered
  Slot.touchIdle p now
    { x with
      charge := x.chargeOn p st raising
      fence := x.fence && st.powered
      waiting := if st.powered then x.waiting else []
      port := x.port.enter p now st
      ctx :=
        { x.ctx with
          state := st
          retry := if keepRetry then x.ctx.retry else 0
          outstanding := st.outstanding
          stepDeadline := classDeadline (x.classIn p) now st
          queryPending := x.ctx.queryPending && !restart
          missed := if restart then 0 else x.ctx.missed } }

/-- The admission entry of slot i, if any, leaves the queue without a grant (R36). -/
def State.withdraw (s : State) (i : SlotId) : State :=
  s.setQueue (s.admission.queue.filter (fun e => e.slot != i))

/-- Slot i enters a state. Its admission entry belongs to the state it leaves and is withdrawn (R36). -/
def State.enter (s : State) (i : SlotId) (st : SlotSt) (raising keepRetry : Bool) : State :=
  (s.withdraw i).modSlot i (Slot.enter s.profile s.now st raising keepRetry)

/-- The marks of slot i's context changed by f. -/
def State.modCtx (s : State) (i : SlotId) (f : SlotContext → SlotContext) : State :=
  s.modSlot i (fun x => { x with ctx := f x.ctx })

/-- The command passage of slot i changed by f. -/
def State.modPass (s : State) (i : SlotId) (f : Passage → Passage) : State :=
  s.modSlot i (fun x => { x with pass := f x.pass })

/-- The drive link port of slot i changed by f. -/
def State.modPort (s : State) (i : SlotId) (f : Port → Port) : State :=
  s.modSlot i (fun x => { x with port := f x.port })

/-! ## Emptying a slot, and the slot map -/

/-- The distance of a forward sequence behind the next one, counted modulo 65536: the greater, the
earlier it was taken (R107). -/
def seqAge (next q : Seq) : Nat := (next - q).toNat

/-- A record put among records in order of forward sequence, earliest first (R117). -/
def insertByAge (next : Seq) (r : InFlight) : List InFlight → List InFlight
  | [] => [r]
  | h :: t => if seqAge next r.seq > seqAge next h.seq then r :: h :: t else h :: insertByAge next r t

/-- The in-flight records in order of forward sequence, earliest first (R117). -/
def flightByAge (next : Seq) : List InFlight → List InFlight
  | [] => []
  | r :: t => insertByAge next r (flightByAge next t)

/-- The commands of a passage in the order R117 completes them: held entries, in-flight records by
forward sequence, forwarded ABORTs. -/
def Passage.commands (p : Passage) : List Cmd :=
  p.hold.map (·.cmd) ++ (flightByAge p.nextSeq p.flight).map (·.cmd) ++ p.aborts

/-- A passage with nothing held, in flight or listed, and no demand; the next forward sequence is kept. -/
def Passage.emptied (p : Passage) : Passage :=
  { p with hold := [], flight := [], aborts := [], demand := none }

/-- The part completes a list of commands of slot i in order, with one code and no sense entry. -/
def State.completeAll (i : SlotId) (code : Byte) : List Cmd → State → State
  | [], s => s
  | c :: rest, s => State.completeAll i code rest (s.complete i c code)

/-- The leaving of FAULT is activity of slot i (R27), by whichever of the three ways of R26 it leaves (log
entry 23). -/
def State.leavingFault (was : SlotSt) (i : SlotId) (s : State) : State :=
  if was = .fault then s.active i else s

/-- Slot i enters FAULT or EMPTY and the command passage completes everything it has (R25, R117); leaving
FAULT for EMPTY, it was active (R26, R27). -/
def State.enterDown (s : State) (i : SlotId) (st : SlotSt) (code : Byte) : State :=
  State.leavingFault (s.slot i).ctx.state i
    (State.completeAll i code (s.slot i).pass.commands
      (((s.enter i st false false).modPass i Passage.emptied).modCtx i
        (fun c => { c with spinMark := false, emergency := false })))

/-- A slot in OFF, EMPTY or FAULT takes the profile's slot map entry (R5, R37): a disabled one in OFF or
FAULT enters EMPTY with SLOT_EMPTY and no sense entry, a disabled one in EMPTY drops its debounce, and
one in EMPTY that was disabled and is now enabled starts a debounce if PRESENT is asserted (log entry 13). -/
def State.takeMap (s : State) (i : SlotId) : State :=
  let x := s.slot i
  let m := s.profile.slots[i]
  let s1 := (s.setQueue (s.admission.queue.map (fun e =>
      if e.slot = i then { e with bank := m.bank } else e))).modCtx i (fun c => { c with map := m })
  if m.enabled then
    if x.ctx.state = .empty && !x.ctx.map.enabled && x.presentLine then
      s1.modCtx i (fun c => { c with presentDebounce := some s.now })
    else s1
  else if x.ctx.state = .empty then s1.modCtx i (fun c => { c with presentDebounce := none })
  else s1.enterDown i .empty codeSlotEmpty

/-- Slot i enters OFF: each ABORT still listed is completed OK (R120), and the slot takes the profile's
slot map entry (R5). That both come before the hold queue is served, so that the OKs of the ABORTs go up
ahead of that of a held POWER_OFF, and a slot map that disables the slot ends it in SLOT_EMPTY, are DESIGN
CHOICES (log entries 38 and 39). -/
def State.enterOff (s : State) (i : SlotId) : State :=
  let s1 := (s.enter i .off false false).modPass i (fun p => { p with aborts := [] })
  (State.completeAll i codeOk (s.slot i).pass.aborts s1).takeMap i

end Sys2Proof.Machine
end

