-- ==== Sys2Proof/Machine/Admission.lean ====
section
/-! DEFINITION. Lowering orders (R7) and the admission unit (chapter 2): bank sums, the permit view it reads (R79), the
scan and its grants, OVERDRAW, shedding, the reaction to a state change, the placement of entries, and
the selection of budgets. -/

namespace Sys2Proof.Machine

/-! ## Sums and permits -/

/-- The charge slot i adds to bank b's sum: its charge if its slot map in force names b (R33). -/
def State.share (s : State) (b : BankId) (i : SlotId) : Nat :=
  if (s.slot i).ctx.map.bank = b then (s.slot i).charge else 0

/-- The sum of bank b (R33). -/
def State.bankSum (s : State) (b : BankId) : Nat := (allSlots.map (s.share b)).sum

/-- The permit row of a motion state; JOLT's row is fixed (R78). -/
def permitRow (p : Profile) : MotionSt → PermitRow
  | .settling => p.permits.settling
  | .still => p.permits.still
  | .rolling => p.permits.rolling
  | .tilted => p.permits.tilted
  | .jolt => { load := false, spin := false, unloadOnEntry := true }
  | .sensorLost => p.permits.sensorLost

/-- The permit view for one kind of raising step at this moment (R79). -/
def State.permits (s : State) (k : Kind) : Bool :=
  let row := permitRow s.profile s.motion.state
  match k with
  | .power => !s.lock || s.profile.parkLevel = .idle || s.profile.parkLevel = .spun
  | .spin => row.spin && (!s.lock || s.profile.parkLevel = .spun)
  | .load => row.load && !s.lock

/-! ## Lowering orders -/

/-- A lowering order for slot i (R7), without the admission unit's reaction: LOADED or LOADING goes to
UNLOADING, SPUN to STOPPING, IDLE to OFF at once; in every other state it is dropped. -/
def State.orderDown (s : State) (i : SlotId) : State :=
  match (s.slot i).ctx.state with
  | .loaded => s.enter i .unloading false false
  | .loading => s.enter i .unloading false false
  | .spun => s.enter i .stopping false false
  | .idle => (s.enterOff i).active i
  | .empty => s
  | .off => s
  | .powering => s
  | .spinningUp => s
  | .unloading => s
  | .stopping => s
  | .fault => s

/-! ## The scan -/

/-- The state a grant of a kind takes the slot into (R6). -/
def Kind.target : Kind → SlotSt
  | .power => .powering
  | .spin => .spinningUp
  | .load => .loading

/-- The state an entry of a kind belongs to (R35). -/
def Kind.source : Kind → SlotSt
  | .power => .off
  | .spin => .idle
  | .load => .spun

/-- The increment of an entry: the charge the slot would take, less its present charge (R34). -/
def State.increment (s : State) (e : AdmEntry) : Nat :=
  (s.slot e.slot).chargeOn s.profile e.kind.target true - (s.slot e.slot).charge

/-- The entry fits its bank's budget (R40). -/
def State.fits (s : State) (e : AdmEntry) : Bool :=
  s.bankSum e.bank + s.increment e ≤ (s.bank e.bank).budget

/-- The number of slots of bank b in SPINNING_UP (R41). -/
def State.spinning (s : State) (b : BankId) : Nat :=
  (allSlots.filter (fun i => (s.slot i).ctx.map.bank == b && (s.slot i).ctx.state == .spinningUp)).length

/-- Bank b passes the spin limits: fewer slots in SPINNING_UP than its concurrency limit, and no stagger
timer running (R41). -/
def State.spinLimits (s : State) (b : BankId) : Bool :=
  s.spinning b < s.profile.concurrency[b] && (s.bank b).stagger.isNone

/-- The marks of one scan, per bank (R39). -/
structure Marks where
  blocked : Vector Bool 2
  spinBlocked : Vector Bool 2
  deriving DecidableEq, Repr

/-- The marks at the start of a scan: neither bank blocked nor spin-blocked (R39). -/
def Marks.start : Marks :=
  { blocked := #v[false, false], spinBlocked := #v[false, false] }

/-- The stagger timer of bank b starts from its full length at a SPIN grant; a gap of 0 leaves it absent
(R42). -/
def State.startStagger (s : State) (b : BankId) : State :=
  if s.profile.staggerMs = 0 then s
  else s.modBank b (fun k => { k with stagger := some (s.now + s.profile.staggerMs) })

/-- A grant (R6, R42): the entry leaves the queue, the slot enters the state of the step, and a SPIN
grant starts the stagger timer. Only a retried entry keeps the retry count (R14). -/
def State.grant (s : State) (e : AdmEntry) : State :=
  let s1 := s.enter e.slot e.kind.target true e.retried
  match e.kind with
  | .spin => s1.startStagger e.bank
  | .power => s1
  | .load => s1

/-- The scan over the entries given, in order, with the marks made so far (R39): deferred, bank blocked,
bank in OVERDRAW, does not fit, spin limits, or granted. -/
def State.scanOver : List AdmEntry → Marks → State → State
  | [], _, s => s
  | e :: rest, m, s =>
    if !s.permits e.kind then State.scanOver rest m s
    else if m.blocked[e.bank] then State.scanOver rest m s
    else if (s.bank e.bank).overdraw then State.scanOver rest m s
    else if !s.fits e then State.scanOver rest { m with blocked := m.blocked.set e.bank true } s
    else if e.kind == .spin && (m.spinBlocked[e.bank] || !s.spinLimits e.bank) then
      State.scanOver rest { m with spinBlocked := m.spinBlocked.set e.bank true } s
    else State.scanOver rest m (s.grant e)

/-- The admission scan (R38, R39); none is made while the power-on load is in progress. -/
def State.scan (s : State) : State :=
  if s.loader.readState = .powerOnRead then s else State.scanOver s.admission.queue Marks.start s

/-! ## OVERDRAW and shedding -/

/-- What a slot will give back when its ordered stop ends (R46). -/
def State.stopShare (s : State) (b : BankId) (i : SlotId) : Nat :=
  let x := s.slot i
  if x.ctx.map.bank = b ∧ x.ctx.state = .stopping then x.charge - x.chargeOn s.profile .idle false else 0

/-- The projected sum of bank b (R46). -/
def State.projected (s : State) (b : BankId) : Nat :=
  s.bankSum b - (allSlots.map (s.stopShare b)).sum

/-- Slot i is a shed candidate of bank b (R47), the mark of the bank aside. -/
def State.candidate (s : State) (b : BankId) (i : SlotId) : Bool :=
  let x := s.slot i
  x.ctx.map.bank == b && (x.ctx.state == .spun || x.ctx.state == .idle) && x.pass.hold.isEmpty
    && x.pass.flight.isEmpty

/-- Slot i stands before slot j among candidates: SPUN before IDLE, then the earlier last activity, then
the lower number (R47). -/
def State.shedBefore (s : State) (i j : SlotId) : Bool :=
  let x := s.slot i
  let y := s.slot j
  if x.ctx.state = y.ctx.state then
    x.ctx.lastActivity < y.ctx.lastActivity || (x.ctx.lastActivity == y.ctx.lastActivity && i.val < j.val)
  else x.ctx.state == .spun

/-- The first of a list of slots in the ranking of R47. -/
def State.shedFirst (s : State) : List SlotId → Option SlotId
  | [] => none
  | i :: rest =>
    match s.shedFirst rest with
    | none => some i
    | some j => if s.shedBefore i j then some i else some j

/-- The first candidate of bank b (R47). -/
def State.shedChoice (s : State) (b : BankId) : Option SlotId :=
  s.shedFirst (allSlots.filter (s.candidate b))

/-- Shedding: while the projected sum exceeds the budget and a candidate remains, the first candidate is
given a lowering order (R48). Each order takes its slot out of the candidates, so ten rounds are
all there can be. -/
def State.shedRounds : Nat → BankId → State → State
  | 0, _, s => s
  | n + 1, b, s =>
    if s.projected b > (s.bank b).budget then
      match s.shedChoice b with
      | none => s
      | some i => State.shedRounds n b (s.orderDown i)
    else s

/-- The mark of bank b is cleared where its sum fits its budget, which starts a scan (R45). -/
def State.clearIfFits (s : State) (b : BankId) : State :=
  if (s.bank b).overdraw && s.bankSum b ≤ (s.bank b).budget then
    (s.modBank b (fun k => { k with overdraw := false })).scan
  else s

/-- Bank b sheds (R48); the falls of its sum that shedding makes can end OVERDRAW (R45). -/
def State.shed (s : State) (b : BankId) : State :=
  if (s.bank b).overdraw then (State.shedRounds 10 b s).clearIfFits b else s

/-- The evaluation of a bank in OVERDRAW at a fall of its sum: it leaves OVERDRAW, or sheds (R45). -/
def State.evaluate (s : State) (b : BankId) : State :=
  if s.bankSum b ≤ (s.bank b).budget then s.clearIfFits b else s.shed b

/-- A fall of bank b's sum: a scan, or an evaluation of a bank in OVERDRAW (R33). -/
def State.sumFell (s : State) (b : BankId) : State :=
  if (s.bank b).overdraw then s.evaluate b else s.scan

/-- The admission unit's reaction to a change of slot i from what it was: a fall of its bank's sum (R33),
and a scan if it left SPINNING_UP (R38). -/
def State.react (was : Slot) (i : SlotId) (s : State) : State :=
  let s1 := if (s.slot i).charge < was.charge then s.sumFell was.ctx.map.bank else s
  if was.ctx.state == .spinningUp && (s.slot i).ctx.state != .spinningUp then s1.scan else s1

/-- A lowering order for slot i, with the admission unit's reaction (R7, R33). -/
def State.lower (s : State) (i : SlotId) : State := State.react (s.slot i) i (s.orderDown i)

/-! ## Placement and budgets -/

/-- An entry is placed for slot i at the tail of the queue, which starts a scan; a request for a slot
that has an entry is dropped (R36). -/
def State.place (s : State) (i : SlotId) (k : Kind) (retried : Bool) : State :=
  if s.admission.queue.any (fun e => e.slot == i) then s
  else
    (s.setQueue (s.admission.queue ++
      [{ slot := i, kind := k, bank := (s.slot i).ctx.map.bank, retried := retried }])).scan

/-- The budget of bank b under the recognized DOCK value (R31). -/
def State.budgetFor (s : State) (b : BankId) : Nat :=
  if s.admission.dock then s.profile.dock[b] else s.profile.battery[b]

/-- Bank b's budget is selected and its OVERDRAW mark set, kept or cleared (R31, R44, R45). -/
def State.selectBudget (s : State) (b : BankId) : State :=
  s.modBank b (fun k =>
    { k with budget := s.budgetFor b, overdraw := decide (s.bankSum b > s.budgetFor b) })

/-- The selection of budgets: both banks are compared and marked, each bank in OVERDRAW sheds, and the
queue is scanned (R31). That bank 0 sheds before bank 1 is a DESIGN CHOICE (log entry 30). -/
def State.selectBudgets (s : State) : State :=
  ((((s.selectBudget 0).selectBudget 1).shed 0).shed 1).scan

end Sys2Proof.Machine
end

