-- ==== Sys2Proof/Machine/Passages.lean ====
section
/-! DEFINITION. The command passages (chapter 5) and what follows a change of a slot: forwarding, serving the hold queue,
reporting the demand (R29, R108), park control's lowering phase (R91), and the arrival of a command. -/

namespace Sys2Proof.Machine

/-! ## Moving a command -/

/-- The hold entry of a tag leaves the queue from wherever it stands (R107). -/
def Passage.dropHeld (p : Passage) (tag : Tag) : Passage :=
  { p with hold := p.hold.filter (fun e => e.cmd.args.tag != tag) }

/-- The in-flight record of a tag is removed. -/
def Passage.dropFlight (p : Passage) (tag : Tag) : Passage :=
  { p with flight := p.flight.filter (fun r => r.cmd.args.tag != tag) }

/-- The hold entry of a tag, if one is held. -/
def Passage.held? (p : Passage) (tag : Tag) : Option HoldEntry :=
  p.hold.find? (fun e => e.cmd.args.tag == tag)

/-- The in-flight record of a tag, if one is in flight. -/
def Passage.flight? (p : Passage) (tag : Tag) : Option InFlight :=
  p.flight.find? (fun r => r.cmd.args.tag == tag)

/-- The tag stands in the abort list. -/
def Passage.aborting (p : Passage) (tag : Tag) : Bool := p.aborts.any (fun c => c.args.tag == tag)

/-- The tag is held, in flight or in the abort list (R103). -/
def Passage.inUse (p : Passage) (tag : Tag) : Bool :=
  (p.held? tag).isSome || (p.flight? tag).isSome || p.aborting tag

/-- A command is forwarded: it becomes an in-flight record and its COMMAND frame goes to the drive link
port, which is activity of the slot (R113). -/
def State.forward (s : State) (i : SlotId) (c : Cmd) (seq : Seq) (reissue : Nat) : State :=
  ((s.modPass i (fun p =>
      { p with
        flight := p.flight ++
          [{ cmd := c, seq := seq, reissue := reissue, abortForwarded := false, requests := [] }] })).modPort i
    (Port.handCommand c)).active i

/-- The slot's next forward sequence is taken and increases by 1, from 65535 to 0 (R113). -/
def State.takeSeq (s : State) (i : SlotId) : State :=
  s.modPass i (fun p => { p with nextSeq := p.nextSeq + 1 })

/-- A first forwarding, with the slot's next forward sequence (R113). -/
def State.forwardNew (s : State) (i : SlotId) (c : Cmd) : State :=
  (s.takeSeq i).forward i c (s.slot i).pass.nextSeq 0

/-- The forwarding of a held entry: a REQUEUED one with its own sequence and re-issue count, a NEW one
with the next sequence (R113). -/
def State.forwardHeld (s : State) (i : SlotId) (e : HoldEntry) : State :=
  let s1 := s.modPass i (fun p => p.dropHeld e.cmd.args.tag)
  match e.seq with
  | some q => s1.forward i e.cmd q e.reissue
  | none => s1.forwardNew i e.cmd

/-- A held entry is removed and completed by the part with OK (R109, R110). -/
def State.finishHeld (s : State) (i : SlotId) (e : HoldEntry) : State :=
  (s.modPass i (fun p => p.dropHeld e.cmd.args.tag)).complete i e.cmd codeOk

/-- A command joins the tail of the hold queue as a NEW entry, its hold deadline started (R105, R111);
the idle timer becomes absent (R27). -/
def State.hold (s : State) (i : SlotId) (c : Cmd) : State :=
  (s.modPass i (fun p =>
    { p with
      hold := p.hold ++
        [{ cmd := c, origin := .new, seq := none, reissue := 0,
           deadline := some (s.now + s.profile.holdMs), inProgress := false }] })).touchIdle i

/-! ## Demand -/

/-- The demand of a hold queue: the needed level of its head entry; an entry in progress, a lowering
entry or an empty queue gives none (R108). -/
def demandOf : List HoldEntry → Option Level
  | [] => none
  | e :: _ => if e.inProgress then none else e.cmd.op.need

/-- The demand is re-derived from the head entry (R108). -/
def State.reportDemand (s : State) (i : SlotId) : State :=
  s.modPass i (fun p => { p with demand := demandOf p.hold })

/-- The place of a demand on the ladder, 0 for none. -/
def demandRank : Option Level → Nat
  | none => 0
  | some l => l.rank

/-- The kind of the next raising step from a state, in OFF, IDLE and SPUN (R29). -/
def SlotSt.nextKind : SlotSt → Option Kind
  | .off => some .power
  | .idle => some .spin
  | .spun => some .load
  | .empty => none
  | .powering => none
  | .spinningUp => none
  | .loading => none
  | .loaded => none
  | .unloading => none
  | .stopping => none
  | .fault => none

/-- The slot engine compares the demand of slot i with its level: it places an entry for the next raising
step, or withdraws one whose demand no longer lies above the level (R29). -/
def State.compare (s : State) (i : SlotId) : State :=
  match (s.slot i).ctx.state.nextKind with
  | none => s.withdraw i
  | some k =>
    if (s.slot i).ctx.state.rank < demandRank (s.slot i).pass.demand then s.place i k false
    else s.withdraw i

/-- The head entry of slot i's hold queue has changed, or its state: the demand is re-derived and
reported (R108), and the slot engine compares it with the level (R29). -/
def State.report (s : State) (i : SlotId) : State := (s.reportDemand i).compare i

/-! ## Serving -/

/-- The performance of a lowering entry begins: it becomes in progress and its deadline absent (R110). -/
def HoldEntry.begin (e : HoldEntry) : HoldEntry := { e with inProgress := true, deadline := none }

/-- The head entry of slot i's hold queue begins its performance (R110). -/
def State.beginHead (s : State) (i : SlotId) : State :=
  s.modPass i (fun p =>
    { p with
      hold := match p.hold with
        | [] => []
        | e :: rest => e.begin :: rest })

/-- The serving of slot i's hold queue (R109, R110). It looks at the head entry and repeats until an entry
makes it stop; every repetition has removed the head, so the length of the queue bounds them. Where the
head has left, the demand of the new head is reported before that head is served (R108, R112). -/
def State.serveRounds : Nat → SlotId → State → State
  | 0, _, s => s
  | n + 1, i, s =>
    if (s.slot i).fence then s
    else
      match (s.slot i).pass.hold with
      | [] => s
      | e :: _ =>
        match e.cmd.op.cls with
        | .media =>
          if (s.slot i).ctx.state.holds .loaded then
            State.serveRounds n i ((s.forwardHeld i e).report i)
          else s
        | .attached =>
          if (s.slot i).ctx.state.holds .idle then
            State.serveRounds n i ((s.forwardHeld i e).report i)
          else s
        | .raising l =>
          if (s.slot i).ctx.state.holds l then
            State.serveRounds n i ((s.finishHeld i e).report i)
          else s
        | .lowering target =>
          if !(s.slot i).pass.flight.isEmpty then s
          else if !(s.slot i).ctx.state.settled then s.beginHead i
          else if (s.slot i).ctx.state.rank ≤ target.rank then
            State.serveRounds n i (((s.beginHead i).finishHeld i e).report i)
          else (s.beginHead i).lower i
        | .probe => s
        | .abort => s

/-- The serving of slot i's hold queue (R109). -/
def State.serve (s : State) (i : SlotId) : State :=
  State.serveRounds (s.slot i).pass.hold.length i s

/-! ## The lowering phase -/

/-- Slot i meets a condition of R91 under the park level in force. -/
def State.abovePark (s : State) (i : SlotId) : Bool :=
  let x := s.slot i
  let park := s.profile.parkLevel
  (x.ctx.state == .spun && (park == .idle || park == .off))
    || (x.ctx.state == .idle && park == .off && x.pass.flight.isEmpty)

/-- While the lowering phase is yes, a slot above the park level is given a lowering order (R91). -/
def State.parkTest (s : State) (i : SlotId) : State :=
  if s.park.lowering && s.abovePark i then s.lower i else s

/-! ## What follows a change of a slot -/

/-- The demand is reported and compared, then the queue is served, in the order of R112 and R115 step 5;
each head that leaves is followed by the same in the serving (R29, R108, R109). -/
def State.reportAndServe (s : State) (i : SlotId) : State := (s.report i).serve i

/-- The end of what follows a change of slot i: one more serving, for an order given meanwhile, and a bank in
OVERDRAW sheds afresh (R49), whether the event's changes of charge and demand last or end within it. -/
def State.settleEnd (i : SlotId) (s : State) : State :=
  let s1 := s.reportAndServe i
  s1.shed (s1.slot i).ctx.map.bank

/-- What follows a change of slot i's state, queue, in-flight set or fence: the command passage reports its
demand and serves (R108, R109), park control tests the slot (R91), and the end follows. A second order to
the slot cannot arise: each order leaves it where R7 drops the next (log entry 15). -/
def State.settle (i : SlotId) (s : State) : State :=
  State.settleEnd i ((s.reportAndServe i).parkTest i)

/-! ## Arrival -/

/-- A command of slot i is refused or answered at arrival with a code and its sense entry (R106). -/
def State.refuse (s : State) (i : SlotId) (c : Cmd) (code : Byte) (sense : SenseCode) : State :=
  s.completeSensed i c code sense

/-- Checks 4 to 6 (R103 to R105): the tag, the transit lock, then forward or hold. -/
def State.admitCommand (s : State) (i : SlotId) (c : Cmd) : State :=
  if (s.slot i).pass.inUse c.args.tag then s.refuse i c codeTagInUse .tagInUse
  else if s.lock && c.op.above s.profile.parkLevel then s.refuse i c codeInTransit .inTransit
  else
    State.settle i
      (if !c.op.isSpindle && (s.slot i).pass.hold.isEmpty && !(s.slot i).fence
          && (match c.op.need with
            | none => false
            | some l => (s.slot i).ctx.state.holds l) then
        s.forwardNew i c
      else s.hold i c)

/-- A FAULT slot leaves by the fault-acknowledge path: it enters OFF, fault acknowledged becomes no, and
the last-activity time is set (R26, R27). -/
def State.leaveFault (s : State) (i : SlotId) : State :=
  ((s.enterOff i).modCtx i (fun c => { c with faultAck := false })).active i

/-- A spindle command at a FAULT slot (R26, R102). -/
def State.atFault (s : State) (i : SlotId) (c : Cmd) : State :=
  if (s.slot i).ctx.faultAck && !(s.slot i).ctx.latch then
    match c.op with
    | .spinUp => (s.leaveFault i).admitCommand i c
    | .loadHeads => (s.leaveFault i).admitCommand i c
    | .powerOff => (s.leaveFault i).complete i c codeOk
    | _ => s.refuse i c codeSlotFault .slotFault
  else s.refuse i c codeSlotFault .slotFault

/-- Checks 3 to 6 of a media, attached or spindle command (R102 to R105). -/
def State.arriveChecked (s : State) (i : SlotId) (c : Cmd) : State :=
  match (s.slot i).ctx.state with
  | .empty => s.refuse i c codeSlotEmpty .slotEmpty
  | .fault => if c.op.isSpindle then s.atFault i c else s.refuse i c codeSlotFault .slotFault
  | _ => s.admitCommand i c

/-- The DATA frame of a SENSE answer: offset 0, one block, the 16 bytes given (R157, R173). -/
def senseData (tag : Tag) (payload : List Byte) : DataBody :=
  { tag := tag, rsv := false, offset := 0, lenM1 := 0, lenRsv := 0, payload := payload }

/-- The sense store answers a SENSE from an occupied record (R157): the record as DATA, then OK; the
record is emptied, the slot notice cleared, and a FAULT acknowledged. -/
def State.answerSense (s : State) (i : SlotId) (c : Cmd) (r : SenseRecord) : State :=
  ((s.handUp i (.data (fieldOfSlot i) (senseData c.args.tag r.bytes))).complete i c codeOk).modSlot i
    (fun x =>
      { x with
        record := none
        notice := false
        ctx := { x.ctx with faultAck := x.ctx.faultAck || x.ctx.state == .fault } })

/-- The sense store answers a SENSE of an unpowered slot with an empty record by code NONE (R158). -/
def State.answerNone (s : State) (i : SlotId) (c : Cmd) : State :=
  (s.handUp i (.data (fieldOfSlot i) (senseData c.args.tag
    (noneRecordBytes (s.slot i).ctx.state s.motion.state (s.slot i).pass.hold.length)))).complete i c codeOk

/-- The routing of a SENSE (R101). -/
def State.arriveSense (s : State) (i : SlotId) (c : Cmd) : State :=
  match (s.slot i).record with
  | some r => s.answerSense i c r
  | none =>
    if (s.slot i).ctx.state.powered then s.arriveChecked i c else s.answerNone i c

/-- An ABORT of a held command (R119): the target is completed ABORTED, then the ABORT OK. -/
def State.abortHeld (s : State) (i : SlotId) (c : Cmd) (target : HoldEntry) : State :=
  State.settle i
    (((s.modPass i (fun p => p.dropHeld c.args.tag)).completeSensed i target.cmd codeAborted
      .aborted).complete i c codeOk)

/-- An ABORT of a command in flight is forwarded (R120): the target's record takes abort forwarded yes and
the ABORT joins the abort list. -/
def State.abortInFlight (s : State) (i : SlotId) (c : Cmd) : State :=
  ((s.modPass i (fun p =>
      { p with
        flight := p.flight.map (fun r =>
          if r.cmd.args.tag = c.args.tag then { r with abortForwarded := true } else r)
        aborts := p.aborts ++ [c] })).modPort i (Port.handCommand c)).active i

/-- The arrival of an ABORT (R119, R120). -/
def State.arriveAbort (s : State) (i : SlotId) (c : Cmd) : State :=
  match (s.slot i).pass.held? c.args.tag with
  | some e => s.abortHeld i c e
  | none =>
    if (s.slot i).pass.aborting c.args.tag then s.refuse i c codeTagInUse .tagInUse
    else
      match (s.slot i).pass.flight? c.args.tag with
      | some _ => s.abortInFlight i c
      | none => s.complete i c codeTagUnknown

/-- A COMMAND frame arrives at slot i's command passage (R99). -/
def State.arriveCommand (s : State) (i : SlotId) (c : Cmd) : State :=
  match c.op with
  | .probe => s.complete i c codeOk
  | .abort => s.arriveAbort i c
  | .sense => s.arriveSense i c
  | _ => s.arriveChecked i c

/-- A COMMAND whose slot field names no slot is completed BAD_SLOT into the bad-slot queue (R143). -/
def State.badSlot (s : State) (c : Cmd) : State :=
  State.pickUpstream
    { s with
      ctrl :=
        { s.ctrl with
          badSlot := s.ctrl.badSlot ++
            [.completion
              { slot := c.args.slot, tag := c.args.tag, op := c.op.code, source := .interposer,
                code := codeBadSlot, residual := partResidual codeBadSlot c,
                hint := { state := none, held := 0 } }] } }

/-- The port routes a COMMAND frame by its slot field (R143). -/
def State.takeCommand (s : State) (c : Cmd) : State :=
  match slotOfField c.args.slot with
  | some i => s.arriveCommand i c
  | none => s.badSlot c

/-! ## Requeue -/

/-- A REQUEUED entry is inserted behind every REQUEUED entry first forwarded before it, and ahead of every
other entry (R107). -/
def insertRequeued (next : Seq) (q : Seq) (e : HoldEntry) : List HoldEntry → List HoldEntry
  | [] => [e]
  | h :: t =>
    match h.origin, h.seq with
    | .requeued, some hq =>
      if seqAge next hq > seqAge next q then h :: insertRequeued next q e t else e :: h :: t
    | _, _ => e :: h :: t

/-- The record of a tag leaves the in-flight set, and the DATA frames of the tag that still wait in the
port go with it (R133). -/
def State.removeFlight (s : State) (i : SlotId) (tag : Tag) : State :=
  (s.modPass i (fun p => p.dropFlight tag)).modPort i (Port.dropData tag)

/-- The REQUEUED entry made from a record (R115). -/
def requeuedEntry (deadline : Nat) (r : InFlight) : HoldEntry :=
  { cmd := r.cmd, origin := .requeued, seq := some r.seq, reissue := r.reissue + 1,
    deadline := some deadline, inProgress := false }

/-- A command returns to the hold queue (R115 steps 1 and 2, R111). -/
def State.requeue (s : State) (i : SlotId) (r : InFlight) : State :=
  ((s.removeFlight i r.cmd.args.tag).modPass i (fun p =>
    { p with
      hold := insertRequeued p.nextSeq r.seq (requeuedEntry (s.now + s.profile.holdMs) r) p.hold })).touchIdle i

/-- The requeue is counted while the slot's emergency mark is set, up to 8 (R83). -/
def Slot.countRequeue (x : Slot) : Slot :=
  if x.ctx.emergency then { x with requeues := min 8 (x.requeues + 1) } else x

/-- A held entry is removed and completed by the part with IN_TRANSIT, with its sense entry (R88, R89). -/
def State.sweepEntry (s : State) (i : SlotId) (e : HoldEntry) : State :=
  (s.modPass i (fun p => p.dropHeld e.cmd.args.tag)).completeSensed i e.cmd codeInTransit .inTransit

end Sys2Proof.Machine
end

