-- ==== Sys2Proof/Machine/SlotEngine.lean ====
section
/-! DEFINITION. The slot engine (chapter 1): entries into FAULT and EMPTY (R25), self-unloads (R19), failures and retry
decisions (R12, R13, R15), and the taking of a CONTROL_REPLY, a STATE_REPLY and a completion from the
drive (R8 to R18, R114 to R116, R138). -/

namespace Sys2Proof.Machine

/-! ## FAULT and EMPTY -/

/-- The admission unit's reaction to an entry of slot i into FAULT or EMPTY: to the fall of its charge and
the leaving of SPINNING_UP (R33, R38), and, in a bank in OVERDRAW, to the loss of its demand, which has no
fall where the slot was in OFF (R49, R50). -/
def State.reactDown (was : Slot) (i : SlotId) (s : State) : State :=
  (State.react was i s).shed was.ctx.map.bank

/-- Slot i enters FAULT with the code of the cause (R25): the DRIVE entry captures the state left and the
held entries (R155), the slot is emptied with SLOT_FAULT, and it takes the profile's slot map entry. -/
def State.enterFault (s : State) (i : SlotId) (cause : SenseCode) : State :=
  State.reactDown (s.slot i) i
    (((((s.submit i cause none none (s.slot i).ctx.state (s.slot i).pass.hold.length).enterDown i .fault
      codeSlotFault).modCtx i (fun c => { c with faultAck := false }))).takeMap i)

/-- Slot i enters EMPTY because its drive was removed (R23, R25). -/
def State.enterRemoved (s : State) (i : SlotId) : State :=
  State.reactDown (s.slot i) i
    (((s.submit i .slotRemoved none none (s.slot i).ctx.state (s.slot i).pass.hold.length).enterDown i
      .empty codeSlotEmpty).takeMap i)

/-- A self-unload of slot i (R19): in LOADED, LOADING and UNLOADING it goes to SPUN, the emergency mark
clears, and a SELF_UNLOAD entry is submitted; in any other state it is discarded. -/
def State.selfUnload (s : State) (i : SlotId) : State :=
  match (s.slot i).ctx.state with
  | .loaded | .loading | .unloading =>
    State.react (s.slot i) i
      (((s.submit i .selfUnload none none (s.slot i).ctx.state (s.slot i).pass.hold.length).enter i .spun
        false false).modCtx i (fun c => { c with emergency := false }))
  | _ => s

/-! ## Raising steps that fail -/

/-- A spin failure in SPINNING_UP (R12): STOP is handed over and the slot goes to a marked STOPPING, its
retry count kept (R14). -/
def State.spinFails (s : State) (i : SlotId) (why : SpinFailure) : State :=
  State.settle i
    (State.react (s.slot i) i
      ((s.enter i .stopping false true).modCtx i (fun c => { c with lastFail := why, spinMark := true })))

/-- The sense code of a spin that is not tried again (R13). -/
def spinCode : SpinFailure → SenseCode
  | .timeout => .spinTimeout
  | .refused => .spinRefused

/-- The retry decision of a marked stop that has reached IDLE (R13). -/
def State.retrySpin (s : State) (i : SlotId) : State :=
  let c := (s.slot i).ctx
  if c.retry < s.profile.retryLimit then
    if Level.rank .spun ≤ demandRank (s.slot i).pass.demand then
      (s.modCtx i (fun c => { c with retry := c.retry + 1 })).place i .spin true
    else s.modCtx i (fun c => { c with retry := 0 })
  else s.enterFault i (spinCode c.lastFail)

/-- The spindle of a STOPPING slot has stopped (R17): the slot enters IDLE, and if it is marked the mark
is cleared and the retry decision of R13 comes next, before anything else follows (log entry 16). -/
def State.stopped (s : State) (i : SlotId) : State :=
  let s1 := (s.enter i .idle false (s.slot i).ctx.spinMark).active i
  let s2 :=
    if (s.slot i).ctx.spinMark then (s1.modCtx i (fun c => { c with spinMark := false })).retrySpin i
    else s1
  State.settle i (State.react (s.slot i) i s2)

/-- A load failure in LOADING (R15): back to SPUN for a retry or with a count of 0, or FAULT at the retry
limit. -/
def State.loadFails (s : State) (i : SlotId) : State :=
  if (s.slot i).ctx.retry < s.profile.retryLimit then
    let s1 := s.enter i .spun false true
    let s2 :=
      if (s.slot i).pass.demand = some .loaded then
        (s1.modCtx i (fun c => { c with retry := c.retry + 1 })).place i .load true
      else s1.modCtx i (fun c => { c with retry := 0 })
    State.settle i (State.react (s.slot i) i s2)
  else s.enterFault i .loadFailed

/-! ## Steps that end well -/

/-- A step of slot i ends in a state by the awaited answer: the step completes, which is activity (R27),
and everything that follows a state change follows. -/
def State.stepEnds (s : State) (i : SlotId) (st : SlotSt) : State :=
  State.settle i (State.react (s.slot i) i ((s.enter i st false false).active i))

/-- UNLOAD DONE (R16, R84): a marked slot submits EMERGENCY_UNLOAD with its requeue count, captured in
UNLOADING with the hold queue as it stands, and the mark clears. -/
def State.unloadDone (s : State) (i : SlotId) : State :=
  let s1 :=
    if (s.slot i).ctx.emergency then
      (s.submit i .emergencyUnload none (some (s.slot i).requeues) (s.slot i).ctx.state
        (s.slot i).pass.hold.length).modCtx i (fun c => { c with emergency := false })
    else s
  State.settle i (State.react (s.slot i) i ((s1.enter i .spun false false).active i))

/-- The bank can carry a drive found turning in POWERING: it is not in OVERDRAW and the increment of R34
fits its budget (R11). -/
def State.carriesTurning (s : State) (i : SlotId) : Bool :=
  let x := s.slot i
  let b := x.ctx.map.bank
  !(s.bank b).overdraw
    && s.bankSum b + (x.chargeOn s.profile .stopping true - x.charge) ≤ (s.bank b).budget

/-- A drive found turning by the first STATE_REPLY in POWERING (R11): STOP if the bank can carry it, else
power off. -/
def State.foundTurning (s : State) (i : SlotId) : State :=
  State.settle i
    (State.react (s.slot i) i
      (if s.carriesTurning i then
        ((s.enter i .stopping true false).modCtx i (fun c => { c with spinMark := false })).active i
      else (s.enterOff i).active i))

/-! ## Replies -/

/-- A CONTROL_REPLY taken against the outstanding operation (R8, R12, R15 to R17, R127, R128). -/
def State.replyToStep (s : State) (i : SlotId) (op : ControlOp) (a : Answer) : State :=
  match (s.slot i).ctx.outstanding, op, a with
  | .spin, .spin, .refused => s.spinFails i .refused
  | .load, .load, .done => s.stepEnds i .loaded
  | .load, .load, .failed => s.loadFails i
  | .unload, .unload, .done => s.unloadDone i
  | .unload, .unload, .failed => s.enterFault i .unloadFailed
  | _, _, _ => s

/-- The drive's confirmation of a CANCEL_ALL: cancel pending and the fence clear, and the queue is served
(R138, R151). A CANCEL_ALL that still waits in the control source stays there, a DESIGN CHOICE (log
entry 35). -/
def State.cancelConfirmed (s : State) (i : SlotId) : State :=
  State.settle i
    (s.modSlot i (fun x =>
      { x with fence := false, port := { x.port with cancelPending := false, cancelMiss := 0 } }))

/-- A CONTROL_REPLY arrives at slot i's port (R8, R126, R135, R138, R175). -/
def State.takeControlReply (s : State) (i : SlotId) (opByte answerByte : Byte) : State :=
  if !(s.slot i).ctx.state.powered then s
  else
    match controlOpOf opByte, answerOf answerByte with
    | some .query, _ => s
    | some .cancelAll, some .done => if (s.slot i).port.cancelPending then s.cancelConfirmed i else s
    | some .cancelAll, _ => s
    | some op, some a => s.replyToStep i op a
    | _, _ => s

/-- A STATE_REPLY with fault NONE is acted on by the rule of the state (R11, R12, R17, R18). -/
def State.replyByState (s : State) (i : SlotId) (report : Byte) : State :=
  match (s.slot i).ctx.state with
  | .powering => if reportSpindle report = .stopped then s.stepEnds i .idle else s.foundTurning i
  | .spinningUp => if reportSpindle report = .atSpeed then s.stepEnds i .spun else s
  | .stopping => if reportSpindle report = .stopped then s.stopped i else s
  | .loaded =>
    if reportHeads report = .parked then State.settle i (s.selfUnload i) else s
  | _ => s

/-- A STATE_REPLY arrives at slot i (R9, R10, R129, R135): it clears query pending and the missed-query
count, then its fault field is looked at, then the rule of the state. -/
def State.takeStateReply (s : State) (i : SlotId) (report : Byte) : State :=
  if !(s.slot i).ctx.state.powered then s
  else
    let s1 := s.modCtx i (fun c => { c with queryPending := false, missed := 0 })
    match reportFault report with
    | .none => s1.replyByState i report
    | .spindle =>
      if (s.slot i).ctx.state = .spinningUp then s1.spinFails i .timeout else s1.enterFault i .driveFault
    | .head => s1.enterFault i .driveFault

/-- A DRIVE_ALERT of SELF_UNLOAD arrives at slot i (R19, R135). -/
def State.takeSelfUnload (s : State) (i : SlotId) : State :=
  match (s.slot i).ctx.state with
  | .loaded | .loading | .unloading => State.settle i (s.selfUnload i)
  | _ => s

/-- A DRIVE_ALERT of FAULT arrives at slot i (R20, R135). -/
def State.takeFaultAlert (s : State) (i : SlotId) : State :=
  if (s.slot i).ctx.state.powered then s.enterFault i .driveFault else s

/-! ## Completions and data from a drive -/

/-- The port of slot i routes COMPLETION, DATA and DATA_REQUEST frames: its slot is powered and no cancel
is pending (R135, R138). -/
def State.routes (s : State) (i : SlotId) : Bool :=
  (s.slot i).ctx.state.powered && !(s.slot i).port.cancelPending

/-- A drive's completion as it goes up: the part writes the slot number, source DRIVE and the hint (R114,
R144). -/
def State.driveCompletion (s : State) (i : SlotId) (r : DriveReport) : Completion :=
  { slot := fieldOfSlot i, tag := r.tag, op := r.op, source := .drive, code := r.code,
    residual := r.residual, hint := s.hint i }

/-- A drive's completion is handed upstream, which is activity of the slot (R114, R120). -/
def State.passUp (s : State) (i : SlotId) (r : DriveReport) : State :=
  (s.handUp i (.completion (s.driveCompletion i r))).active i

/-- A NOT_LOADED completion taken while the slot is LOADED is reported as a self-unload (R19, R115, R116). -/
def State.reportNotLoaded (s : State) (i : SlotId) (r : DriveReport) : State :=
  if r.code = codeNotLoaded && (s.slot i).ctx.state == .loaded then s.selfUnload i else s

/-- Park control completes a requeued entry that needs a level above the park level while the lock stands
(R89). -/
def State.sweepRequeued (s : State) (i : SlotId) (e : HoldEntry) : State :=
  if s.lock && e.cmd.op.above s.profile.parkLevel then s.sweepEntry i e else s

/-- An UNLOADED_ABORT or NOT_LOADED of a command in flight: it is requeued (R115), or completed by the part
with ABORTED if an ABORT was forwarded, or with MOTION_ABORT at the re-issue limit (R116, log entry 9),
its COMMAND entry ahead of the SELF_UNLOAD entry of a NOT_LOADED, a DESIGN CHOICE (log entry 37). -/
def State.unloadAborted (s : State) (i : SlotId) (r : DriveReport) (f : InFlight) : State :=
  let s1 :=
    if f.abortForwarded then
      (s.removeFlight i r.tag).completeSensed i f.cmd codeAborted .aborted
    else if f.reissue < Config.reissueLimit then
      ((s.requeue i f).modSlot i Slot.countRequeue).sweepRequeued i
        (requeuedEntry (s.now + s.profile.holdMs) f)
    else (s.removeFlight i r.tag).completeSensed i f.cmd codeMotionAbort .motionAbort
  State.settle i (s1.reportNotLoaded i r)

/-- The completion of a forwarded ABORT: its tag leaves the abort list and it goes upstream (R120). -/
def State.takeAbortAnswer (s : State) (i : SlotId) (r : DriveReport) : State :=
  if (s.slot i).pass.aborting r.tag then
    (s.modPass i (fun p => { p with aborts := p.aborts.filter (fun c => c.args.tag != r.tag) })).passUp i r
  else s

/-- A COMPLETION arrives from slot i's drive (R114 to R116, R120, R134, R135, R138). -/
def State.takeCompletion (s : State) (i : SlotId) (r : DriveReport) : State :=
  if !s.routes i then s
  else if r.op = Op.code .abort then s.takeAbortAnswer i r
  else
    match (s.slot i).pass.flight? r.tag with
    | none => s
    | some f =>
      if r.code = codeUnloadedAbort || r.code = codeNotLoaded then s.unloadAborted i r f
      else State.settle i ((s.removeFlight i r.tag).passUp i r)

/-- A DATA frame arrives from slot i's drive: handed upstream for a tag in flight, else discarded (R124). -/
def State.takeDriveData (s : State) (i : SlotId) (d : DataBody) : State :=
  if s.routes i && ((s.slot i).pass.flight? d.tag).isSome then
    s.handUp i (.data (fieldOfSlot i) d)
  else s

/-- A request joins a record's list, the oldest of eight removed first (R122). -/
def InFlight.addRequest (f : InFlight) (q : DataRequest) : InFlight :=
  { f with
    requests :=
      (if f.requests.length < Config.requestPlaces then f.requests else f.requests.drop 1) ++ [q] }

/-- A DATA_REQUEST arrives from slot i's drive: for a tag in flight it joins the record's list and is
handed upstream, else it is discarded (R122). -/
def State.takeDataRequest (s : State) (i : SlotId) (r : RequestBody) : State :=
  if s.routes i && ((s.slot i).pass.flight? r.tag).isSome then
    (s.modPass i (fun p =>
      { p with
        flight := p.flight.map (fun f =>
          if f.cmd.args.tag = r.tag then f.addRequest { offset := r.offset, lenM1 := r.lenM1 }
          else f) })).handUp i (.dataRequest (fieldOfSlot i) r)
  else s

/-- A DATA frame of the case controller answers a request of the record with its tag, offset and length:
the request leaves the list and the frame goes to the data source (R123); else it is discarded. Of two
equal requests the older leaves, a DESIGN CHOICE (log entry 32). -/
def State.takeCtrlData (s : State) (slot : SlotField) (d : DataBody) : State :=
  match slotOfField slot with
  | none => s
  | some i =>
    match (s.slot i).pass.flight? d.tag with
    | none => s
    | some f =>
      if f.requests.contains { offset := d.offset, lenM1 := d.lenM1 } then
        (s.modPass i (fun p =>
          { p with
            flight := p.flight.map (fun g =>
              if g.cmd.args.tag = d.tag then
                { g with requests := g.requests.erase { offset := d.offset, lenM1 := d.lenM1 } }
              else g) })).modPort i (Port.handData d)
      else s

end Sys2Proof.Machine
end

