-- ==== Sys2Proof/Machine/Park.lean ====
section
/-! DEFINITION. Park control (chapter 4): the unload orders of an entry into a motion state (R80 to R82), the sweep (R88),
the recognition of HANDLE (R87, R92), the lowering phase (R90, R91), a profile taking effect (R93), and
the hand-over of a motion state change with its device notice (R66, R148). -/

namespace Sys2Proof.Machine

/-- The slot is marked emergency and its requeue count starts from 0 (R82). -/
def Slot.markEmergency (x : Slot) : Slot :=
  { x with requeues := 0, ctx := { x.ctx with emergency := true } }

/-- Slot i has its heads on the media, or is on the way there (R81, R87). -/
def State.headsDown (s : State) (i : SlotId) : Bool :=
  (s.slot i).ctx.state == .loaded || (s.slot i).ctx.state == .loading

/-- An unload order of park control for slot i, which takes a LOADED or LOADING slot to UNLOADING (R81,
R87); an order of an entry into JOLT marks the slot emergency (R82). What follows for the slot comes before
the next slot's order (log entry 31). -/
def State.unloadOrder (emergency : Bool) (s : State) (i : SlotId) : State :=
  if s.headsDown i then
    State.settle i
      (if emergency then (s.lower i).modSlot i Slot.markEmergency else s.lower i)
  else s

/-- Unload orders for every slot that is LOADED or LOADING at the moment park control takes the change, in
rising order (R81, log entry 3). A slot that a scan grants LOAD while the orders are given has none
(log entry 31). -/
def State.unloadAll (emergency : Bool) (s : State) : State :=
  (allSlots.filter s.headsDown).foldl (State.unloadOrder emergency) s

/-- The edge policy of a motion state (R148). -/
def edgePolicy (p : Profile) : MotionSt → EdgePolicy
  | .settling => p.edges.settling
  | .still => p.edges.still
  | .rolling => p.edges.rolling
  | .tilted => p.edges.tilted
  | .jolt => p.edges.jolt
  | .sensorLost => p.edges.sensorLost

/-- The change raises the device notice: the new state's policy is ENTRY or ENTRY_AND_EXIT, or the former
state's is ENTRY_AND_EXIT (R148). -/
def edgeRaises (p : Profile) (former new : MotionSt) : Bool :=
  edgePolicy p new == .entry || edgePolicy p new == .entryAndExit
    || edgePolicy p former == .entryAndExit

/-- A motion state change is handed to park control, which gives the unload orders and has the admission
unit scan (R80), and then to the controller link port (R66, R148; log entry 3). The monitor already
stands in its new state. -/
def State.motionChanged (former : MotionSt) (s : State) : State :=
  let new := s.motion.state
  let s1 := if (permitRow s.profile new).unloadOnEntry then s.unloadAll (new == .jolt) else s
  let s2 := s1.scan
  if edgeRaises s.profile former new then s2.raiseMotion else s2

/-- The monitor's fields are replaced, and a change of motion state is handed on (R66). -/
def State.setMotion (s : State) (m : Motion) : State :=
  if m.state = s.motion.state then { s with motion := m }
  else State.motionChanged s.motion.state { s with motion := m }

/-! ## The sweep -/

/-- The held entries given are completed IN_TRANSIT one after another (R88), so that the sense record keeps
the first of them (R154); which entry that is follows from the order given, a DESIGN CHOICE (log entry 36). -/
def State.sweepAll (i : SlotId) : List HoldEntry → State → State
  | [], s => s
  | e :: rest, s => State.sweepAll i rest (s.sweepEntry i e)

/-- The held entries of slot i whose needed level lies above the park level in force (R88), in queue order,
head first, which is the order of their completion by DESIGN CHOICE (log entry 36). -/
def State.swept (s : State) (i : SlotId) : List HoldEntry :=
  (s.slot i).pass.hold.filter (fun e => e.cmd.op.above s.profile.parkLevel)

/-- The sweep of slot i's hold queue (R88). Its change of the queue is none of the events at which park
control tests a slot (R91), and the test under a new park level waits for the whole sweep (R93). That all
else that follows for slot i comes before the next slot's sweep, a scan included, is a DESIGN CHOICE (log
entry 31). -/
def State.sweepSlot (s : State) (i : SlotId) : State :=
  if (s.swept i).isEmpty then s
  else State.settleEnd i ((State.sweepAll i (s.swept i) s).reportAndServe i)

/-- The sweep of every hold queue, in rising slot order (R88, log entry 3). -/
def State.sweep (s : State) : State := allSlots.foldl State.sweepSlot s

/-! ## HANDLE -/

/-- HANDLE becomes recognized asserted (R87): the lock is set, loaded slots are unloaded without a mark,
the sweep runs, the transit timer starts, and the admission unit scans. -/
def State.handleAsserted (s : State) : State :=
  let s1 := { s with park := { s.park with handle := true, lowering := false } }
  let s2 := (s1.unloadAll false).sweep
  State.scan { s2 with park := { s2.park with transitTimer := some (s2.now + s2.profile.transitMs) } }

/-- HANDLE becomes recognized deasserted (R92). -/
def State.handleDeasserted (s : State) : State :=
  State.scan
    { s with park := { s.park with handle := false, transitTimer := none, lowering := false } }

/-- The HANDLE debounce completes (R86): the recognized value takes the level of the line. -/
def State.recognizeHandle (s : State) : State :=
  if s.handleLine then s.handleAsserted else s.handleDeasserted

/-! ## The lowering phase -/

/-- Slot i is tested by R91 as an event of its own. -/
def State.testSlot (s : State) (i : SlotId) : State :=
  if s.park.lowering && s.abovePark i then State.settle i (s.lower i) else s

/-- Every slot is tested by R91, in rising order. -/
def State.testAll (s : State) : State := allSlots.foldl State.testSlot s

/-- The transit timer expires with the lock standing (R90): the lowering phase begins. -/
def State.loweringBegins (s : State) : State :=
  State.testAll { s with park := { s.park with transitTimer := none, lowering := true } }

/-- A profile takes effect at park control (R93): under the lock the whole sweep, and after it the test of
every slot in the lowering phase; its scan apart, which R169 makes at the selection of budgets. That a fall which it causes reacts at once, under the budgets selected before, is a DESIGN
CHOICE (log entry 34). -/
def State.parkProfile (s : State) : State := if s.lock then s.sweep.testAll else s

end Sys2Proof.Machine
end

