-- ==== Sys2Proof/Machine/Monitor.lean ====
section
/-! DEFINITION. The motion monitor (chapter 3): the nine steps of a sample (R56 to R65), the window-end evaluation (R67
to R70), the loss and return of the sensor (R72, R73), the data-ready edge (R53, R54) and the shock test
(R74). -/

namespace Sys2Proof.Machine

/-- A baseline of a scaled baseline: shifted arithmetically right by 8, toward minus infinity (R58). -/
def baseline (g : Int) : Int := g / 256

/-- Step 1: an unseeded monitor takes the reading as its baselines (R57). -/
def Motion.seed (m : Motion) (x y z : Int) : Motion :=
  if m.seeded then m else { m with gx := 256 * x, gy := 256 * y, gz := 256 * z, seeded := true }

/-- Steps 2 to 4: the jolt score, the sum of the magnitudes of the deviations limited to 4095, and 4095
with a shock test pending (R58, R59). -/
def Motion.score (m : Motion) (x y z : Int) : Nat :=
  if m.shockPending then 4095
  else
    min 4095 ((x - baseline m.gx).natAbs + (y - baseline m.gy).natAbs + (z - baseline m.gz).natAbs)

/-- Step 5: the accumulator loses one part in 2^kv and gains the score (R60). -/
def accumulate (p : MotionParams) (acc j : Nat) : Nat := acc - acc / 2 ^ p.kv + j

/-- Step 5: the vibration level of an accumulator (R60). -/
def vibration (p : MotionParams) (acc : Nat) : Nat := min 4095 (acc / 2 ^ p.kv)

/-- A change of motion state zeroes the settle count and the quiet-window count (R71); the same state is
no change. -/
def Motion.become (m : Motion) (st : MotionSt) : Motion :=
  if m.state = st then m else { m with state := st, settle := 0, quiet := 0 }

/-- Step 6: the tally is counted, then the jolt test, then in JOLT the settle count (R61, R62). -/
def Motion.count (p : MotionParams) (j v : Nat) (m : Motion) : Motion :=
  let t := { m with tally := if p.troll ≤ j then m.tally + 1 else m.tally }
  if p.tjolt ≤ j then { t with state := .jolt, settle := 0, quiet := 0 }
  else if t.state = .jolt then { t with settle := if v < p.tsettle then t.settle + 1 else 0 }
  else t

/-- A scaled baseline closes one part in 2^kb of its gap to the reading, rounded toward minus infinity
(R63). -/
def follow (p : MotionParams) (g x : Int) : Int := g + (256 * x - g) / 2 ^ p.kb

/-- Step 7: the baselines follow the reading, except in JOLT and for a seeding sample (R63). -/
def Motion.track (p : MotionParams) (seeding : Bool) (x y z : Int) (m : Motion) : Motion :=
  if m.state = .jolt || seeding then m
  else { m with gx := follow p m.gx x, gy := follow p m.gy y, gz := follow p m.gz z }

/-- The tests of R65, R67 and R68 in their order: tilted, rolling, still. -/
def attitude (p : MotionParams) (gz : Int) (tLast : Nat) : MotionSt :=
  if gz < p.ttilt then .tilted else if p.nroll ≤ tLast then .rolling else .still

/-- The window-end evaluation of the present state (R64, R67 to R70), under the g_z of step 2. -/
def Motion.evaluate (p : MotionParams) (gz : Int) (m : Motion) : Motion :=
  match m.state with
  | .settling => m.become (attitude p gz m.tLast)
  | .still => m.become (attitude p gz m.tLast)
  | .rolling =>
    if gz < p.ttilt then m.become .tilted
    else if m.tLast < p.nroll then
      if p.wquiet ≤ m.quiet + 1 then m.become .still else { m with quiet := m.quiet + 1 }
    else { m with quiet := 0 }
  | .tilted =>
    if p.ttilt + p.htilt ≤ gz then m.become (if p.nroll ≤ m.tLast then .rolling else .still) else m
  | .jolt => m
  | .sensorLost => m

/-- Step 8: the window advances, and at 800 it ends (R64). -/
def Motion.advance (p : MotionParams) (gz : Int) (m : Motion) : Motion :=
  if Config.windowSamples ≤ m.window + 1 then
    Motion.evaluate p gz { m with window := 0, tLast := m.tally, tally := 0 }
  else { m with window := m.window + 1 }

/-- Step 9: in JOLT, a settle count of Dsettle leaves it (R65). -/
def Motion.leaveJolt (p : MotionParams) (gz : Int) (m : Motion) : Motion :=
  if m.state = .jolt && p.dsettle ≤ m.settle then m.become (attitude p gz m.tLast) else m

/-- A sample of three readings, in the nine steps of R56. -/
def Motion.sample (p : MotionParams) (x y z : Int) (m : Motion) : Motion :=
  let m1 := m.seed x y z
  let gz := baseline m1.gz
  let j := m1.score x y z
  let acc := accumulate p m1.acc j
  Motion.leaveJolt p gz
    (Motion.advance p gz
      (Motion.track p (!m.seeded) x y z
        (Motion.count p j (vibration p acc) { m1 with acc := acc, shockPending := false })))

/-- A sensor read completes (R53): the read is over, and the sample is processed whole (R56). In
SENSOR_LOST no sample is processed (R72). -/
def State.takeSample (s : State) (x y z : BitVec 16) : State :=
  if s.motion.state = .sensorLost then s
  else
    s.setMotion
      { Motion.sample s.profile.motion (reading x) (reading y) (reading z) s.motion with
        reading := false }

/-- The loss timer expires: SENSOR_LOST from every state (R72). -/
def Motion.lose (m : Motion) : Motion :=
  { m with state := .sensorLost, settle := 0, quiet := 0, lossTimer := none }

/-- The sensor returns: SETTLING, unseeded, a fresh window and tally (R73). -/
def Motion.regain (m : Motion) : Motion :=
  { m with state := .settling, settle := 0, quiet := 0, seeded := false, window := 0, tally := 0, tLast := 0 }

/-- A rising edge of data-ready restarts the loss timer and starts a read, if none is in progress (R53,
R54). -/
def Motion.dataReady (now : Nat) (m : Motion) : Motion :=
  { m with lossTimer := some (now + Config.lossMs), reading := true }

/-- A rising edge of data-ready reaches the monitor; in SENSOR_LOST it is the sensor's return (R73). -/
def State.takeDataReady (s : State) : State :=
  if s.motion.state = .sensorLost then s.setMotion (s.motion.regain.dataReady s.now)
  else { s with motion := s.motion.dataReady s.now }

/-- A rising edge of SHOCK_TEST (R74). -/
def State.takeShock (s : State) : State := { s with motion := { s.motion with shockPending := true } }

/-- The loss timer of the monitor expires, if it runs (R54, R72). -/
def State.loseSensor (s : State) : State :=
  match s.motion.lossTimer with
  | none => s
  | some t => (s.reach t).setMotion s.motion.lose

end Sys2Proof.Machine
end

