-- ==== Sys2Proof/Machine/ProfileImage.lean ====
section
/-! DEFINITION. The profile image: its words (R163, R177), its check (R164), the clamping of its fields (R165, R166),
and the profile it yields. -/

namespace Sys2Proof.Machine

/-- Word n of the image: bytes 2n and 2n + 1, low byte first (R163, R177). -/
def imageWord (image : List Byte) (n : Nat) : Nat :=
  (image.getD (2 * n) 0).toNat + 256 * (image.getD (2 * n + 1) 0).toNat

/-- The low byte of a word. -/
def lowByte (w : Nat) : Nat := w % 256

/-- The high byte of a word. -/
def highByte (w : Nat) : Nat := w / 256 % 256

/-- The sum of the 96 words modulo 65536 (R164). -/
def imageSum (image : List Byte) : Nat :=
  ((List.range 96).map (imageWord image)).sum % 65536

/-- An image passes when its format version byte is 1 and its words sum to 0x4E50 (R164). -/
def imagePasses (image : List Byte) : Bool :=
  lowByte (imageWord image 0) == 1 && imageSum image == 0x4E50

/-- A value outside its range is replaced by the nearest bound (R165). -/
def clamp (lo hi v : Nat) : Nat := max lo (min hi v)

/-- A word read as a signed 16-bit number (R165, R177). -/
def signedWord (w : Nat) : Int := (BitVec.ofNat 16 w).toInt

/-- A signed value outside its range is replaced by the nearest bound (R165). -/
def clampInt (lo hi v : Int) : Int := max lo (min hi v)

/-- A bit of a word. -/
def wordBit (w n : Nat) : Bool := w / 2 ^ n % 2 == 1

/-- A slot map entry: bit 0 enabled, bit 1 bank, bits 2..3 class (R177). -/
def slotMapOfWord (w : Nat) : SlotMap :=
  { enabled := wordBit w 0, bank := Fin.ofNat 2 (w / 2), cls := Fin.ofNat 4 (w / 4) }

/-- A park level code; 3 or more is taken as SPUN (R177). -/
def parkLevelOfWord (w : Nat) : Level :=
  match w with
  | 0 => .off
  | 1 => .idle
  | _ => .spun

/-- An edge policy code of two bits; 3 is taken as ENTRY_AND_EXIT (R177). -/
def edgeOfCode (w : Nat) : EdgePolicy :=
  match w % 4 with
  | 0 => .none
  | 1 => .entry
  | _ => .entryAndExit

/-- The permit row in three bits from bit n of word 32: load permit lowest, then spin permit, then unload
on entry (R177). -/
def permitRowOfWord (w n : Nat) : PermitRow :=
  { load := wordBit w n, spin := wordBit w (n + 1), unloadOnEntry := wordBit w (n + 2) }

/-- The class whose twelve words start at word n: range clamp, conversion to milliseconds, then the
currents put in order by raising (R166, R177). -/
def classOfImage (image : List Byte) (n : Nat) : ClassEntry :=
  let w := fun k => imageWord image (n + k)
  let elec := clamp 0 4000 (w 0)
  let run := max elec (clamp 0 4000 (w 1))
  let head := max run (clamp 0 4000 (w 2))
  let spin := max head (clamp 0 4000 (w 3))
  { iElec := elec, iRun := run, iHead := head, iSpin := spin
    powerMs := 100 * clamp 5 600 (w 4)
    spinMs := 100 * clamp 10 600 (w 5)
    loadMs := 10 * clamp 10 1000 (w 6)
    unloadMs := 10 * clamp 10 1000 (w 7)
    stopMs := 100 * clamp 10 600 (w 8)
    unloadIdleMs := 1000 * clamp 0 65535 (w 9)
    stopIdleMs := 1000 * clamp 0 65535 (w 10)
    offIdleMs := 1000 * clamp 0 65535 (w 11) }

/-- The motion parameters of words 22 to 31 (section 3.7, R165, R177). -/
def motionOfImage (image : List Byte) : MotionParams :=
  let w := imageWord image
  { kb := clamp 4 12 (w 22), kv := clamp 2 6 (w 23), tjolt := clamp 16 4095 (w 24),
    troll := clamp 8 4095 (w 25), nroll := clamp 1 800 (w 26), wquiet := clamp 1 15 (w 27),
    tsettle := clamp 1 4095 (w 28), dsettle := clamp 1 4000 (w 29),
    ttilt := clampInt (-2048) 2047 (signedWord (w 30)), htilt := clamp 0 255 (w 31) }

/-- The profile a passing image yields, every field clamped (R165, R166, R177). -/
def profileOfImage (image : List Byte) : Profile :=
  let w := imageWord image
  let m := fun k => slotMapOfWord (w k)
  let edge := fun k => edgeOfCode (w 33 / 4 ^ k)
  { slots := #v[m 1, m 2, m 3, m 4, m 5, m 6, m 7, m 8, m 9, m 10]
    dock := #v[clamp 0 4000 (w 11), clamp 0 4000 (w 13)]
    battery := #v[clamp 0 4000 (w 12), clamp 0 4000 (w 14)]
    concurrency := #v[clamp 1 4 (lowByte (w 15)), clamp 1 4 (highByte (w 15))]
    staggerMs := 10 * clamp 0 500 (w 16)
    probeMs := clamp 10 1000 (w 17)
    holdMs := 500 * clamp 1 255 (w 18)
    retryLimit := clamp 0 3 (w 19)
    transitMs := 1000 * clamp 1 255 (w 20)
    parkLevel := parkLevelOfWord (w 21)
    motion := motionOfImage image
    permits :=
      { settling := permitRowOfWord (w 32) 0, still := permitRowOfWord (w 32) 3,
        rolling := permitRowOfWord (w 32) 6, tilted := permitRowOfWord (w 32) 9,
        sensorLost := permitRowOfWord (w 32) 12 }
    edges :=
      { settling := edge 0, still := edge 1, rolling := edge 2, tilted := edge 3, jolt := edge 4,
        sensorLost := edge 5 }
    motionNotice := wordBit (w 33) 12
    classes := #v[classOfImage image 34, classOfImage image 46, classOfImage image 58,
      classOfImage image 70] }

end Sys2Proof.Machine
end

