-- ==== Sys2Proof/Machine/Loading.lean ====
section
/-! DEFINITION. The profile loader (chapter 9): RELOAD edges (R170), the ends of a read (R163, R164), and the taking effect
of their outcome (R168, R169, R171). -/

namespace Sys2Proof.Machine

/-- The loader's fields changed by f. -/
def State.modLoader (s : State) (f : Loader → Loader) : State := { s with loader := f s.loader }

/-- A reload read starts, with its read limit (R163, R170). -/
def Loader.startReload (now : Nat) (l : Loader) : Loader :=
  { l with readState := .reloadRead, readLimit := some (now + Config.readLimitMs) }

/-- A rising edge of RELOAD (R170). -/
def State.takeReload (s : State) : State :=
  match s.loader.readState with
  | .idle => s.modLoader (Loader.startReload s.now)
  | .powerOnRead => s.modLoader (fun l => { l with again := true })
  | .reloadRead => s.modLoader (fun l => { l with again := true })

/-- The read of the loader is over (R163). -/
def Loader.ended (l : Loader) : Loader := { l with readState := .idle, readLimit := none }

/-- Slot i is offered the profile's slot map entry, which a slot in OFF, EMPTY or FAULT takes at once (R5,
R169 step 2). -/
def State.offerMap (s : State) (i : SlotId) : State :=
  match (s.slot i).ctx.state with
  | .off => s.takeMap i
  | .empty => s.takeMap i
  | .fault => s.takeMap i
  | _ => s

/-- The profile in force takes effect at the slots, park control and the admission unit (R169 steps 2 to
4). The read is over at the selection of budgets, so that the scan there is the first after a power-on
load (R38). A fall within step 3 of a reload reacts under the budgets selected before, a DESIGN CHOICE
(log entry 34). -/
def State.takeEffect (s : State) : State :=
  ((allSlots.foldl State.offerMap s).parkProfile.modLoader Loader.ended).selectBudgets

/-- A set reload-again mark is cleared and starts a reload read (R170). -/
def State.startAgain (s : State) : State :=
  if s.loader.again then s.modLoader (fun l => Loader.startReload s.now { l with again := false }) else s

/-- A profile that passed takes the place of the profile in force; both flags are clear (R168, R171). -/
def State.installProfile (s : State) (p : Profile) : State :=
  s.modLoader (fun l => { l with profile := p, defaulted := false, rejected := false })

/-- A read ends with an image that passes its check (R168, R169, R171): only a reload raises the device
notice. -/
def State.readPassed (s : State) (p : Profile) : State :=
  match s.loader.readState with
  | .idle => s
  | .powerOnRead => (s.installProfile p).takeEffect.startAgain
  | .reloadRead => (s.installProfile p).takeEffect.raiseProfile.startAgain

/-- A read ends as a failed check. At power-on the built-in defaults stay and take effect, PROFILE_DEFAULTED
is set and the device notice raised (R168; log entry 21); at a reload the profile in force is kept
whole, PROFILE_REJECTED is set and the device notice raised (R171). -/
def State.readFailed (s : State) : State :=
  match s.loader.readState with
  | .idle => s
  | .powerOnRead =>
    (s.modLoader (fun l => { l with defaulted := true })).takeEffect.raiseProfile.startAgain
  | .reloadRead => (s.modLoader (fun l => { l.ended with rejected := true })).raiseProfile.startAgain

/-- The bytes of a read arrive: fewer than 192 leave the read waiting (R163, log entry 20), and the first
192 are checked (R164). -/
def State.takeImage (s : State) (image : List Byte) : State :=
  if image.length < 192 then s
  else if imagePasses (image.take 192) then s.readPassed (profileOfImage (image.take 192))
  else s.readFailed

/-- The read limit expires, if a read is in progress: no image (R163). -/
def State.readTimesOut (s : State) : State :=
  match s.loader.readLimit with
  | none => s
  | some t => (s.reach t).readFailed

end Sys2Proof.Machine
end

