-- ==== Sys2Proof/Machine/Links.lean ====
section
/-! DEFINITION. The frames that wait on the links and their taking (R142 to R144), LINK_RESET (R150, R151), and the
wrapper that every event of the part runs in. -/

namespace Sys2Proof.Machine

/-! ## LINK_RESET -/

/-- LINK_RESET at the port of a powered slot (R137): the command and data sources are emptied, and an
exchange starts with a CANCEL_ALL unless one is under way. One left waiting by an exchange that ended
early stays ahead of it (log entry 35). -/
def Port.linkReset (p : Port) : Port :=
  let q := { p with command := [], data := [] }
  if p.cancelPending then q
  else Port.handControl .cancelAll { q with cancelPending := true, cancelMiss := 0 }

/-- LINK_RESET at one slot (R4, R118, R137, R150, R151, R161): upstream queue, command passage, record and
notice emptied, a FAULT acknowledged, the cancel exchange started and the fence set at a powered
slot, and the idle timer started afresh. -/
def Slot.linkReset (p : Profile) (now : Nat) (x : Slot) : Slot :=
  let port := if x.ctx.state.powered then x.port.linkReset else x.port
  Slot.touchIdle p now
    { x with
      upstream := []
      pass := x.pass.emptied
      record := none
      notice := false
      port := port
      fence := x.ctx.state.powered && port.cancelPending
      ctx := { x.ctx with faultAck := x.ctx.faultAck || x.ctx.state == .fault } }

/-- A LINK_RESET taken from the link (R150): every block that keeps command state empties it, and nothing
goes upstream; park control tests the slots whose in-flight set is emptied (R91, log entry 24), and a
bank in OVERDRAW sheds (R51), bank 0 before bank 1 (log entry 30). -/
def State.linkResetTaken (s : State) : State :=
  let s1 :=
    { s with
      slots := s.slots.map (Slot.linkReset s.profile s.now)
      admission := { s.admission with queue := [] }
      ctrl :=
        { s.ctrl with
          badSlot := [], deviceNotice := false, causeMotion := false, causeProfile := false } }
  (s1.testAll.shed 0).shed 1

/-! ## Taking a frame from a link -/

/-- The free places of a queue of n places suffice for a reserve. -/
def hasRoom (n reserve : Nat) (q : List UpFrame) : Bool := q.length + reserve ≤ n

/-- The conditions under which the controller link port takes the next frame (R141, R143). -/
def State.canTakeCtrl (s : State) (f : CtrlFrame) : Bool :=
  !s.resetAsserted
    && allSlots.all (fun i => hasRoom Config.upstreamPlaces Config.ctrlReserve (s.slot i).upstream)
    && hasRoom Config.badSlotPlaces 1 s.ctrl.badSlot
    && (match f with
      | .data slot _ =>
        match slotOfField slot with
        | none => true
        | some i => (s.slot i).port.data.length < Config.dataPlaces
      | .command _ => true
      | .linkReset => true
      | .discarded => true)

/-- The kinds of drive frame that need free places upstream (R144). -/
def goesUp : DriveFrame → Bool
  | .completion _ => true
  | .data _ => true
  | .dataRequest _ => true
  | .controlReply _ _ => false
  | .stateReply _ => false
  | .alertSelfUnload => false
  | .alertFault => false
  | .discarded => false

/-- The condition under which slot i's drive link port takes its next frame (R144). At an unpowered slot it
takes every frame at once, to discard it (R135). That a frame which R138 discards waits for free places
like any other is a DESIGN CHOICE (log entry 33). -/
def State.canTakeDrive (s : State) (i : SlotId) (f : DriveFrame) : Bool :=
  !s.resetAsserted
    && (!(s.slot i).ctx.state.powered || !goesUp f
      || hasRoom Config.upstreamPlaces Config.driveReserve (s.slot i).upstream)

/-- The controller link port takes a frame (R142, R143, R150). -/
def State.takeCtrl (s : State) : CtrlFrame → State
  | .command c => s.takeCommand c
  | .data slot d => s.takeCtrlData slot d
  | .linkReset => s.linkResetTaken
  | .discarded => s

/-- Slot i's drive link port takes a frame (R126). -/
def State.takeDrive (s : State) (i : SlotId) : DriveFrame → State
  | .completion r => s.takeCompletion i r
  | .data d => s.takeDriveData i d
  | .dataRequest r => s.takeDataRequest i r
  | .controlReply op answer => s.takeControlReply i op answer
  | .stateReply report => s.takeStateReply i report
  | .alertSelfUnload => s.takeSelfUnload i
  | .alertFault => s.takeFaultAlert i
  | .discarded => s

/-! ## Waiting frames -/

/-- The frames that wait on slot i's drive link. -/
def State.setWaiting (s : State) (i : SlotId) (q : List DriveFrame) : State :=
  s.modSlot i (fun x => { x with waiting := q })

/-- The frames that wait on the controller link. -/
def State.setCtrlWaiting (s : State) (q : List CtrlFrame) : State :=
  { s with ctrl := { s.ctrl with waiting := q } }

/-- The number of frames that wait on the links. -/
def State.waitingCount (s : State) : Nat :=
  s.ctrl.waiting.length + (allSlots.map (fun i => (s.slot i).waiting.length)).sum

/-- The first drive link of a list, in order, whose next frame can be taken gives it (R144). -/
def State.drainDrives (s : State) : List SlotId → Option State
  | [] => none
  | i :: rest =>
    match (s.slot i).waiting with
    | [] => s.drainDrives rest
    | f :: q => if s.canTakeDrive i f then some ((s.setWaiting i q).takeDrive i f) else s.drainDrives rest

/-- One waiting frame that can be taken is taken: the controller link's first, then the drive links' in
rising order (log entry 6). -/
def State.drainOnce (s : State) : Option State :=
  match s.ctrl.waiting with
  | [] => s.drainDrives allSlots
  | f :: q =>
    if s.canTakeCtrl f then some ((s.setCtrlWaiting q).takeCtrl f) else s.drainDrives allSlots

/-- Waiting frames are taken while one can be, at most the number given. -/
def State.drain : Nat → State → State
  | 0, s => s
  | n + 1, s =>
    match s.drainOnce with
    | none => s
    | some t => State.drain n t

/-- An event of the part, taken whole, after which every waiting frame that can now be taken is taken (log
entry 6). While RESET is asserted nothing is taken (log entry 5). -/
def State.live (ev : State → State) (s : State) : State :=
  if s.resetAsserted then s else State.drain s.waitingCount (ev s)

/-- A frame arrives on the controller link, behind the frames that wait there (R142, R143). -/
def State.arriveCtrl (s : State) (f : CtrlFrame) : State :=
  State.drain (s.waitingCount + 1) (s.setCtrlWaiting (s.ctrl.waiting ++ [f]))

/-- A frame arrives on slot i's drive link, behind the frames that wait there (R144). While RESET is
asserted it is lost (log entry 5). -/
def State.arriveDrive (s : State) (i : SlotId) (f : DriveFrame) : State :=
  if s.resetAsserted then s
  else State.drain (s.waitingCount + 1) (s.setWaiting i ((s.slot i).waiting ++ [f]))

end Sys2Proof.Machine
end

