-- ==== Sys2Proof/Machine/Commands.lean ====
section
/-! DEFINITION. The frames of the case controller: the COMMAND frames of each operation (R94, R99, R142), DATA (R123),
and the frames that a link discards (R173, R175). -/

namespace Sys2Proof.Machine

/-- A COMMAND frame of an operation arrives on the controller link. -/
def State.arriveOp (s : State) (op : Op) (c : CmdArgs) : State :=
  s.arriveCtrl (.command { op := op, args := c })

/-- READ, a media command (R94, R105). -/
def execRead (c : CmdArgs) (s : State) : Host.Outcome State Fault Refusal := .next (s.arriveOp .read c)

/-- WRITE, a media command (R94, R105). -/
def execWrite (c : CmdArgs) (s : State) : Host.Outcome State Fault Refusal := .next (s.arriveOp .write c)

/-- VERIFY, a media command (R94, R105). -/
def execVerify (c : CmdArgs) (s : State) : Host.Outcome State Fault Refusal := .next (s.arriveOp .verify c)

/-- FLUSH, a media command (R94, R105). -/
def execFlush (c : CmdArgs) (s : State) : Host.Outcome State Fault Refusal := .next (s.arriveOp .flush c)

/-- IDENTIFY, an attached command (R94, R105). -/
def execIdentify (c : CmdArgs) (s : State) : Host.Outcome State Fault Refusal := .next (s.arriveOp .identify c)

/-- A COMMAND whose op byte R94 does not name, an attached command. An op byte that R174 names is that
operation's frame (log entry 25). -/
def execOtherAttached (op : Byte) (c : CmdArgs) (s : State) : Host.Outcome State Fault Refusal :=
  .next (s.arriveOp (Op.ofCode op) c)

/-- SENSE (R101, R157, R158). -/
def execSense (c : CmdArgs) (s : State) : Host.Outcome State Fault Refusal := .next (s.arriveOp .sense c)

/-- PROBE (R100). -/
def execProbe (c : CmdArgs) (s : State) : Host.Outcome State Fault Refusal := .next (s.arriveOp .probe c)

/-- SPIN_UP, a raising spindle command (R94, R109). -/
def execSpinUp (c : CmdArgs) (s : State) : Host.Outcome State Fault Refusal := .next (s.arriveOp .spinUp c)

/-- LOAD_HEADS, a raising spindle command (R94, R109). -/
def execLoadHeads (c : CmdArgs) (s : State) : Host.Outcome State Fault Refusal := .next (s.arriveOp .loadHeads c)

/-- UNLOAD_HEADS, a lowering spindle command (R94, R110). -/
def execUnloadHeads (c : CmdArgs) (s : State) : Host.Outcome State Fault Refusal := .next (s.arriveOp .unloadHeads c)

/-- SPIN_DOWN, a lowering spindle command (R94, R110). -/
def execSpinDown (c : CmdArgs) (s : State) : Host.Outcome State Fault Refusal := .next (s.arriveOp .spinDown c)

/-- POWER_OFF, a lowering spindle command (R94, R110). -/
def execPowerOff (c : CmdArgs) (s : State) : Host.Outcome State Fault Refusal := .next (s.arriveOp .powerOff c)

/-- ABORT (R119, R120). -/
def execAbort (c : CmdArgs) (s : State) : Host.Outcome State Fault Refusal := .next (s.arriveOp .abort c)

/-- DATA from the case controller (R123, R143). -/
def execData (slot : SlotField) (d : DataBody) (s : State) : Host.Outcome State Fault Refusal :=
  .next (s.arriveCtrl (.data slot d))

/-- The bytes of a frame arrive on a link and are taken as the frame they spell; those of a discarded frame
change nothing (R173, R175). -/
def State.arriveBytes (s : State) (link : Link) (bytes : List Byte) : State :=
  match link with
  | .controller => s.arriveCtrl (parseCtrl bytes)
  | .drive i => s.arriveDrive i (parseDrive bytes)

/-- FRAME_DISCARDED (R173, R175). Bytes that spell a frame after all are that frame (log entry 25). -/
def execFrameDiscarded (link : Link) (bytes : List Byte) (s : State) :
    Host.Outcome State Fault Refusal :=
  .next (s.arriveBytes link bytes)

end Sys2Proof.Machine
end

