-- ==== Sys2Proof/Machine/DriveFrames.lean ====
section
/-! DEFINITION. The frames of the drives (R126 to R130, R134, R135) and the ends of transmissions (R131, R132, R145). -/

namespace Sys2Proof.Machine

/-- DRIVE_COMPLETION (R114 to R116, R120). -/
def execDriveCompletion (i : SlotId) (r : DriveReport) (s : State) : Host.Outcome State Fault Refusal :=
  .next (s.arriveDrive i (.completion r))

/-- DRIVE_DATA (R124). -/
def execDriveData (i : SlotId) (d : DataBody) (s : State) : Host.Outcome State Fault Refusal :=
  .next (s.arriveDrive i (.data d))

/-- DATA_REQUEST (R122). -/
def execDataRequest (i : SlotId) (r : RequestBody) (s : State) : Host.Outcome State Fault Refusal :=
  .next (s.arriveDrive i (.dataRequest r))

/-- CONTROL_REPLY (R8, R126 to R128, R138). -/
def execControlReply (i : SlotId) (op answer : Byte) (s : State) : Host.Outcome State Fault Refusal :=
  .next (s.arriveDrive i (.controlReply op answer))

/-- STATE_REPLY (R9 to R12, R17, R18, R129). -/
def execStateReply (i : SlotId) (report : Byte) (s : State) : Host.Outcome State Fault Refusal :=
  .next (s.arriveDrive i (.stateReply report))

/-- DRIVE_ALERT of SELF_UNLOAD (R19). -/
def execDriveAlertSelfUnload (i : SlotId) (s : State) : Host.Outcome State Fault Refusal :=
  .next (s.arriveDrive i .alertSelfUnload)

/-- DRIVE_ALERT of FAULT (R20). -/
def execDriveAlertFault (i : SlotId) (s : State) : Host.Outcome State Fault Refusal :=
  .next (s.arriveDrive i .alertFault)

/-- The frame in transmission to drive i ends, if there is one (R131, R132). -/
def State.downSent (s : State) (i : SlotId) : State :=
  match (s.slot i).port.sending with
  | none => s
  | some _ => s.modPort i Port.sent

/-- DRIVE_FRAME_SENT (R131, R132). -/
def execDriveFrameSent (i : SlotId) (s : State) : Host.Outcome State Fault Refusal :=
  .next (State.live (fun t => t.downSent i) s)

/-- The frame in transmission to the case controller ends, if there is one, and the arbiter picks again
(R145). -/
def State.upSent (s : State) : State :=
  match s.ctrl.sending with
  | none => s
  | some _ => State.pickUpstream { s with ctrl := { s.ctrl with sending := none } }

/-- UPSTREAM_FRAME_SENT (R145). -/
def execUpstreamFrameSent (s : State) : Host.Outcome State Fault Refusal := .next (State.live State.upSent s)

end Sys2Proof.Machine
end

