-- ==== Sys2Proof/Machine/Lines.lean ====
section
/-! DEFINITION. The case lines: PRESENT (R23, R24), POWER_FAULT (R21), DOCK (R30, R31), HANDLE (R86, R87, R92) and their
debounces, and the edges of RELOAD, SHOCK_TEST and data-ready (R170, R74, R53). -/

namespace Sys2Proof.Machine

/-- A line changes its level, which is recorded even under RESET, and the event follows as any other
(log entries 5 and 8). -/
def State.lineEvent (record event : State → State) (s : State) : State := State.live event (record s)

/-- The level of slot i's PRESENT line. -/
def State.setPresent (s : State) (i : SlotId) (level : Bool) : State :=
  s.modSlot i (fun x => { x with presentLine := level })

/-- The level of slot i's POWER_FAULT line. -/
def State.setPowerFault (s : State) (i : SlotId) (level : Bool) : State :=
  s.modSlot i (fun x => { x with powerFaultLine := level })

/-- PRESENT is asserted at slot i: in EMPTY and enabled, the debounce starts (R24). -/
def State.seated (s : State) (i : SlotId) : State :=
  if (s.slot i).ctx.state == .empty && (s.slot i).ctx.map.enabled then
    s.modCtx i (fun c => { c with presentDebounce := some s.now })
  else s

/-- PRESENT is deasserted at slot i (R23): removal, or in EMPTY the end of a debounce. -/
def State.unseated (s : State) (i : SlotId) : State :=
  if (s.slot i).ctx.state == .empty then s.modCtx i (fun c => { c with presentDebounce := none })
  else s.enterRemoved i

/-- The PRESENT debounce of slot i completes, if one runs (R24): the slot takes the profile's slot map
entry and, still enabled, enters OFF, or FAULT with the latch set. -/
def State.seatingDone (s : State) (i : SlotId) : State :=
  match (s.slot i).ctx.state, (s.slot i).ctx.presentDebounce with
  | .empty, some t =>
    let s1 := ((s.reach (t + Config.presentDebounceMs)).modCtx i
      (fun c => { c with presentDebounce := none })).takeMap i
    if !(s1.slot i).ctx.map.enabled then s1
    else if (s1.slot i).ctx.latch then s1.enterFault i .powerTrip
    else s1.enterOff i
  | _, _ => s

/-- POWER_FAULT is asserted at slot i (R21): the latch is set, and the slot acts by its state. -/
def State.tripped (s : State) (i : SlotId) : State :=
  let s1 := s.modCtx i (fun c => { c with latch := true })
  match (s.slot i).ctx.state with
  | .empty => s1
  | .fault => s1.submit i .powerTrip none none .fault (s.slot i).pass.hold.length
  | _ => s1.enterFault i .powerTrip

/-- POWER_FAULT is deasserted at slot i (R21): in FAULT and EMPTY the latch clears. -/
def State.untripped (s : State) (i : SlotId) : State :=
  if (s.slot i).ctx.state == .fault || (s.slot i).ctx.state == .empty then
    s.modCtx i (fun c => { c with latch := false })
  else s

/-- PRESENT_ASSERTED (R24). -/
def execPresentAsserted (i : SlotId) (s : State) : Host.Outcome State Fault Refusal :=
  .next (State.lineEvent (fun t => t.setPresent i true) (fun t => t.seated i) s)

/-- PRESENT_DEASSERTED (R23). -/
def execPresentDeasserted (i : SlotId) (s : State) : Host.Outcome State Fault Refusal :=
  .next (State.lineEvent (fun t => t.setPresent i false) (fun t => t.unseated i) s)

/-- PRESENT_DEBOUNCE_COMPLETE (R24). -/
def execPresentDebounceComplete (i : SlotId) (s : State) : Host.Outcome State Fault Refusal :=
  .next (State.live (fun t => t.seatingDone i) s)

/-- POWER_FAULT_ASSERTED (R21). -/
def execPowerFaultAsserted (i : SlotId) (s : State) : Host.Outcome State Fault Refusal :=
  .next (State.lineEvent (fun t => t.setPowerFault i true) (fun t => t.tripped i) s)

/-- POWER_FAULT_DEASSERTED (R21). -/
def execPowerFaultDeasserted (i : SlotId) (s : State) : Host.Outcome State Fault Refusal :=
  .next (State.lineEvent (fun t => t.setPowerFault i false) (fun t => t.untripped i) s)

/-- The debounce of a line after a change to a level: started where the level differs from the recognized
one, dropped where it does not (R30, R86). -/
def debounceAfter (now : Nat) (recognized level : Bool) : Option Nat :=
  if level = recognized then none else some now

/-- The DOCK line takes a level (R30). -/
def State.dockMoves (s : State) : State :=
  { s with
    admission :=
      { s.admission with dockDebounce := debounceAfter s.now s.admission.dock s.dockLine } }

/-- The DOCK debounce completes, if one runs: the recognized value takes the level of the line and the
budgets are selected (R30, R31). -/
def State.dockSettles (s : State) : State :=
  match s.admission.dockDebounce with
  | none => s
  | some t =>
    let s1 := s.reach (t + Config.lineDebounceMs)
    State.selectBudgets
      { s1 with admission := { s1.admission with dockDebounce := none, dock := s1.dockLine } }

/-- The HANDLE line takes a level (R86). -/
def State.handleMoves (s : State) : State :=
  { s with park := { s.park with handleDebounce := debounceAfter s.now s.park.handle s.handleLine } }

/-- The HANDLE debounce completes, if one runs (R86). -/
def State.handleSettles (s : State) : State :=
  match s.park.handleDebounce with
  | none => s
  | some t =>
    let s1 := s.reach (t + Config.lineDebounceMs)
    State.recognizeHandle { s1 with park := { s1.park with handleDebounce := none } }

/-- DOCK_CHANGE (R30). -/
def execDockChange (level : Bool) (s : State) : Host.Outcome State Fault Refusal :=
  .next (State.lineEvent (fun t => { t with dockLine := level }) State.dockMoves s)

/-- DOCK_DEBOUNCE_COMPLETE (R30, R31). -/
def execDockDebounceComplete (s : State) : Host.Outcome State Fault Refusal :=
  .next (State.live State.dockSettles s)

/-- HANDLE_CHANGE (R86). -/
def execHandleChange (level : Bool) (s : State) : Host.Outcome State Fault Refusal :=
  .next (State.lineEvent (fun t => { t with handleLine := level }) State.handleMoves s)

/-- HANDLE_DEBOUNCE_COMPLETE (R86, R87, R92). -/
def execHandleDebounceComplete (s : State) : Host.Outcome State Fault Refusal :=
  .next (State.live State.handleSettles s)

/-- RELOAD_EDGE (R170). -/
def execReloadEdge (s : State) : Host.Outcome State Fault Refusal := .next (State.live State.takeReload s)

/-- SHOCK_TEST_EDGE (R74). -/
def execShockTestEdge (s : State) : Host.Outcome State Fault Refusal := .next (State.live State.takeShock s)

/-- DATA_READY_EDGE (R53, R54, R73). -/
def execDataReadyEdge (s : State) : Host.Outcome State Fault Refusal := .next (State.live State.takeDataReady s)

end Sys2Proof.Machine
end

