-- ==== Sys2Proof/Machine/Resets.lean ====
section
/-! DEFINITION. The commands RESET_ASSERT, RESET_DEASSERT and LINK_RESET (R3, R22, R150). -/

namespace Sys2Proof.Machine

/-- The levels of the PRESENT lines. -/
def State.presentLines (s : State) : Vector Bool 10 := s.slots.map (·.presentLine)

/-- The levels of the POWER_FAULT lines. -/
def State.powerFaultLines (s : State) : Vector Bool 10 := s.slots.map (·.powerFaultLine)

/-- What a reset keeps of the world outside the blocks: the commands that wait and the frames that wait on
the controller link (log entry 5). -/
def State.keepOutside (old s : State) : State :=
  { s with pending := old.pending, ctrl := { s.ctrl with waiting := old.ctrl.waiting } }

/-- RESET is asserted (R22, R53, R135, R141, R160, R162): every block goes to its reset values, PWR_EN and
NOTICE are off, and no timer, sensor read or profile read runs until the deassertion (log entry 5). -/
def State.holdReset (s : State) : State :=
  let r := State.afterReset s.presentLines s.powerFaultLines s.dockLine s.handleLine
  State.keepOutside s
    { r with
      resetAsserted := true
      admission := { r.admission with dock := false }
      park := Park.reset false
      motion := { r.motion with lossTimer := none }
      loader := { r.loader with readState := .idle, readLimit := none } }

/-- A slot that starts in OFF with its latch set enters FAULT with POWER_TRIP (R3). -/
def State.tripAtStart (s : State) (i : SlotId) : State :=
  if (s.slot i).ctx.state == .off && (s.slot i).ctx.latch then s.enterFault i .powerTrip else s

/-- RESET is deasserted, or the part powers up (R3): the case lines are sampled, every block starts from
its reset values, the loss timer and the power-on read start, and a tripped slot enters FAULT. -/
def State.startUp (s : State) : State :=
  allSlots.foldl State.tripAtStart
    (State.keepOutside s
      (State.afterReset s.presentLines s.powerFaultLines s.dockLine s.handleLine))

/-- RESET_ASSERT (R22). -/
def execResetAssert (s : State) : Host.Outcome State Fault Refusal := .next s.holdReset

/-- RESET_DEASSERT (R3): the start, after which the frames that wait on the controller link are taken. -/
def execResetDeassert (s : State) : Host.Outcome State Fault Refusal :=
  .next (State.drain s.ctrl.waiting.length s.startUp)

/-- LINK_RESET (R150). -/
def execLinkReset (s : State) : Host.Outcome State Fault Refusal := .next (s.arriveCtrl .linkReset)

end Sys2Proof.Machine
end

