-- ==== Sys2Proof/Machine/Timers.lean ====
section
/-! DEFINITION. What takes time and ends: samples and profile reads (R56, R163), and the expiry of each timer. An expiry of
an absent timer has no effect, and one that runs moves the time up to its expiry (log entry 2). -/

namespace Sys2Proof.Machine

/-- SAMPLE (R53, R56). -/
def execSample (x y z : BitVec 16) (s : State) : Host.Outcome State Fault Refusal :=
  .next (State.live (fun t => t.takeSample x y z) s)

/-- LOSS_TIMER_EXPIRY (R54, R72). -/
def execLossTimerExpiry (s : State) : Host.Outcome State Fault Refusal := .next (State.live State.loseSensor s)

/-- PROFILE_READ_COMPLETE (R163, R164, R168, R171). -/
def execProfileReadComplete (image : List Byte) (s : State) : Host.Outcome State Fault Refusal :=
  .next (State.live (fun t => t.takeImage image) s)

/-- READ_LIMIT_EXPIRY (R163, R168, R171). -/
def execReadLimitExpiry (s : State) : Host.Outcome State Fault Refusal :=
  .next (State.live State.readTimesOut s)

/-- The step deadline of slot i expires in the state given, if it runs, and the act of that state
follows. -/
def State.atDeadline (i : SlotId) (st : SlotSt) (act : State → State) (s : State) : State :=
  if (s.slot i).ctx.state = st then
    match (s.slot i).ctx.stepDeadline with
    | none => s
    | some t => act (s.reach t)
  else s

/-- POWER_DEADLINE_EXPIRY (R11). -/
def execPowerDeadlineExpiry (i : SlotId) (s : State) : Host.Outcome State Fault Refusal :=
  .next (State.live (State.atDeadline i .powering (fun t => t.enterFault i .powerTimeout)) s)

/-- SPIN_DEADLINE_EXPIRY (R12). -/
def execSpinDeadlineExpiry (i : SlotId) (s : State) : Host.Outcome State Fault Refusal :=
  .next (State.live (State.atDeadline i .spinningUp (fun t => t.spinFails i .timeout)) s)

/-- LOAD_DEADLINE_EXPIRY (R15). -/
def execLoadDeadlineExpiry (i : SlotId) (s : State) : Host.Outcome State Fault Refusal :=
  .next (State.live (State.atDeadline i .loading (fun t => t.loadFails i)) s)

/-- UNLOAD_DEADLINE_EXPIRY (R16). -/
def execUnloadDeadlineExpiry (i : SlotId) (s : State) : Host.Outcome State Fault Refusal :=
  .next (State.live (State.atDeadline i .unloading (fun t => t.enterFault i .unloadFailed)) s)

/-- STOP_DEADLINE_EXPIRY (R17). -/
def execStopDeadlineExpiry (i : SlotId) (s : State) : Host.Outcome State Fault Refusal :=
  .next (State.live (State.atDeadline i .stopping (fun t => t.enterFault i .stopTimeout)) s)

/-- The counts of an expiry of the QUERY schedule: the missed-query count for an unanswered QUERY (R9)
and the cancel miss count for an exchange under way (R139), neither of them in POWERING. -/
def Slot.countMisses (x : Slot) : Slot :=
  if x.ctx.state = .powering then x
  else
    { x with
      ctx := { x.ctx with missed := if x.ctx.queryPending then x.ctx.missed + 1 else x.ctx.missed }
      port :=
        { x.port with
          cancelMiss := if x.port.cancelPending then x.port.cancelMiss + 1 else x.port.cancelMiss } }

/-- The drive is lost: one of the counts that this expiry raised has reached 3 (R9, R139). -/
def Slot.linkLost (x : Slot) : Bool :=
  x.ctx.state != .powering
    && ((x.ctx.queryPending && Config.missLimit ≤ x.ctx.missed)
      || (x.port.cancelPending && Config.missLimit ≤ x.port.cancelMiss))

/-- A QUERY is handed over, query pending becomes yes, and the schedule restarts from its full interval
(R9, R136). -/
def Slot.query (now interval : Nat) (x : Slot) : Slot :=
  { x with
    ctx := { x.ctx with queryPending := true }
    port := { x.port.handQuery with query := some { expiry := now + interval, interval := interval } } }

/-- The QUERY schedule of slot i expires, if it runs (R9, R139). -/
def State.queryExpires (s : State) (i : SlotId) : State :=
  match (s.slot i).port.query with
  | none => s
  | some q =>
    let s1 := (s.reach q.expiry).modSlot i Slot.countMisses
    if (s1.slot i).linkLost then s1.enterFault i .linkLost
    else s1.modSlot i (Slot.query s1.now q.interval)

/-- QUERY_SCHEDULE_EXPIRY (R9, R136, R139). -/
def execQueryScheduleExpiry (i : SlotId) (s : State) : Host.Outcome State Fault Refusal :=
  .next (State.live (fun t => t.queryExpires i) s)

/-- The idle timer of slot i expires, if it runs: a lowering order (R28). -/
def State.idleExpires (s : State) (i : SlotId) : State :=
  match (s.slot i).ctx.idleTimer with
  | none => s
  | some t =>
    let s1 := (s.reach t).modCtx i (fun c => { c with idleTimer := none })
    State.settle i (s1.lower i)

/-- IDLE_TIMER_EXPIRY (R28). -/
def execIdleTimerExpiry (i : SlotId) (s : State) : Host.Outcome State Fault Refusal :=
  .next (State.live (fun t => t.idleExpires i) s)

/-- The stagger timer of bank b expires, if it runs: it becomes absent and a scan starts (R42). -/
def State.staggerExpires (s : State) (b : BankId) : State :=
  match (s.bank b).stagger with
  | none => s
  | some t => ((s.reach t).modBank b (fun k => { k with stagger := none })).scan

/-- STAGGER_TIMER_EXPIRY (R42). -/
def execStaggerTimerExpiry (b : BankId) (s : State) : Host.Outcome State Fault Refusal :=
  .next (State.live (fun t => t.staggerExpires b) s)

/-- The transit timer expires, if it runs (R90). -/
def State.transitExpires (s : State) : State :=
  match s.park.transitTimer with
  | none => s
  | some t => (s.reach t).loweringBegins

/-- TRANSIT_TIMER_EXPIRY (R90, R91). -/
def execTransitTimerExpiry (s : State) : Host.Outcome State Fault Refusal :=
  .next (State.live State.transitExpires s)

/-- The hold deadline of slot i's held entry of a tag expires, if it runs: the entry ends in HOLD_EXPIRED
and the queue is served (R112). -/
def State.holdExpires (s : State) (i : SlotId) (tag : Tag) : State :=
  match (s.slot i).pass.held? tag with
  | none => s
  | some e =>
    match e.deadline with
    | none => s
    | some t =>
      State.settle i
        (((s.reach t).modPass i (fun p => p.dropHeld tag)).completeSensed i e.cmd codeHoldExpired
          .holdExpired)

/-- HOLD_DEADLINE_EXPIRY (R112). -/
def execHoldDeadlineExpiry (i : SlotId) (tag : Tag) (s : State) : Host.Outcome State Fault Refusal :=
  .next (State.live (fun t => t.holdExpires i tag) s)

end Sys2Proof.Machine
end

