-- ==== Sys2Proof/Machine/Dispatch.lean ====
section
/-! DEFINITION. The dispatch: one arm for each row of spec/opcode_table.json. -/

namespace Sys2Proof.Machine

/-- The effect of a command on everything but the queue of commands. -/
def exec (i : Instr) (s : State) : Host.Outcome State Fault Refusal :=
  match i with
  | .resetAssert => Sys2Proof.Machine.execResetAssert s
  | .resetDeassert => Sys2Proof.Machine.execResetDeassert s
  | .linkReset => Sys2Proof.Machine.execLinkReset s
  | .read c => Sys2Proof.Machine.execRead c s
  | .write c => Sys2Proof.Machine.execWrite c s
  | .verify c => Sys2Proof.Machine.execVerify c s
  | .flush c => Sys2Proof.Machine.execFlush c s
  | .identify c => Sys2Proof.Machine.execIdentify c s
  | .otherAttached op c => Sys2Proof.Machine.execOtherAttached op c s
  | .sense c => Sys2Proof.Machine.execSense c s
  | .probe c => Sys2Proof.Machine.execProbe c s
  | .spinUp c => Sys2Proof.Machine.execSpinUp c s
  | .loadHeads c => Sys2Proof.Machine.execLoadHeads c s
  | .unloadHeads c => Sys2Proof.Machine.execUnloadHeads c s
  | .spinDown c => Sys2Proof.Machine.execSpinDown c s
  | .powerOff c => Sys2Proof.Machine.execPowerOff c s
  | .abort c => Sys2Proof.Machine.execAbort c s
  | .data slot d => Sys2Proof.Machine.execData slot d s
  | .frameDiscarded link bytes => Sys2Proof.Machine.execFrameDiscarded link bytes s
  | .driveCompletion k r => Sys2Proof.Machine.execDriveCompletion k r s
  | .driveData k d => Sys2Proof.Machine.execDriveData k d s
  | .dataRequest k r => Sys2Proof.Machine.execDataRequest k r s
  | .controlReply k op answer => Sys2Proof.Machine.execControlReply k op answer s
  | .stateReply k report => Sys2Proof.Machine.execStateReply k report s
  | .driveAlertSelfUnload k => Sys2Proof.Machine.execDriveAlertSelfUnload k s
  | .driveAlertFault k => Sys2Proof.Machine.execDriveAlertFault k s
  | .presentAsserted k => Sys2Proof.Machine.execPresentAsserted k s
  | .presentDeasserted k => Sys2Proof.Machine.execPresentDeasserted k s
  | .presentDebounceComplete k => Sys2Proof.Machine.execPresentDebounceComplete k s
  | .powerFaultAsserted k => Sys2Proof.Machine.execPowerFaultAsserted k s
  | .powerFaultDeasserted k => Sys2Proof.Machine.execPowerFaultDeasserted k s
  | .dockChange level => Sys2Proof.Machine.execDockChange level s
  | .dockDebounceComplete => Sys2Proof.Machine.execDockDebounceComplete s
  | .handleChange level => Sys2Proof.Machine.execHandleChange level s
  | .handleDebounceComplete => Sys2Proof.Machine.execHandleDebounceComplete s
  | .reloadEdge => Sys2Proof.Machine.execReloadEdge s
  | .shockTestEdge => Sys2Proof.Machine.execShockTestEdge s
  | .dataReadyEdge => Sys2Proof.Machine.execDataReadyEdge s
  | .sample x y z => Sys2Proof.Machine.execSample x y z s
  | .lossTimerExpiry => Sys2Proof.Machine.execLossTimerExpiry s
  | .powerDeadlineExpiry k => Sys2Proof.Machine.execPowerDeadlineExpiry k s
  | .spinDeadlineExpiry k => Sys2Proof.Machine.execSpinDeadlineExpiry k s
  | .loadDeadlineExpiry k => Sys2Proof.Machine.execLoadDeadlineExpiry k s
  | .unloadDeadlineExpiry k => Sys2Proof.Machine.execUnloadDeadlineExpiry k s
  | .stopDeadlineExpiry k => Sys2Proof.Machine.execStopDeadlineExpiry k s
  | .queryScheduleExpiry k => Sys2Proof.Machine.execQueryScheduleExpiry k s
  | .idleTimerExpiry k => Sys2Proof.Machine.execIdleTimerExpiry k s
  | .staggerTimerExpiry b => Sys2Proof.Machine.execStaggerTimerExpiry b s
  | .transitTimerExpiry => Sys2Proof.Machine.execTransitTimerExpiry s
  | .holdDeadlineExpiry k tag => Sys2Proof.Machine.execHoldDeadlineExpiry k tag s
  | .profileReadComplete image => Sys2Proof.Machine.execProfileReadComplete image s
  | .readLimitExpiry => Sys2Proof.Machine.execReadLimitExpiry s
  | .driveFrameSent k => Sys2Proof.Machine.execDriveFrameSent k s
  | .upstreamFrameSent => Sys2Proof.Machine.execUpstreamFrameSent s

end Sys2Proof.Machine
end

