-- ==== Sys2Proof/WellFormed.lean ====
section
/-! DEFINITION. When a command is one the spec's links and ports can present: an unnamed op byte for an attached
command (R94), an image of 192 bytes (R163), a frame whose bytes its link discards (R173). -/

namespace Sys2Proof

/-- The op bytes that R174 names. -/
def namedOpCodes : List Byte :=
  [0x01, 0x02, 0x03, 0x04, 0x10, 0x11, 0x20, 0x30, 0x31, 0x32, 0x33, 0x34, 0x3F]

/-- The length of a frame of the given kind byte on the controller link towards the part, if the link
carries that kind (R173). -/
def ctrlKindLength (kind : Byte) : Option Nat :=
  if kind = 0x01 then some 12
  else if kind = 0x02 then some 5
  else if kind = 0x03 then some 1
  else none

/-- The length of a frame of the given kind byte on a drive link towards the part, if the link carries
that kind (R173). -/
def driveKindLength (kind : Byte) : Option Nat :=
  if kind = 0x81 then some 10
  else if kind = 0x82 then some 5
  else if kind = 0x83 then some 5
  else if kind = 0x90 then some 3
  else if kind = 0x91 then some 2
  else if kind = 0x92 then some 2
  else none

/-- A frame is discarded on arrival when it is empty, of a kind its link does not carry, shorter than
its kind's length (R173), or a DRIVE_ALERT of an unknown value (R175). -/
def frameIsDiscarded (link : Link) (bytes : List Byte) : Bool :=
  match bytes with
  | [] => true
  | kind :: rest =>
    match link with
    | .controller =>
      match ctrlKindLength kind with
      | none => true
      | some n => bytes.length < n
    | .drive _ =>
      match driveKindLength kind with
      | none => true
      | some n =>
        bytes.length < n || (kind == 0x92 && rest.head? != some 0x01 && rest.head? != some 0x02)

/-- An op is spelled as its own constructor: `other` holds no op byte that R174 names. -/
def Op.wellFormed : Op → Bool
  | .other code => !namedOpCodes.contains code
  | _ => true

/-- A command is well formed. -/
def Instr.wellFormed : Instr → Bool
  | .otherAttached op _ => (Op.other op).wellFormed
  | .frameDiscarded link bytes => frameIsDiscarded link bytes
  | .profileReadComplete image => image.length == 192
  | _ => true

end Sys2Proof
end

