-- ==== Sys2Proof/Safety.lean ====
section
/-! DEFINITION. What counts as a sound state and as a calm one, in the terms the claims use: the laws the spec states for
every moment (R1, R8, R22, R27, R33, R36, R44, R55, R77, R85, R98, R132, R145, R151, R165); the states in
which nothing waits on a link; what a scan and a shed test (R39, R46 to R48); and what a change of motion
state and a profile image bring (R80 to R82, R148, R177). -/

namespace Sys2Proof

/-- The command that a COMMAND frame of an operation is. -/
def Instr.ofCommand : Op → CmdArgs → Instr
  | .read, c => .read c
  | .write, c => .write c
  | .verify, c => .verify c
  | .flush, c => .flush c
  | .identify, c => .identify c
  | .sense, c => .sense c
  | .probe, c => .probe c
  | .spinUp, c => .spinUp c
  | .loadHeads, c => .loadHeads c
  | .unloadHeads, c => .unloadHeads c
  | .spinDown, c => .spinDown c
  | .powerOff, c => .powerOff c
  | .abort, c => .abort c
  | .other code, c => .otherAttached code c

/-- A class table entry is clamped and its currents are in order (R166); times in milliseconds. -/
abbrev ClassEntry.Clamped (c : ClassEntry) : Prop :=
  c.iElec ≤ c.iRun ∧ c.iRun ≤ c.iHead ∧ c.iHead ≤ c.iSpin ∧ c.iSpin ≤ 4000
    ∧ (500 ≤ c.powerMs ∧ c.powerMs ≤ 60000) ∧ (1000 ≤ c.spinMs ∧ c.spinMs ≤ 60000)
    ∧ (100 ≤ c.loadMs ∧ c.loadMs ≤ 10000) ∧ (100 ≤ c.unloadMs ∧ c.unloadMs ≤ 10000)
    ∧ (1000 ≤ c.stopMs ∧ c.stopMs ≤ 60000)
    ∧ c.unloadIdleMs ≤ 65535000 ∧ c.stopIdleMs ≤ 65535000 ∧ c.offIdleMs ≤ 65535000

/-- The motion parameters are clamped (section 3.7, R165). -/
abbrev MotionParams.Clamped (p : MotionParams) : Prop :=
  (4 ≤ p.kb ∧ p.kb ≤ 12) ∧ (2 ≤ p.kv ∧ p.kv ≤ 6) ∧ (16 ≤ p.tjolt ∧ p.tjolt ≤ 4095)
    ∧ (8 ≤ p.troll ∧ p.troll ≤ 4095) ∧ (1 ≤ p.nroll ∧ p.nroll ≤ 800)
    ∧ (1 ≤ p.wquiet ∧ p.wquiet ≤ 15) ∧ (1 ≤ p.tsettle ∧ p.tsettle ≤ 4095)
    ∧ (1 ≤ p.dsettle ∧ p.dsettle ≤ 4000) ∧ (-2048 ≤ p.ttilt ∧ p.ttilt ≤ 2047) ∧ p.htilt ≤ 255

/-- A profile is clamped (R165, R166); times in milliseconds. -/
abbrev Profile.Clamped (p : Profile) : Prop :=
  (∀ b : BankId, p.dock[b] ≤ 4000 ∧ p.battery[b] ≤ 4000 ∧ 1 ≤ p.concurrency[b] ∧ p.concurrency[b] ≤ 4)
    ∧ p.staggerMs ≤ 5000 ∧ (10 ≤ p.probeMs ∧ p.probeMs ≤ 1000)
    ∧ (500 ≤ p.holdMs ∧ p.holdMs ≤ 127500) ∧ p.retryLimit ≤ 3
    ∧ (1000 ≤ p.transitMs ∧ p.transitMs ≤ 255000) ∧ p.parkLevel ≠ .loaded
    ∧ p.motion.Clamped ∧ ∀ k : ClassId, (p.classes[k]).Clamped

/-! ## The profile image -/

/-- The entry of a class as its twelve words from word n give it, in range, in milliseconds, and with the
currents in order (R166, R177). -/
abbrev ClassEntry.OfWords (c : ClassEntry) (w : Nat → Nat) (n : Nat) : Prop :=
  c.iElec = min 4000 (w n) ∧ c.iRun = max c.iElec (min 4000 (w (n + 1)))
    ∧ c.iHead = max c.iRun (min 4000 (w (n + 2))) ∧ c.iSpin = max c.iHead (min 4000 (w (n + 3)))
    ∧ c.powerMs = 100 * max 5 (min 600 (w (n + 4))) ∧ c.spinMs = 100 * max 10 (min 600 (w (n + 5)))
    ∧ c.loadMs = 10 * max 10 (min 1000 (w (n + 6))) ∧ c.unloadMs = 10 * max 10 (min 1000 (w (n + 7)))
    ∧ c.stopMs = 100 * max 10 (min 600 (w (n + 8))) ∧ c.unloadIdleMs = 1000 * w (n + 9)
    ∧ c.stopIdleMs = 1000 * w (n + 10) ∧ c.offIdleMs = 1000 * w (n + 11)

/-- The motion parameters as words 22 to 31 give them, in the ranges of section 3.7 (R165, R177). -/
abbrev MotionParams.OfWords (m : MotionParams) (w : Nat → Nat) : Prop :=
  m.kb = max 4 (min 12 (w 22)) ∧ m.kv = max 2 (min 6 (w 23)) ∧ m.tjolt = max 16 (min 4095 (w 24))
    ∧ m.troll = max 8 (min 4095 (w 25)) ∧ m.nroll = max 1 (min 800 (w 26))
    ∧ m.wquiet = max 1 (min 15 (w 27)) ∧ m.tsettle = max 1 (min 4095 (w 28))
    ∧ m.dsettle = max 1 (min 4000 (w 29))
    ∧ m.ttilt = max (-2048) (min 2047 (if w 30 < 32768 then (w 30 : Int) else w 30 - 65536))
    ∧ m.htilt = min 255 (w 31)

/-- The edge policy that the two bits of a code name (R177). -/
abbrev edgeNamed (e : EdgePolicy) (code : Nat) : Prop :=
  (code = 0 → e = .none) ∧ (code = 1 → e = .entry) ∧ (2 ≤ code → e = .entryAndExit)

/-- The three bits of a permit row, from bit n of a word (R177). -/
abbrev PermitRow.OfBits (r : PermitRow) (word n : Nat) : Prop :=
  r.load = word.testBit n ∧ r.spin = word.testBit (n + 1) ∧ r.unloadOnEntry = word.testBit (n + 2)

/-- The profile that the 96 words of an image give, every field in its range (R165, R166, R177). -/
abbrev Profile.OfWords (p : Profile) (w : Nat → Nat) : Prop :=
  (∀ i : SlotId, (p.slots[i]).enabled = (w (i.val + 1)).testBit 0
      ∧ (p.slots[i]).bank.val = w (i.val + 1) / 2 % 2 ∧ (p.slots[i]).cls.val = w (i.val + 1) / 4 % 4)
    ∧ (∀ b : BankId, p.dock[b] = min 4000 (w (11 + 2 * b.val))
        ∧ p.battery[b] = min 4000 (w (12 + 2 * b.val))
        ∧ p.concurrency[b] = max 1 (min 4 (w 15 / 256 ^ b.val % 256)))
    ∧ p.staggerMs = 10 * min 500 (w 16) ∧ p.probeMs = max 10 (min 1000 (w 17))
    ∧ p.holdMs = 500 * max 1 (min 255 (w 18)) ∧ p.retryLimit = min 3 (w 19)
    ∧ p.transitMs = 1000 * max 1 (min 255 (w 20))
    ∧ (w 21 = 0 → p.parkLevel = .off) ∧ (w 21 = 1 → p.parkLevel = .idle)
    ∧ (2 ≤ w 21 → p.parkLevel = .spun) ∧ p.motion.OfWords w
    ∧ p.permits.settling.OfBits (w 32) 0 ∧ p.permits.still.OfBits (w 32) 3
    ∧ p.permits.rolling.OfBits (w 32) 6 ∧ p.permits.tilted.OfBits (w 32) 9
    ∧ p.permits.sensorLost.OfBits (w 32) 12
    ∧ edgeNamed p.edges.settling (w 33 % 4) ∧ edgeNamed p.edges.still (w 33 / 4 % 4)
    ∧ edgeNamed p.edges.rolling (w 33 / 16 % 4) ∧ edgeNamed p.edges.tilted (w 33 / 64 % 4)
    ∧ edgeNamed p.edges.jolt (w 33 / 256 % 4) ∧ edgeNamed p.edges.sensorLost (w 33 / 1024 % 4)
    ∧ p.motionNotice = (w 33).testBit 12
    ∧ ∀ k : ClassId, (p.classes[k]).OfWords w (34 + 12 * k.val)

namespace Machine

/-! ## Calm states -/

/-- RESET is deasserted and no frame waits on a link. -/
abbrev State.Calm (s : State) : Prop := s.resetAsserted = false ∧ s.waitingCount = 0

/-- A calm state with the free places that R143 asks for, so that a controller frame is taken as it
arrives. -/
abbrev State.CtrlReady (s : State) : Prop :=
  s.Calm ∧ (∀ i : SlotId, (s.slot i).upstream.length + 18 ≤ 48) ∧ s.ctrl.badSlot.length + 1 ≤ 4

/-- A calm state with the free places that R144 asks for, so that slot i's drive frame is taken as it
arrives. -/
abbrev State.DriveReady (s : State) (i : SlotId) : Prop :=
  s.Calm ∧ (s.slot i).upstream.length + 17 ≤ 48

/-- Every slot but i stands as before. -/
abbrev State.OthersKept (i : SlotId) (s t : State) : Prop := ∀ j : SlotId, j ≠ i → t.slot j = s.slot j

/-- Everything that is not a slot's, the admission unit's or the controller link port's stands as
before, the time apart. -/
abbrev State.RestKept (s t : State) : Prop :=
  t.motion = s.motion ∧ t.park = s.park ∧ t.loader = s.loader ∧ t.resetAsserted = s.resetAsserted
    ∧ t.dockLine = s.dockLine ∧ t.handleLine = s.handleLine ∧ t.pending = s.pending

/-- The bank of slot i is in OVERDRAW. -/
abbrev State.overdrawn (s : State) (i : SlotId) : Bool := (s.bank (s.slot i).ctx.map.bank).overdraw

/-! ## The control of a slot -/

/-- The outstanding operation, the step deadline and the QUERY schedule are those of the slot's state
(R6 to R9); the fence stands exactly while a cancel is pending, which only a powered slot has (R140,
R151); and a cancel miss count is at most 3 (R139). -/
abbrev Slot.Controlled (x : Slot) : Prop :=
  x.ctx.outstanding = x.ctx.state.outstanding
    ∧ x.ctx.stepDeadline.isSome = (x.ctx.state.outstanding != .none)
    ∧ x.port.query.isSome = x.ctx.state.powered
    ∧ x.fence = x.port.cancelPending
    ∧ (x.port.cancelPending = true → x.ctx.state.powered = true)
    ∧ x.port.cancelMiss ≤ 3

/-- Every slot is controlled. -/
abbrev State.Controlled (s : State) : Prop := ∀ i : SlotId, (s.slot i).Controlled

/-! ## The admission queue -/

/-- An entry stands in the state it asks to leave and names its slot's bank (R35, R37). -/
abbrev State.EntryOk (s : State) (e : AdmEntry) : Prop :=
  (s.slot e.slot).ctx.state = e.kind.source ∧ e.bank = (s.slot e.slot).ctx.map.bank

/-- Every entry is in order, and no slot has two (R36). -/
abbrev State.QueueOk (s : State) : Prop :=
  (∀ e ∈ s.admission.queue, s.EntryOk e) ∧ (s.admission.queue.map (·.slot)).Nodup

/-! ## What a change of state brings -/

/-- The current that a class draws in a state (R1). -/
def ClassEntry.current (c : ClassEntry) : SlotSt → Nat
  | .empty => 0
  | .off => 0
  | .powering => c.iElec
  | .idle => c.iElec
  | .spinningUp => c.iSpin
  | .spun => c.iRun
  | .loading => c.iHead
  | .loaded => c.iHead
  | .unloading => c.iHead
  | .stopping => c.iRun
  | .fault => 0

/-- The QUERY schedule of a powered state, started at a time: the probe interval in POWERING, SPINNING_UP
and STOPPING, and 1 s in every other (R9). -/
def Profile.schedule (p : Profile) (time : Nat) (st : SlotSt) : QuerySchedule :=
  let ms := if st = .powering ∨ st = .spinningUp ∨ st = .stopping then p.probeMs else 1000
  { expiry := time + ms, interval := ms }

/-- The idle timer of a slot in a state, started at a time: the idle time of its class from then on, in
IDLE, SPUN and LOADED with nothing held and nothing in flight; absent where that is 0, and elsewhere
(R27). -/
def Slot.idleFrom (x : Slot) (p : Profile) (time : Nat) (st : SlotSt) : Option Nat :=
  let c := x.classIn p
  let ms := if st = .idle then c.offIdleMs else if st = .spun then c.stopIdleMs
    else if st = .loaded then c.unloadIdleMs else 0
  if x.pass.hold = [] ∧ x.pass.flight = [] ∧ ms ≠ 0 then some (time + ms) else none

/-- From s to t, slot i came into a powered state at a time, by no raising transition: its charge is the
lesser of its former charge and the current of the state (R32), its QUERY schedule starts afresh (R9), and,
with nothing held or in flight before, so does its idle timer (R27). -/
abbrev State.CameTo (s t : State) (i : SlotId) (st : SlotSt) (time : Nat) : Prop :=
  (t.slot i).ctx.state = st
    ∧ (t.slot i).charge = min (s.slot i).charge (ClassEntry.current ((s.slot i).classIn s.profile) st)
    ∧ (t.slot i).port.query = some (Profile.schedule s.profile time st)
    ∧ ((s.slot i).pass.hold = [] → (s.slot i).pass.flight = [] →
        (t.slot i).ctx.idleTimer = (s.slot i).idleFrom s.profile time st)

/-! ## What a scan tests -/

/-- The class current of the state that a raising step leads to (R1, R6). -/
def ClassEntry.stepCurrent (c : ClassEntry) : Kind → Nat
  | .power => c.iElec
  | .spin => c.iSpin
  | .load => c.iHead

/-- The class deadline of a raising step (R6). -/
def ClassEntry.stepMs (c : ClassEntry) : Kind → Nat
  | .power => c.powerMs
  | .spin => c.spinMs
  | .load => c.loadMs

/-- The permit view lets a kind of raising step through (R79). -/
abbrev State.Permitted (s : State) : Kind → Prop
  | .power => s.lock = false ∨ s.profile.parkLevel = .idle ∨ s.profile.parkLevel = .spun
  | .spin =>
    (permitRow s.profile s.motion.state).spin = true ∧ (s.lock = false ∨ s.profile.parkLevel = .spun)
  | .load => (permitRow s.profile s.motion.state).load = true ∧ s.lock = false

/-- The charge that the slot of an entry takes at its grant (R32, R34). -/
def State.grantCharge (s : State) (e : AdmEntry) : Nat :=
  max (s.slot e.slot).charge (ClassEntry.stepCurrent ((s.slot e.slot).classIn s.profile) e.kind)

/-- The bank's sum with the increment of the entry does not exceed its budget (R34, R40). -/
abbrev State.Fits (s : State) (e : AdmEntry) : Prop :=
  s.bankSum e.bank + (s.grantCharge e - (s.slot e.slot).charge) ≤ (s.bank e.bank).budget

/-- Bank b has fewer slots in SPINNING_UP than its concurrency limit, and no stagger timer (R41). -/
abbrev State.SpinFree (s : State) (b : BankId) : Prop :=
  (allSlots.filter (fun i =>
      (s.slot i).ctx.map.bank == b && (s.slot i).ctx.state == .spinningUp)).length
    < s.profile.concurrency[b] ∧ (s.bank b).stagger = none

/-- An entry that a scan reaches with its bank unmarked is granted: it is permitted, its bank is not in
OVERDRAW, it fits, and a SPIN entry passes the spin limits (R39). -/
abbrev State.Grantable (s : State) (e : AdmEntry) : Prop :=
  s.Permitted e.kind ∧ (s.bank e.bank).overdraw = false ∧ s.Fits e
    ∧ (e.kind = .spin → s.SpinFree e.bank)

/-- From s to t, an entry was granted and nothing else happened, the admission queue left aside (R6, R14,
R32, R42). -/
abbrev State.GrantedTo (s t : State) (e : AdmEntry) : Prop :=
  (t.slot e.slot).ctx.state = e.kind.target
    ∧ (t.slot e.slot).ctx.outstanding = e.kind.target.outstanding
    ∧ (t.slot e.slot).ctx.stepDeadline
      = some (s.now + ClassEntry.stepMs ((s.slot e.slot).classIn s.profile) e.kind)
    ∧ (t.slot e.slot).ctx.retry = (if e.retried then (s.slot e.slot).ctx.retry else 0)
    ∧ (t.slot e.slot).ctx.idleTimer = none
    ∧ (t.slot e.slot).charge = s.grantCharge e
    ∧ (t.slot e.slot).port = (s.slot e.slot).port.enter s.profile s.now e.kind.target
    ∧ (t.slot e.slot).port.query = some (Profile.schedule s.profile s.now e.kind.target)
    ∧ (t.slot e.slot).pass = (s.slot e.slot).pass
    ∧ s.OthersKept e.slot t ∧ s.RestKept t ∧ t.ctrl = s.ctrl ∧ t.now = s.now
    ∧ ∀ b, (t.bank b).budget = (s.bank b).budget ∧ (t.bank b).overdraw = (s.bank b).overdraw
        ∧ (t.bank b).stagger
          = (if e.kind = .spin ∧ b = e.bank ∧ s.profile.staggerMs ≠ 0 then
               some (s.now + s.profile.staggerMs)
             else (s.bank b).stagger)

/-! ## What shedding takes -/

/-- The projected sum of bank b: its sum less, for each of its slots in STOPPING, what the charge exceeds
that of IDLE by (R32, R46). -/
def State.projectedSum (s : State) (b : BankId) : Nat :=
  s.bankSum b - ((allSlots.filter (fun i =>
      (s.slot i).ctx.map.bank == b && (s.slot i).ctx.state == .stopping)).map (fun i =>
    (s.slot i).charge - min (s.slot i).charge ((s.slot i).classIn s.profile).iElec)).sum

/-- Slot i is a shed candidate of bank b, the mark of the bank apart (R47). -/
abbrev State.ShedCandidate (s : State) (b : BankId) (i : SlotId) : Prop :=
  (s.slot i).ctx.map.bank = b ∧ ((s.slot i).ctx.state = .spun ∨ (s.slot i).ctx.state = .idle)
    ∧ (s.slot i).pass.hold = [] ∧ (s.slot i).pass.flight = []

/-- What the projected sum falls by when candidate i is given its lowering order (R32, R46, R48). -/
def State.shedGain (s : State) (i : SlotId) : Nat :=
  let c := (s.slot i).classIn s.profile
  if (s.slot i).ctx.state = .idle then (s.slot i).charge
  else (s.slot i).charge - min (min (s.slot i).charge c.iRun) c.iElec

/-- Candidate i stands before candidate j (R47). -/
abbrev State.RanksBefore (s : State) (i j : SlotId) : Prop :=
  ((s.slot i).ctx.state = .spun ∧ (s.slot j).ctx.state = .idle)
    ∨ ((s.slot i).ctx.state = (s.slot j).ctx.state
      ∧ ((s.slot i).ctx.lastActivity < (s.slot j).ctx.lastActivity
        ∨ ((s.slot i).ctx.lastActivity = (s.slot j).ctx.lastActivity ∧ i.val < j.val)))

/-- A shed of bank b under a budget gives candidate j its order: without it, and with every candidate before
it given one, the projected sum still exceeds the budget (R48). -/
abbrev State.ShedReaches (s : State) (b : BankId) (budget : Nat) (j : SlotId) : Prop :=
  budget + ((allSlots.filter (fun i => decide (s.ShedCandidate b i ∧ s.RanksBefore i j))).map
    s.shedGain).sum < s.projectedSum b

/-- From s to t, new budgets were selected: a bank's mark stands exactly where its sum exceeds its budget
(R44, R45); of the candidates of a bank that exceeded its new budget exactly those that a shed reaches were
given an order, a SPUN one to STOPPING and an IDLE one to OFF, or EMPTY if the profile disables it (R5, R46
to R48); and no other powered slot was given one (R50). -/
abbrev State.BudgetsSelected (s t : State) : Prop :=
  (∀ b : BankId, ((t.bank b).overdraw = true ↔ (t.bank b).budget < t.bankSum b)
    ∧ ∀ j : SlotId, s.ShedCandidate b j →
      ((t.slot j).ctx.state = .stopping ∨ (t.slot j).ctx.state = .off ∨ (t.slot j).ctx.state = .empty
        ↔ (t.bank b).budget < s.bankSum b ∧ s.ShedReaches b (t.bank b).budget j)
      ∧ ((t.slot j).ctx.state = .stopping → (s.slot j).ctx.state = .spun))
  ∧ ∀ j : SlotId, (s.slot j).ctx.state.powered = true → (∀ b, ¬ s.ShedCandidate b j) →
      (t.slot j).ctx.state = (s.slot j).ctx.state
        ∨ ((s.slot j).ctx.state = .idle ∧ (t.slot j).ctx.state = .spinningUp)
        ∨ ((s.slot j).ctx.state = .spun ∧ (t.slot j).ctx.state = .loading)

/-! ## What power means for a slot -/

/-- An unpowered slot is charged nothing and its port holds nothing (R1, R32, R135); a command is in
flight only at a level of IDLE or above; the idle timer runs only in a settled powered state with no
work (R27). -/
abbrev Slot.Quiet (x : Slot) : Prop :=
  (x.ctx.state.powered = false → x.charge = 0 ∧ x.port = Port.reset)
    ∧ (x.ctx.state.rank ≤ 1 → x.pass.flight = [])
    ∧ (x.ctx.idleTimer.isSome = true →
        x.pass.hold = [] ∧ x.pass.flight = []
          ∧ (x.ctx.state = .idle ∨ x.ctx.state = .spun ∨ x.ctx.state = .loaded))

/-- A slot in EMPTY or FAULT has no command held, in flight or listed (R25, R98, R117); and the counts of
missed QUERYs and cancel misses stay below the 3 that leads to FAULT (R9, R139). -/
abbrev Slot.Emptied (x : Slot) : Prop :=
  (x.ctx.state = .empty ∨ x.ctx.state = .fault →
      x.pass.hold = [] ∧ x.pass.flight = [] ∧ x.pass.aborts = [])
    ∧ x.ctx.missed < 3 ∧ x.port.cancelMiss < 3

/-- A slot in OFF, EMPTY or FAULT works under its slot map entry of the profile in force, and in OFF and
FAULT that entry enables it (R5). -/
abbrev State.MapsOk (s : State) : Prop :=
  ∀ i : SlotId,
    ((s.slot i).ctx.state = .off ∨ (s.slot i).ctx.state = .empty ∨ (s.slot i).ctx.state = .fault →
      (s.slot i).ctx.map = s.profile.slots[i])
    ∧ ((s.slot i).ctx.state = .off ∨ (s.slot i).ctx.state = .fault → (s.slot i).ctx.map.enabled = true)

/-- A set POWER_FAULT latch is found in FAULT and EMPTY alone, but under RESET (R21, R22). -/
abbrev State.LatchOk (s : State) : Prop :=
  s.resetAsserted = true ∨
    ∀ i : SlotId, (s.slot i).ctx.latch = true →
      (s.slot i).ctx.state = .fault ∨ (s.slot i).ctx.state = .empty

/-- The part is sound: its slots are controlled and quiet, its latches and its queue in order. -/
abbrev State.Sound (s : State) : Prop :=
  s.Controlled ∧ s.QueueOk ∧ (∀ i : SlotId, (s.slot i).Quiet) ∧ s.LatchOk

/-! ## The laws of the bank, of the heads and of the tags -/

/-- The sum of a bank's charges does not exceed its budget unless the bank is in OVERDRAW (R33). -/
abbrev State.SumsOk (s : State) : Prop :=
  ∀ b : BankId, (s.bank b).overdraw = true ∨ s.bankSum b ≤ (s.bank b).budget

/-- A bank in OVERDRAW exceeds its budget (R44, R45). -/
abbrev State.MarksOk (s : State) : Prop :=
  ∀ b : BankId, (s.bank b).overdraw = true → (s.bank b).budget < s.bankSum b

/-- In JOLT or with HANDLE recognized, no slot is in LOADING or LOADED (R85). -/
abbrev State.HeadsOk (s : State) : Prop :=
  s.motion.state = .jolt ∨ s.park.handle = true →
    ∀ i : SlotId, (s.slot i).ctx.state ≠ .loading ∧ (s.slot i).ctx.state ≠ .loaded

/-- The tags held and in flight at a slot, in order. -/
def Passage.tags (p : Passage) : List Tag :=
  p.hold.map (fun e => e.cmd.args.tag) ++ p.flight.map (fun r => r.cmd.args.tag)

/-- A tag names one command of a slot at most, held or in flight, so at most eight there are; and one
listed ABORT at most (R98, R103, R120). -/
abbrev Passage.TagsOk (p : Passage) : Prop :=
  p.tags.Nodup ∧ (p.aborts.map (fun c => c.args.tag)).Nodup

/-! ## The links -/

/-- A free drive link has no frame waiting for it (R132). -/
abbrev Port.Working (p : Port) : Prop :=
  p.sending = none → p.control = [] ∧ p.command = [] ∧ p.data = []

/-- A free controller link has no frame waiting for it, upstream (R145), nor has a free drive link. -/
abbrev State.Working (s : State) : Prop :=
  (s.ctrl.sending = none → (∀ i : SlotId, (s.slot i).upstream = []) ∧ s.ctrl.badSlot = [])
    ∧ ∀ i : SlotId, (s.slot i).port.Working

/-! ## What claims say of an outcome -/

/-- The COMPLETION that the part makes of a command of a slot, as it joins the upstream queue (R106,
R147). -/
def interposerAnswer (cmd : Cmd) (code : Byte) (residual : BitVec 24) (st : SlotSt) (held : Nat) :
    UpFrame :=
  .completion
    { slot := cmd.args.slot, tag := cmd.args.tag, op := cmd.op.code, source := .interposer,
      code := code, residual := residual, hint := { state := some st, held := held } }

/-- The full count of a command as a residual (R106). -/
def fullCount (c : CmdArgs) : BitVec 24 := BitVec.ofNat 24 (c.countM1.toNat + 1)

/-- The state with frames of slot i handed up one after another. -/
def State.handedUp (s : State) (i : SlotId) (l : List UpFrame) : State :=
  l.foldl (fun u f => u.handUp i f) s

/-- From s to t, every command of slot i was answered with one code and its full count, from a slot in a
state with nothing held: the held ones in queue order, those in flight from the earliest forwarded on, and
the listed ABORTs (R117). Stated of the upstream queue, with a frame in transmission. -/
abbrev State.AllAnswered (s t : State) (i : SlotId) (code : Byte) (st : SlotSt) : Prop :=
  ∃ l : List InFlight, l.Perm (s.slot i).pass.flight
    ∧ l.Pairwise (fun a b =>
        seqAge (s.slot i).pass.nextSeq b.seq ≤ seqAge (s.slot i).pass.nextSeq a.seq)
    ∧ (s.ctrl.sending ≠ none →
        (∀ c ∈ (s.slot i).pass.commands, c.args.slot = fieldOfSlot i) →
        (t.slot i).upstream
          = (s.slot i).upstream
            ++ ((s.slot i).pass.hold.map (·.cmd) ++ l.map (·.cmd) ++ (s.slot i).pass.aborts).map
                (fun c => interposerAnswer c code (fullCount c.args) st 0))

/-- The record of a slot after one more entry (R154). -/
def recordAfter (old : Option SenseRecord) (code : SenseCode) (tag : Option Tag) (st : SlotSt)
    (m : MotionSt) (held : Nat) (requeued : Option Nat) : Option SenseRecord :=
  match old with
  | none =>
    some { code := code, tag := tag, slotState := st, motion := m, held := held, requeued := requeued,
           overrun := 0 }
  | some r => some { r with overrun := min 15 (r.overrun + 1) }

/-- From s to t, slot i entered FAULT with a code (R25): everything of the slot is dropped, its commands are
answered SLOT_FAULT (R117), its power is off, and the one entry that reached its record is of class DRIVE
and captured the state it left. It took its slot map entry: where that disables it, it went on to EMPTY, with
no further entry (R5). -/
abbrev State.FaultedWith (s t : State) (i : SlotId) (code : SenseCode) : Prop :=
  (t.slot i).ctx.state = (if (s.profile.slots[i]).enabled then .fault else .empty)
    ∧ (t.slot i).ctx.map = s.profile.slots[i]
    ∧ t.powerEnable i = false ∧ (t.slot i).charge = 0
    ∧ (t.slot i).port = Port.reset ∧ (t.slot i).fence = false
    ∧ (t.slot i).pass = (s.slot i).pass.emptied ∧ (t.slot i).ctx.outstanding = .none
    ∧ (t.slot i).ctx.stepDeadline = none ∧ (t.slot i).ctx.queryPending = false
    ∧ (t.slot i).ctx.missed = 0 ∧ (t.slot i).ctx.idleTimer = none ∧ (t.slot i).ctx.retry = 0
    ∧ (t.slot i).ctx.spinMark = false ∧ (t.slot i).ctx.emergency = false
    ∧ (t.slot i).ctx.faultAck = false ∧ (t.slot i).notice = true
    ∧ ((s.profile.slots[i]).enabled = false → (t.slot i).ctx.lastActivity = t.now)
    ∧ (t.slot i).record
      = recordAfter (s.slot i).record code none (s.slot i).ctx.state s.motion.state
          (s.slot i).pass.hold.length none
    ∧ s.AllAnswered t i 0x42 .fault
    ∧ ∀ e ∈ t.admission.queue, e.slot ≠ i

/-- The head of a slot's hold queue is a lowering entry in progress with a target and a rest behind it;
nothing is in flight, there is no fence, and no tag is held twice (R110). -/
abbrev Slot.PerformsHead (x : Slot) (h : HoldEntry) (rest : List HoldEntry) (target : Level) : Prop :=
  x.pass.hold = h :: rest ∧ h.inProgress = true ∧ h.cmd.op.cls = .lowering target
    ∧ x.pass.flight = [] ∧ x.fence = false ∧ (x.pass.hold.map (fun e => e.cmd.args.tag)).Nodup

/-- From s to t, slot i came at a time into a settled state other than LOADED at or below the target of the
entry in progress at its head, which completes OK from there; its rest stands behind, stated of a rest whose
head, if there is one, needs a level above the state: its raising entry stands in the queue, or is granted
(R29, R109, R110). -/
abbrev State.PerformedAt (s t : State) (i : SlotId) (kind : Kind) (time : Nat) (h : HoldEntry)
    (rest : List HoldEntry) : Prop :=
  (∀ g ∈ rest.head?, g.inProgress = false ∧ ∃ l, g.cmd.op.need = some l ∧ kind.source.rank < l.rank) →
  (rest = [] → s.overdrawn i = false) → s.park.lowering = false →
  (t.slot i).pass
      = { (s.slot i).pass with hold := rest, demand := rest.head?.bind (fun g => g.cmd.op.need) }
    ∧ (s.ctrl.sending ≠ none → h.cmd.args.slot = fieldOfSlot i → (t.slot i).upstream
        = (s.slot i).upstream ++ [interposerAnswer h.cmd 0x00 0 kind.source rest.length])
    ∧ ((s.CameTo t i kind.source time ∧ (t.slot i).ctx.outstanding = .none
          ∧ (t.slot i).ctx.lastActivity = time
          ∧ (t.slot i).ctx.idleTimer = (t.slot i).idleFrom s.profile time kind.source
          ∧ (rest = [] → ∀ e ∈ t.admission.queue, e.slot ≠ i)
          ∧ (rest ≠ [] →
              { slot := i, kind := kind, bank := (s.slot i).ctx.map.bank, retried := false }
                ∈ t.admission.queue))
        ∨ (rest ≠ [] ∧ (t.slot i).ctx.state = kind.target
          ∧ (t.slot i).ctx.outstanding = kind.target.outstanding
          ∧ ∀ e ∈ t.admission.queue, e.slot ≠ i))

/-- From s to t, slot i came into OFF with a lowering entry in progress held alone: its power is off, each
ABORT still listed is completed OK, and the entry after them (log entry 38); where the slot map disables the
slot, the entry ends in SLOT_EMPTY, and the slot in EMPTY (R5, R110, R117, R120; log entry 39). -/
abbrev State.PerformedOff (s t : State) (i : SlotId) (h : HoldEntry) : Prop :=
  let enabled := (s.profile.slots[i]).enabled
  (t.slot i).ctx.state = (if enabled then .off else .empty) ∧ t.powerEnable i = false
    ∧ (t.slot i).charge = 0 ∧ (t.slot i).port = Port.reset
    ∧ (t.slot i).ctx.map = s.profile.slots[i]
    ∧ (t.slot i).pass = { (s.slot i).pass with hold := [], aborts := [], demand := none }
    ∧ (s.ctrl.sending ≠ none → (∀ c ∈ (s.slot i).pass.commands, c.args.slot = fieldOfSlot i) →
        (t.slot i).upstream
          = (s.slot i).upstream
            ++ (s.slot i).pass.aborts.map (fun a => interposerAnswer a 0x00 0 .off 1)
            ++ [if enabled then interposerAnswer h.cmd 0x00 0 .off 0
                else interposerAnswer h.cmd 0x41 (fullCount h.cmd.args) .empty 0])

/-- From s to t, slot i came at a time into a settled state with a lowering entry in progress at the head of
its hold queue (R110): above its target the slot is ordered on at once, from LOADED to UNLOADING, from SPUN to
STOPPING with the entry still in progress, and from IDLE to OFF; at or below it the entry completes. -/
abbrev State.PerformedOn (s t : State) (i : SlotId) (st : SlotSt) (time : Nat) (h : HoldEntry)
    (rest : List HoldEntry) (target : Level) : Prop :=
  (st = .loaded →
      s.CameTo t i .unloading time ∧ (t.slot i).ctx.outstanding = .unload
        ∧ (t.slot i).ctx.stepDeadline = some (time + ((s.slot i).classIn s.profile).unloadMs))
    ∧ (st = .spun → target ≠ .spun →
      s.CameTo t i .stopping time ∧ (t.slot i).ctx.outstanding = .stop
        ∧ (t.slot i).ctx.stepDeadline = some (time + ((s.slot i).classIn s.profile).stopMs))
    ∧ (st = .loaded ∨ (st = .spun ∧ target ≠ .spun) →
      (t.slot i).pass
          = { (s.slot i).pass with hold := { h with deadline := none } :: rest, demand := none }
        ∧ (s.Working → (t.slot i).upstream = (s.slot i).upstream))
    ∧ (st = .spun → target = .spun → s.PerformedAt t i .load time h rest)
    ∧ (st = .idle → target ≠ .off → s.PerformedAt t i .spin time h rest)
    ∧ (st = .off ∨ (st = .idle ∧ target = .off) → rest = [] → s.PerformedOff t i h)

/-- A command is a failure of the load of slot i, taken at a time: the expiry of its load deadline, or the
drive's FAILED to its outstanding LOAD (R15). -/
abbrev State.LoadFailsBy (s : State) (i : SlotId) (c : Instr) (time : Nat) : Prop :=
  s.Calm ∧ (s.slot i).ctx.state = .loading
    ∧ ((c = .loadDeadlineExpiry i ∧ ∃ t0, (s.slot i).ctx.stepDeadline = some t0 ∧ time = max s.now t0)
      ∨ (c = .controlReply i 0x02 0x04 ∧ (s.slot i).ctx.outstanding = .load ∧ time = s.now))

/-- The in-flight records that held entries become when they are forwarded in order, and the next forward
sequence after them: an entry with a sequence keeps it and its re-issue count, another takes the next one
(R113). -/
def forwardedAll (next : Seq) : List HoldEntry → List InFlight × Seq
  | [] => ([], next)
  | e :: rest =>
    match e.seq with
    | some q =>
      let r := forwardedAll next rest
      ({ cmd := e.cmd, seq := q, reissue := e.reissue, abortForwarded := false, requests := [] } :: r.1,
        r.2)
    | none =>
      let r := forwardedAll (next + 1) rest
      ({ cmd := e.cmd, seq := next, reissue := 0, abortForwarded := false, requests := [] } :: r.1, r.2)

/-- Held entries of a slot split into attached ones that a state lets pass and a rest whose head, if there is
one, needs a level above that state; there is no fence, and no tag is held twice. -/
abbrev Slot.HeldAs (x : Slot) (st : SlotSt) (pass rest : List HoldEntry) : Prop :=
  x.pass.hold = pass ++ rest ∧ x.pass.hold ≠ [] ∧ x.fence = false
    ∧ (x.pass.hold.map (fun e => e.cmd.args.tag)).Nodup
    ∧ (∀ e ∈ pass, e.cmd.op.cls = .attached)
    ∧ ∀ h ∈ rest.head?, h.inProgress = false ∧ ∃ l, h.cmd.op.need = some l ∧ st.rank < l.rank

/-- From s to t, slot i came into the state that an entry of a kind belongs to, with its held entries so
split: the attached ones are forwarded in queue order (R109, R113), and for a rest the entry of that kind
stands in the admission queue, or is granted (R29). -/
abbrev State.ServedIn (s t : State) (i : SlotId) (kind : Kind) (pass rest : List HoldEntry) : Prop :=
  let r := forwardedAll (s.slot i).pass.nextSeq pass
  let port := pass.foldl (fun p e => p.handCommand e.cmd)
    ((s.slot i).port.enter s.profile s.now kind.source)
  (t.slot i).pass
      = { (s.slot i).pass with
          hold := rest, flight := (s.slot i).pass.flight ++ r.1, nextSeq := r.2
          demand := rest.head?.bind (fun h => h.cmd.op.need) }
    ∧ (s.Working → (t.slot i).upstream = (s.slot i).upstream)
    ∧ (rest = [] → s.CameTo t i kind.source s.now ∧ (t.slot i).ctx.outstanding = .none
        ∧ (t.slot i).port = port ∧ ∀ e ∈ t.admission.queue, e.slot ≠ i)
    ∧ (rest ≠ [] →
        (s.CameTo t i kind.source s.now ∧ (t.slot i).ctx.outstanding = .none
            ∧ (t.slot i).port = port
            ∧ { slot := i, kind := kind, bank := (s.slot i).ctx.map.bank, retried := false }
                ∈ t.admission.queue)
          ∨ ((t.slot i).ctx.state = kind.target
            ∧ (t.slot i).ctx.outstanding = kind.target.outstanding
            ∧ ∀ e ∈ t.admission.queue, e.slot ≠ i))

/-- A hold queue has its REQUEUED entries ahead, in order of first forwarding, earliest first (R107). -/
abbrev RequeuedFirst (next : Seq) (q : List HoldEntry) : Prop :=
  q.Pairwise (fun a b => b.origin = .requeued → ∀ n, b.seq = some n →
    a.origin = .requeued ∧ ∃ m, a.seq = some m ∧ seqAge next n ≤ seqAge next m)

/-! ## What a profile brings -/

/-- From s to t, a profile was offered to the slots (R5). A slot in OFF, EMPTY or FAULT takes its entry, and
any other but an IDLE one, which a shed may take to OFF, keeps its own. One in OFF or FAULT that its entry
disables is in EMPTY, its commands answered SLOT_EMPTY (R117) and its record and notice untouched; from FAULT,
which else is kept (R26), that is activity (log entry 23). One in EMPTY stays there: a disabling entry drops
its debounce, and an enabling one after a disabling one starts it where PRESENT is asserted (log entry 13). -/
abbrev State.MapsTaken (s t : State) (p : Profile) : Prop :=
  ∀ i,
    ((s.slot i).ctx.state = .off ∨ (s.slot i).ctx.state = .empty ∨ (s.slot i).ctx.state = .fault →
      (t.slot i).ctx.map = p.slots[i])
    ∧ ((s.slot i).ctx.state ≠ .off → (s.slot i).ctx.state ≠ .empty → (s.slot i).ctx.state ≠ .fault →
        (s.slot i).ctx.state ≠ .idle → (t.slot i).ctx.map = (s.slot i).ctx.map)
    ∧ ((s.slot i).ctx.state = .off ∨ (s.slot i).ctx.state = .fault → (p.slots[i]).enabled = false →
        (t.slot i).ctx.state = .empty ∧ t.powerEnable i = false ∧ (t.slot i).charge = 0
          ∧ (t.slot i).port = Port.reset ∧ (t.slot i).pass = (s.slot i).pass.emptied
          ∧ (t.slot i).record = (s.slot i).record ∧ (t.slot i).notice = (s.slot i).notice
          ∧ s.AllAnswered t i 0x41 .empty
          ∧ ((s.slot i).ctx.state = .fault → (t.slot i).ctx.lastActivity = t.now))
    ∧ (s.QueueOk →
        ((s.slot i).ctx.state = .fault → (p.slots[i]).enabled = true → (t.slot i).ctx.state = .fault)
        ∧ ((s.slot i).ctx.state = .empty →
            (t.slot i).ctx.state = .empty
            ∧ (t.slot i).ctx.presentDebounce
              = (if (p.slots[i]).enabled = false then none
                 else if (s.slot i).ctx.map.enabled = false ∧ (s.slot i).presentLine = true then
                   some t.now
                 else (s.slot i).ctx.presentDebounce)))

/-- From s to t, the end of a read took effect at the slots, park control and the admission unit with a
profile in force: it was offered to the slots (R5); the budgets are selected, marking and, with no lock,
shedding the banks (R31); and under the lock no held entry needs a level above the park level, and in the
lowering phase no slot stands above it (R93). -/
abbrev State.TookEffect (s t : State) (p : Profile) : Prop :=
  s.MapsTaken t p
    ∧ (∀ b, (t.bank b).budget = (if s.admission.dock then p.dock[b] else p.battery[b])
        ∧ (s.QueueOk → ((t.bank b).overdraw = true ↔ (t.bank b).budget < t.bankSum b)))
    ∧ (s.Sound → s.lock = false →
        (s.modLoader (fun l => { l with profile := p })).BudgetsSelected t)
    ∧ (s.lock = true →
        (∀ i, ∀ e ∈ (t.slot i).pass.hold, e.cmd.op.above p.parkLevel = false)
        ∧ (s.park.lowering = true → ∀ i,
            ((t.slot i).ctx.state = .spun → p.parkLevel = .spun)
            ∧ ((t.slot i).ctx.state = .idle → (t.slot i).pass.flight = [] → p.parkLevel ≠ .off)))

/-- From s to t, the end of a read selected the budgets and made one scan, and brought nothing else but the
loader and the controller link port their fields: in an unlocked part with every slot unpowered and
enabled under its entry of the profile, an entry that waits alone is granted where it can be, and left where
it cannot (R31, R168, R169). -/
abbrev State.ScannedAfter (s t : State) (p : Profile) : Prop :=
  s.lock = false →
  (∀ i, (s.slot i).ctx.state.powered = false ∧ (s.slot i).charge = 0
    ∧ (s.slot i).ctx.map = p.slots[i] ∧ (p.slots[i]).enabled = true) →
  let select (b : BankId) (v : State) : State :=
    v.modBank b (fun k =>
      { k with budget := if s.admission.dock then p.dock[b] else p.battery[b], overdraw := false })
  let u := select 1 (select 0 { s with loader := t.loader, ctrl := t.ctrl, now := t.now })
  (s.admission.queue = [] → t = u)
    ∧ ∀ e, s.admission.queue = [e] → e.bank = (s.slot e.slot).ctx.map.bank →
      (u.Grantable e → u.GrantedTo t e ∧ t.admission.queue = [])
      ∧ (¬ u.Grantable e → t = u)

/-! ## Park control and the monitor -/

/-- From s to t, a change of motion state into `new` was handed on. With unload on entry in the row of `new`,
every LOADED and LOADING slot is UNLOADING, marked emergency with a requeue count of 0 where `new` is JOLT
and with its mark and count as they were elsewhere; without it, they stand (R78, R80 to R82). The device
notice has cause MOTION where the policies ask for it, and is not raised elsewhere (R148). -/
abbrev State.MotionHandedOn (s t : State) (new : MotionSt) : Prop :=
  (∀ i : SlotId, (s.slot i).ctx.state = .loaded ∨ (s.slot i).ctx.state = .loading →
      ((permitRow s.profile new).unloadOnEntry = true →
        s.CameTo t i .unloading t.now ∧ (t.slot i).ctx.outstanding = .unload
          ∧ (t.slot i).ctx.stepDeadline = some (t.now + ((s.slot i).classIn s.profile).unloadMs)
          ∧ (new = .jolt → (t.slot i).ctx.emergency = true ∧ (t.slot i).requeues = 0)
          ∧ (new ≠ .jolt → (t.slot i).ctx.emergency = (s.slot i).ctx.emergency
              ∧ (t.slot i).requeues = (s.slot i).requeues))
      ∧ ((permitRow s.profile new).unloadOnEntry = false → t.slot i = s.slot i))
    ∧ (if edgePolicy s.profile new = .entry ∨ edgePolicy s.profile new = .entryAndExit
          ∨ edgePolicy s.profile s.motion.state = .entryAndExit then
        t.ctrl.deviceNotice = true ∧ t.ctrl.causeMotion = true
      else (t.ctrl.deviceNotice = true → s.ctrl.deviceNotice = true)
        ∧ (t.ctrl.causeMotion = true → s.ctrl.causeMotion = true))

/-- The transit timer and the lowering phase belong to the lock, and do not stand together (R77, R90,
R92). -/
abbrev Park.Ok (p : Park) : Prop :=
  (p.handle = false → p.transitTimer = none ∧ p.lowering = false)
    ∧ (p.lowering = true → p.transitTimer = none)

/-- A scaled baseline in its range (R55, R63). -/
abbrev baselineOk (g : Int) : Prop := -524288 ≤ g ∧ g ≤ 524032

/-- The monitor's fields lie in the ranges of R55; a count is 0 outside the state that changes it (R71). -/
abbrev Motion.InRange (m : Motion) : Prop :=
  baselineOk m.gx ∧ baselineOk m.gy ∧ baselineOk m.gz ∧ m.acc ≤ 262080 ∧ m.window ≤ 799
    ∧ m.tally ≤ m.window ∧ m.tLast ≤ 800 ∧ m.settle ≤ 4000 ∧ m.quiet ≤ 15
    ∧ (m.state ≠ .jolt → m.settle = 0) ∧ (m.state ≠ .rolling → m.quiet = 0)

end Machine

end Sys2Proof
end

