-- ==== Sys2Proof/Certificates/Slice0/Obligations.lean ====
section
/-! DEFINITION. The statements about the NP-610, drawn from the numbered rules of spec/. -/

open Sys2Proof Sys2Proof.Machine

/-! ## One step, and the links -/

/-- A step takes the command at the front of the queue and runs exec on the rest; with no command waiting
it lets a millisecond pass, which is the model's choice (log entry 1). -/
def Obligations.StepTakesTheFront : Prop :=
  (∀ (c : Instr) (q : List Instr) (s : State), s.pending = c :: q →
    step s = exec c { s with pending := q })
  ∧ (∀ s : State, s.pending = [] → step s = .next { s with now := s.now + 1 })

/-- The queue of commands is the model's own construct, of which no rule speaks (log entry 1): exec keeps it
whatever the command and the state, a RESET included (log entry 5). -/
def Obligations.ExecKeepsTheQueue : Prop :=
  ∀ (c : Instr) (s t : State), exec c s = .next t → t.pending = s.pending

/-- After every command no frame waits on a link that its port could take: a frame waits on the controller
link only while RESET is asserted, a slot upstream queue has fewer than 18 free places, the bad-slot queue
has none, or the data source that a DATA frame names has none; and on a drive link only while RESET is
asserted, or a COMPLETION or data frame finds a powered slot with fewer than 17 free places (R133, R135,
R141, R143, R144). That a COMPLETION or a data frame which a pending cancel will discard waits for its
places too is the model's choice (log entry 33). -/
def Obligations.NoFrameWaitsInVain : Prop :=
  ∀ (c : Instr) (s t : State), exec c s = .next t → t.drainOnce = none
    ∧ (∀ f q, t.ctrl.waiting = f :: q →
        t.resetAsserted = true ∨ (∃ i : SlotId, 48 < (t.slot i).upstream.length + 18)
          ∨ 4 ≤ t.ctrl.badSlot.length
          ∨ ∃ slot d i, f = .data slot d ∧ slotOfField slot = some i
              ∧ 64 ≤ (t.slot i).port.data.length)
    ∧ (∀ (i : SlotId) f q, (t.slot i).waiting = f :: q →
        t.resetAsserted = true
          ∨ ((t.slot i).ctx.state.powered = true
            ∧ 48 < (t.slot i).upstream.length + 17
            ∧ ((∃ r, f = .completion r) ∨ (∃ d, f = .data d) ∨ ∃ r, f = .dataRequest r)))

/-! ## Reset -/

/-- RESET_ASSERT: PWR_EN is off at every slot and NOTICE is deasserted; no read, transmission, held or listed
command, debounce or timer is left, those of the slots, the banks, park control, the monitor and the
loader included; the levels of the lines and the commands that wait stand (R3, R22, R53, R141, R160,
R162). What the fields hold while RESET stands is the model's choice (log entry 5). -/
def Obligations.ResetAssertStopsThePart : Prop :=
  ∀ s : State, ∃ t, exec .resetAssert s = .next t ∧ t.resetAsserted = true
    ∧ (∀ i, t.powerEnable i = false ∧ (t.slot i).port = Port.reset ∧ (t.slot i).pass = Passage.reset
        ∧ (t.slot i).record = none ∧ (t.slot i).upstream = [] ∧ (t.slot i).charge = 0
        ∧ (t.slot i).ctx.outstanding = .none ∧ (t.slot i).ctx.stepDeadline = none
        ∧ (t.slot i).ctx.idleTimer = none ∧ (t.slot i).ctx.presentDebounce = none
        ∧ (t.slot i).presentLine = (s.slot i).presentLine
        ∧ (t.slot i).powerFaultLine = (s.slot i).powerFaultLine)
    ∧ t.noticeLine = false ∧ t.motion.lossTimer = none ∧ t.motion.reading = false
    ∧ t.loader.readState = .idle ∧ t.loader.readLimit = none ∧ t.ctrl.sending = none
    ∧ (∀ b, (t.bank b).stagger = none) ∧ t.admission.dockDebounce = none
    ∧ t.park.handleDebounce = none ∧ t.park.transitTimer = none ∧ t.park.lowering = false
    ∧ t.admission.queue = [] ∧ t.dockLine = s.dockLine ∧ t.handleLine = s.handleLine
    ∧ t.pending = s.pending

/-- RESET_DEASSERT: each slot starts in OFF or EMPTY by its PRESENT line, and a seated slot with POWER_FAULT
asserted enters FAULT with POWER_TRIP; every other field of its context, passage, drive link port, record,
queue and fence, of the admission unit, park control, the monitor, the loader and the controller link port
has its reset value. DOCK and HANDLE are recognized as sampled, with the transit timer of the built-in 5 s
under a sampled handle (R2, R3, R30, R31, R43, R55, R77, R95, R131, R141, R152, R162). Stated with no
frame waiting on the controller link. -/
def Obligations.ResetDeassertStarts : Prop :=
  ∀ s : State, s.ctrl.waiting = [] → ∃ t, exec .resetDeassert s = .next t
    ∧ (∀ i, (t.slot i).ctx
          = { state :=
                if !(s.slot i).presentLine then .empty
                else if (s.slot i).powerFaultLine then .fault else .off
              map := Config.defaults.slots[i], retry := 0, spinMark := false, lastFail := .timeout,
              emergency := false, outstanding := .none, stepDeadline := none, queryPending := false,
              missed := 0, lastActivity := 0, idleTimer := none, faultAck := false,
              presentDebounce := none, latch := (s.slot i).powerFaultLine }
        ∧ (t.slot i).record
          = (if (s.slot i).presentLine && (s.slot i).powerFaultLine then
               some { code := .powerTrip, tag := none, slotState := .off, motion := .settling,
                      held := 0, requeued := none, overrun := 0 }
             else none)
        ∧ (t.slot i).notice = ((s.slot i).presentLine && (s.slot i).powerFaultLine)
        ∧ (t.slot i).charge = 0 ∧ (t.slot i).fence = false ∧ (t.slot i).requeues = 0
        ∧ (t.slot i).port
          = { control := [], command := [], data := [], sending := none, query := none,
              cancelPending := false, cancelMiss := 0 }
        ∧ (t.slot i).pass = { hold := [], flight := [], aborts := [], nextSeq := 0, demand := none }
        ∧ (t.slot i).upstream = []
        ∧ (t.slot i).presentLine = (s.slot i).presentLine
        ∧ (t.slot i).powerFaultLine = (s.slot i).powerFaultLine)
    ∧ t.admission.dock = s.dockLine ∧ t.admission.dockDebounce = none ∧ t.admission.queue = []
    ∧ (∀ b, t.bank b = { budget := 400, overdraw := false, stagger := none })
    ∧ t.park
      = { handle := s.handleLine, handleDebounce := none,
          transitTimer := if s.handleLine then some 5000 else none, lowering := false }
    ∧ t.motion
      = { state := .settling, seeded := false, gx := 0, gy := 0, gz := 0, acc := 0, tally := 0,
          tLast := 0, window := 0, settle := 0, quiet := 0, shockPending := false, reading := false,
          lossTimer := some 10 }
    ∧ t.loader
      = { profile := Config.defaults, readState := .powerOnRead, again := false, defaulted := false,
          rejected := false, readLimit := some 100 }
    ∧ t.ctrl
      = { badSlot := [], lastServed := 10, sending := none, deviceNotice := false,
          causeMotion := false, causeProfile := false, waiting := [] }
    ∧ t.resetAsserted = false ∧ t.dockLine = s.dockLine ∧ t.handleLine = s.handleLine ∧ t.now = 0
    ∧ t.pending = s.pending

/-- LINK_RESET: upstream queues, command passages, records, notices and the admission queue are emptied; the
frame in transmission and the last served position stand; the recognized DOCK value, its debounce, the budgets
and the stagger timers are kept, and no bank becomes one in OVERDRAW. With no bank in OVERDRAW and no lowering
phase, nothing else of the admission unit changes; each slot keeps its whole context, step deadline, counts,
marks and QUERY schedule among it, but that a FAULT is acknowledged and that the idle timer starts afresh in
IDLE, SPUN and LOADED; and a powered slot empties its sources and starts its cancel exchange behind a fence
unless one is under way, while an unpowered one keeps its port and has no fence. With no lowering phase a bank
in OVERDRAW sheds: of its slots in SPUN and IDLE, which all are candidates once their work has gone, exactly
those that the shed reaches are given an order, to STOPPING or OFF (to EMPTY where the profile disables the
slot), its mark is cleared where the sum then fits, and every other slot stands as it was, with its charge (R4,
R9, R27, R45 to R49, R51, R118, R137, R150, R151, R161). That the exchange adds its CANCEL_ALL even where one
confirmed unsent still waits is the model's choice (log entry 35). -/
def Obligations.LinkResetEmptiesTheCommands : Prop :=
  ∀ s : State, s.CtrlReady → ∃ t, exec .linkReset s = .next t
    ∧ (∀ i, (t.slot i).upstream = [] ∧ (t.slot i).pass = (s.slot i).pass.emptied
        ∧ (t.slot i).record = none ∧ (t.slot i).notice = false)
    ∧ t.ctrl = { s.ctrl with
        badSlot := [], deviceNotice := false, causeMotion := false, causeProfile := false }
    ∧ t.admission.queue = [] ∧ t.noticeLine = false ∧ s.RestKept t ∧ t.now = s.now
    ∧ t.admission.dock = s.admission.dock ∧ t.admission.dockDebounce = s.admission.dockDebounce
    ∧ (∀ b, (t.bank b).budget = (s.bank b).budget ∧ (t.bank b).stagger = (s.bank b).stagger
        ∧ ((t.bank b).overdraw = true → (s.bank b).overdraw = true))
    ∧ (s.park.lowering = false →
        let w : State := { s with slots := s.slots.map (fun x => { x with pass := x.pass.emptied }) }
        ∀ b, (t.bank b).overdraw
            = ((s.bank b).overdraw && decide ((t.bank b).budget < t.bankSum b))
          ∧ ∀ j, (s.slot j).ctx.map.bank = b →
            let shed := (s.bank b).overdraw = true ∧ w.ShedCandidate b j
              ∧ (s.bank b).budget < s.bankSum b ∧ w.ShedReaches b (s.bank b).budget j
            (shed → (t.slot j).ctx.state
              = (if (s.slot j).ctx.state = .spun then .stopping
                 else if (s.profile.slots[j]).enabled then .off else .empty))
            ∧ (¬ shed → (t.slot j).ctx.state = (s.slot j).ctx.state
                ∧ (t.slot j).charge = (s.slot j).charge))
    ∧ ((∀ b, (s.bank b).overdraw = false) → s.park.lowering = false →
        t.admission = { s.admission with queue := [] }
        ∧ ∀ i, (t.slot i).ctx
            = { (s.slot i).ctx with
                faultAck := (s.slot i).ctx.faultAck || (s.slot i).ctx.state == .fault
                idleTimer := (t.slot i).idleFrom s.profile s.now (s.slot i).ctx.state }
          ∧ (t.slot i).charge = (s.slot i).charge ∧ (t.slot i).requeues = (s.slot i).requeues
          ∧ (t.slot i).fence = (s.slot i).ctx.state.powered
          ∧ (t.slot i).port
            = (if !(s.slot i).ctx.state.powered then (s.slot i).port
               else if (s.slot i).port.cancelPending then
                 { (s.slot i).port with command := [], data := [] }
               else Port.handControl .cancelAll
                 { (s.slot i).port with
                   command := [], data := [], cancelPending := true, cancelMiss := 0 }))

/-! ## Arrival of commands -/

/-- READ, WRITE, VERIFY, FLUSH, IDENTIFY, every unnamed attached command, and a SENSE of a powered slot with
an empty record, that arrives for a slot which holds the needed level, with an empty hold queue, no
fence, its tag free and the transit lock not in its way, is forwarded: it takes the next forward
sequence, its COMMAND frame goes to the drive link port, and the slot is active. Nothing else of the
slot changes, and in a bank not in OVERDRAW nothing of another slot. Stated with no link free while a
frame waits for it, and left aside a SPUN slot that the lowering phase is to stop (R91, R94, R101, R105,
R113, R145). -/
def Obligations.CommandsAtLevelAreForwarded : Prop :=
  ∀ (s : State) (i : SlotId) (op : Op) (c : CmdArgs) (l : Level), s.CtrlReady → s.Working →
    slotOfField c.slot = some i → op.wellFormed = true → op.cls = .media ∨ op.cls = .attached →
    (op = .sense → (s.slot i).record = none) → op.need = some l →
    (s.slot i).ctx.state.holds l = true → (s.slot i).pass.hold = [] → (s.slot i).fence = false →
    (s.slot i).pass.inUse c.tag = false → (s.lock && op.above s.profile.parkLevel) = false →
    (s.park.lowering = true → (s.slot i).ctx.state = .spun → s.profile.parkLevel = .spun) →
    ∃ t, exec (Instr.ofCommand op c) s = .next t
      ∧ t.slot i
        = { s.slot i with
            pass :=
              { (s.slot i).pass with
                flight := (s.slot i).pass.flight ++
                  [{ cmd := { op := op, args := c }, seq := (s.slot i).pass.nextSeq, reissue := 0,
                     abortForwarded := false, requests := [] }]
                nextSeq := (s.slot i).pass.nextSeq + 1
                demand := none }
            port := (s.slot i).port.handCommand { op := op, args := c }
            ctx := { (s.slot i).ctx with lastActivity := s.now, idleTimer := none } }
      ∧ s.RestKept t ∧ t.now = s.now
      ∧ (s.overdrawn i = false → s.OthersKept i t ∧ t.ctrl = s.ctrl
          ∧ t.admission
            = { s.admission with queue := s.admission.queue.filter (fun e => e.slot != i) })

/-- A media, attached or raising spindle command that arrives for a slot below the needed level, with an empty
hold queue, its tag free and the transit lock not in its way, is held as a NEW entry with its hold deadline
running and becomes the slot's demand; nothing is forwarded. While the power-on load is in progress no scan is
made, so the entry for the next raising step just joins the admission queue. A command of any class that is
held and passes its checks joins the tail as a NEW entry in the same way, at its level or below it, where the
slot stands behind a cancel fence, or the head of its queue waits for a level that the slot does not hold; the
demand is then that of the head, none where that is in progress, and nothing is served (R29, R36, R38, R105,
R107 to R109, R111, R118, R151). Stated with no lowering phase. -/
def Obligations.CommandsBelowLevelAreHeld : Prop :=
  (∀ (s : State) (i : SlotId) (op : Op) (c : CmdArgs) (l : Level), s.CtrlReady →
    slotOfField c.slot = some i → op.wellFormed = true → op.need = some l →
    (op = .sense → (s.slot i).record = none ∧ (s.slot i).ctx.state.powered = true) →
    (s.slot i).ctx.state ≠ .empty → (s.slot i).ctx.state ≠ .fault →
    (s.slot i).ctx.state.holds l = false → (s.slot i).pass.hold = [] →
    (s.slot i).pass.inUse c.tag = false → (s.lock && op.above s.profile.parkLevel) = false →
    s.park.lowering = false →
    ∃ t, exec (Instr.ofCommand op c) s = .next t
      ∧ (t.slot i).pass
        = { (s.slot i).pass with
            hold :=
              [{ cmd := { op := op, args := c }, origin := .new, seq := none, reissue := 0,
                 deadline := some (s.now + s.profile.holdMs), inProgress := false }]
            demand := some l }
      ∧ s.RestKept t ∧ t.now = s.now
      ∧ (s.loader.readState = .powerOnRead → s.overdrawn i = false →
          s.OthersKept i t ∧ (t.slot i).ctx = { (s.slot i).ctx with idleTimer := none }
          ∧ (t.slot i).port = (s.slot i).port
          ∧ ∀ k, (s.slot i).ctx.state.nextKind = some k →
              (∀ e ∈ s.admission.queue, e.slot ≠ i) →
              t.admission.queue = s.admission.queue ++
                [{ slot := i, kind := k, bank := (s.slot i).ctx.map.bank, retried := false }]))
  ∧ (∀ (s : State) (i : SlotId) (op : Op) (c : CmdArgs), s.CtrlReady →
    slotOfField c.slot = some i → op.wellFormed = true → op.cls ≠ .probe → op.cls ≠ .abort →
    (op = .sense → (s.slot i).record = none ∧ (s.slot i).ctx.state.powered = true) →
    (s.slot i).ctx.state ≠ .empty → (s.slot i).ctx.state ≠ .fault →
    (s.slot i).pass.inUse c.tag = false → (s.lock && op.above s.profile.parkLevel) = false →
    s.park.lowering = false →
    (s.slot i).fence = true ∨
      (∃ h rest l, (s.slot i).pass.hold = h :: rest ∧ h.cmd.op.need = some l
        ∧ (s.slot i).ctx.state.holds l = false) →
    ∃ t, exec (Instr.ofCommand op c) s = .next t
      ∧ (t.slot i).pass
        = { (s.slot i).pass with
            hold := (s.slot i).pass.hold ++
              [{ cmd := { op := op, args := c }, origin := .new, seq := none, reissue := 0,
                 deadline := some (s.now + s.profile.holdMs), inProgress := false }]
            demand :=
              match (s.slot i).pass.hold with
              | [] => op.need
              | h :: _ => if h.inProgress then none else h.cmd.op.need }
      ∧ s.RestKept t ∧ t.now = s.now)

/-- SPIN_UP or LOAD_HEADS at a slot that holds its level, with an empty hold queue and no fence, completes
OK at once, with the slot left where it stands (R105, R109). -/
def Obligations.RaisingCompletesAtLevel : Prop :=
  ∀ (s : State) (i : SlotId) (op : Op) (c : CmdArgs) (l : Level), s.CtrlReady →
    slotOfField c.slot = some i → op.cls = .raising l → (s.slot i).ctx.state.holds l = true →
    (s.slot i).pass.hold = [] → (s.slot i).fence = false → (s.slot i).pass.inUse c.tag = false →
    (s.lock && op.above s.profile.parkLevel) = false → s.park.lowering = false →
    s.overdrawn i = false →
    exec (Instr.ofCommand op c) s
      = .next
          ((((s.handUp i (interposerAnswer { op := op, args := c } 0x00 0 (s.slot i).ctx.state
            0)).active i).modPass i (fun p => { p with demand := none })).withdraw i)

/-- UNLOAD_HEADS, SPIN_DOWN or POWER_OFF at a settled slot at or below its target level, with nothing held
or in flight and no fence, completes OK at once, with the slot left where it stands (R105, R110). -/
def Obligations.LoweringCompletesAtTarget : Prop :=
  ∀ (s : State) (i : SlotId) (op : Op) (c : CmdArgs) (target : Level), s.CtrlReady →
    slotOfField c.slot = some i → op.cls = .lowering target →
    (s.slot i).ctx.state.settled = true → (s.slot i).ctx.state.rank ≤ target.rank →
    (s.slot i).pass.hold = [] → (s.slot i).pass.flight = [] → (s.slot i).fence = false →
    (s.slot i).pass.inUse c.tag = false → s.park.lowering = false → s.overdrawn i = false →
    exec (Instr.ofCommand op c) s
      = .next
          ((((s.handUp i (interposerAnswer { op := op, args := c } 0x00 0 (s.slot i).ctx.state
            0)).active i).modPass i (fun p => { p with demand := none })).withdraw i)

/-- UNLOAD_HEADS, SPIN_DOWN or POWER_OFF at a LOADED slot, and SPIN_DOWN or POWER_OFF at a SPUN one, with
nothing held or in flight and no fence, begins its performance at once: the entry is in progress with
no deadline, and the slot goes one level down, its UNLOAD or STOP handed over, its step deadline running,
its QUERY schedule afresh and its charge no more than the current of the state. At a slot that is not settled
(POWERING, SPINNING_UP, LOADING, UNLOADING or STOPPING) it begins in the same way and no more, the step under
way running on. While commands are in flight it is a barrier that has not begun: held as a NEW entry with its
hold deadline running, stated with no lowering phase. In these two cases, stated with no link free while a
frame waits for it, it gives no demand, and in a bank not in OVERDRAW nothing but the slot's entry leaves the
admission queue (R7, R9, R29, R32, R105, R108, R110, R111, R132, R145). -/
def Obligations.LoweringTakesTheFirstStep : Prop :=
  ∀ (s : State) (i : SlotId) (op : Op) (c : CmdArgs) (target : Level), s.CtrlReady →
    slotOfField c.slot = some i → op.cls = .lowering target →
    (s.slot i).pass.hold = [] → (s.slot i).pass.inUse c.tag = false →
    let held (inProgress : Bool) : Slot :=
      { s.slot i with
        pass :=
          { (s.slot i).pass with
            hold :=
              [{ cmd := { op := op, args := c }, origin := .new, seq := none, reissue := 0,
                 deadline := if inProgress then none else some (s.now + s.profile.holdMs)
                 inProgress := inProgress }]
            demand := none }
        ctx := { (s.slot i).ctx with idleTimer := none } }
    let only (t : State) : Prop :=
      s.RestKept t ∧ t.now = s.now
        ∧ (s.overdrawn i = false → s.OthersKept i t ∧ t.ctrl = s.ctrl
            ∧ t.admission
              = { s.admission with queue := s.admission.queue.filter (fun e => e.slot != i) })
    (s.Working → (s.slot i).pass.flight = [] → (s.slot i).fence = false →
      (s.slot i).ctx.state = .powering ∨ (s.slot i).ctx.state = .spinningUp
        ∨ (s.slot i).ctx.state = .loading ∨ (s.slot i).ctx.state = .unloading
        ∨ (s.slot i).ctx.state = .stopping →
      ∃ t, exec (Instr.ofCommand op c) s = .next t ∧ t.slot i = held true ∧ only t)
    ∧ (s.Working → (s.slot i).pass.flight ≠ [] → s.park.lowering = false →
      (s.slot i).ctx.state ≠ .empty →
      (s.slot i).ctx.state ≠ .fault →
      ∃ t, exec (Instr.ofCommand op c) s = .next t ∧ t.slot i = held false ∧ only t)
    ∧ ((s.slot i).pass.flight = [] → (s.slot i).fence = false →
      (s.slot i).ctx.state = .loaded ∨ ((s.slot i).ctx.state = .spun ∧ target ≠ .spun) →
      ∃ t, exec (Instr.ofCommand op c) s = .next t
      ∧ (t.slot i).pass
        = { (s.slot i).pass with
            hold :=
              [{ cmd := { op := op, args := c }, origin := .new, seq := none, reissue := 0,
                 deadline := none, inProgress := true }]
            demand := none }
      ∧ ((s.slot i).ctx.state = .loaded →
          s.CameTo t i .unloading s.now ∧ (t.slot i).ctx.outstanding = .unload
            ∧ (t.slot i).ctx.stepDeadline = some (s.now + ((s.slot i).classIn s.profile).unloadMs)
            ∧ (t.slot i).port = (s.slot i).port.enter s.profile s.now .unloading)
      ∧ ((s.slot i).ctx.state = .spun →
          s.CameTo t i .stopping s.now ∧ (t.slot i).ctx.outstanding = .stop
            ∧ (t.slot i).ctx.stepDeadline = some (s.now + ((s.slot i).classIn s.profile).stopMs)
            ∧ (t.slot i).port = (s.slot i).port.enter s.profile s.now .stopping)
      ∧ s.RestKept t ∧ t.now = s.now)

/-- POWER_OFF at an IDLE slot with nothing held or in flight and no fence, in a bank not in OVERDRAW, takes
the slot to OFF and completes OK from there: the power enable goes off, the charge is 0 and the port holds
nothing; the power-off, a completed step, is activity of the slot. Each ABORT still listed is completed OK by
the part, in order, and the list is emptied (R7, R22, R27, R110, R120, R135); that they go up ahead of the OK
of the POWER_OFF, which their hints still count as held, is the model's choice (log entry 38). A slot that its
entry of the profile disables goes on to EMPTY, with no sense entry, and the POWER_OFF ends in SLOT_EMPTY (R5,
R25, R117), by the model's choice too (log entry 39). -/
def Obligations.PowerOffFromIdle : Prop :=
  ∀ (s : State) (i : SlotId) (c : CmdArgs), s.CtrlReady → slotOfField c.slot = some i →
    (s.slot i).ctx.state = .idle → (s.slot i).pass.hold = [] → (s.slot i).pass.flight = [] →
    (∀ a ∈ (s.slot i).pass.aborts, a.args.slot = c.slot ∧ a.args.tag ≠ c.tag) →
    (s.slot i).fence = false → s.overdrawn i = false →
    let enabled := (s.profile.slots[i]).enabled
    let u := s.handedUp i
      ((s.slot i).pass.aborts.map (fun a => interposerAnswer a 0x00 0 .off 1)
        ++ [if enabled then interposerAnswer { op := .powerOff, args := c } 0x00 0 .off 0
            else interposerAnswer { op := .powerOff, args := c } 0x41 (fullCount c) .empty 0])
    ∃ t, exec (.powerOff c) s = .next t
      ∧ (t.slot i).ctx.state = (if enabled then .off else .empty) ∧ t.powerEnable i = false
      ∧ (t.slot i).charge = 0
      ∧ (t.slot i).port = Port.reset
      ∧ (t.slot i).pass = { (s.slot i).pass with aborts := [], demand := none }
      ∧ (t.slot i).ctx.map = s.profile.slots[i] ∧ (t.slot i).ctx.lastActivity = s.now
      ∧ (t.slot i).upstream = (u.slot i).upstream ∧ t.ctrl = u.ctrl
      ∧ (t.slot i).record = (s.slot i).record ∧ s.RestKept t ∧ t.now = s.now

/-- PROBE is answered OK at once in every slot state, with the slot's state and held count in the hint and
nothing else done but the activity of the slot: the last-activity time is the present, and so starts an idle
timer, of the idle time of the slot's class and state, in IDLE, SPUN and LOADED with nothing held or in flight;
it is absent where that time is 0, and in every other case (R27, R100). -/
def Obligations.ProbeIsAnswered : Prop :=
  ∀ (s : State) (i : SlotId) (c : CmdArgs), s.CtrlReady → slotOfField c.slot = some i →
    let t := (s.handUp i (interposerAnswer { op := .probe, args := c } 0x00 0 (s.slot i).ctx.state
      (s.slot i).pass.hold.length)).active i
    exec (.probe c) s = .next t ∧ (t.slot i).ctx.state = (s.slot i).ctx.state
      ∧ (t.slot i).pass = (s.slot i).pass ∧ (t.slot i).ctx.lastActivity = s.now
      ∧ (t.slot i).ctx.idleTimer = (s.slot i).idleFrom s.profile s.now (s.slot i).ctx.state

/-- SENSE of a slot with an occupied record hands up the record's 16 bytes as DATA and then OK; the record
and the slot's notice are cleared, and a FAULT is acknowledged (R157). The bytes are those of the record's
layout, with the values of its codes, classes and states (R153, R176). -/
def Obligations.SenseReadsTheRecord : Prop :=
  (∀ (s : State) (i : SlotId) (c : CmdArgs) (r : SenseRecord), s.CtrlReady →
    slotOfField c.slot = some i → (s.slot i).record = some r →
    exec (.sense c) s
      = .next
          ((((s.handUp i (.data c.slot
            { tag := c.tag, rsv := false, offset := 0, lenM1 := 0, lenRsv := 0,
              payload := r.bytes })).handUp i
            (interposerAnswer { op := .sense, args := c } 0x00 0 (s.slot i).ctx.state
              (s.slot i).pass.hold.length)).active i).modSlot i
            (fun x =>
              { x with
                record := none
                notice := false
                ctx := { x.ctx with
                  faultAck := x.ctx.faultAck || x.ctx.state == .fault } })))
  ∧ (∀ r : SenseRecord, r.bytes
      = [r.code.value, r.code.cls.value, (match r.tag with | none => 0xFF | some g => g.setWidth 8),
         BitVec.ofNat 8 (SlotSt.code r.slotState), BitVec.ofNat 8 (MotionSt.code r.motion),
         BitVec.ofNat 8 r.held, (match r.requeued with | none => 0xFF | some n => BitVec.ofNat 8 n),
         BitVec.ofNat 8 r.overrun, 0, 0, 0, 0, 0, 0, 0, 0])
  ∧ [SenseCode.powerTimeout, .spinTimeout, .spinRefused, .loadFailed, .unloadFailed, .stopTimeout,
      .linkLost, .driveFault, .powerTrip, .slotRemoved].map (fun k => (k.value, k.cls.value))
    = [(0x10, 1), (0x11, 1), (0x12, 1), (0x13, 1), (0x14, 1), (0x15, 1), (0x16, 1), (0x17, 1),
       (0x18, 1), (0x19, 1)]
  ∧ [SenseCode.emergencyUnload, .selfUnload].map (fun k => (k.value, k.cls.value))
    = [(0x20, 2), (0x21, 2)]
  ∧ [SenseCode.aborted, .slotEmpty, .slotFault, .tagInUse, .inTransit, .holdExpired,
      .motionAbort].map (fun k => (k.value, k.cls.value))
    = [(0x01, 3), (0x41, 3), (0x42, 3), (0x43, 3), (0x45, 3), (0x46, 3), (0x47, 3)]
  ∧ [SlotSt.empty, .off, .powering, .idle, .spinningUp, .spun, .loading, .loaded, .unloading, .stopping,
      .fault].map SlotSt.code = [0, 1, 2, 3, 4, 5, 6, 7, 8, 9, 10]
  ∧ [MotionSt.settling, .still, .rolling, .tilted, .jolt, .sensorLost].map MotionSt.code
    = [0, 1, 2, 3, 4, 5]

/-- SENSE of an unpowered slot with an empty record hands up code NONE with the slot's present state, the
motion state and the held count, and then OK; nothing of the sense store changes (R158). -/
def Obligations.SenseFindsNoRecord : Prop :=
  ∀ (s : State) (i : SlotId) (c : CmdArgs), s.CtrlReady → slotOfField c.slot = some i →
    (s.slot i).record = none → (s.slot i).ctx.state.powered = false →
    exec (.sense c) s
      = .next
          (((s.handUp i (.data c.slot
            { tag := c.tag, rsv := false, offset := 0, lenM1 := 0, lenRsv := 0,
              payload :=
                [0x00, 0x00, 0xFF, BitVec.ofNat 8 (SlotSt.code (s.slot i).ctx.state),
                 BitVec.ofNat 8 (MotionSt.code s.motion.state),
                 BitVec.ofNat 8 (s.slot i).pass.hold.length, 0xFF, 0x00,
                 0x00, 0x00, 0x00, 0x00, 0x00, 0x00, 0x00, 0x00] })).handUp i
            (interposerAnswer { op := .sense, args := c } 0x00 0 (s.slot i).ctx.state
              (s.slot i).pass.hold.length)).active i)

/-- ABORT of a held command: the target is gone from the hold queue, an ABORTED entry with its tag reaches
the record, and the target's ABORTED goes up ahead of the ABORT's OK (R119). -/
def Obligations.AbortOfHeldEndsIt : Prop :=
  ∀ (s : State) (i : SlotId) (c : CmdArgs) (e : HoldEntry), s.CtrlReady →
    slotOfField c.slot = some i → (s.slot i).pass.held? c.tag = some e →
    e.cmd.args.slot = c.slot →
    ∃ t, exec (.abort c) s = .next t
      ∧ (t.slot i).pass.held? c.tag = none
      ∧ (t.slot i).record
        = recordAfter (s.slot i).record .aborted (some c.tag) (s.slot i).ctx.state s.motion.state
            ((s.slot i).pass.hold.filter (fun h => h.cmd.args.tag != c.tag)).length none
      ∧ (s.ctrl.sending ≠ none → ∃ rest, (t.slot i).upstream
          = (s.slot i).upstream ++
            [interposerAnswer e.cmd 0x01 (fullCount e.cmd.args) (s.slot i).ctx.state
              ((s.slot i).pass.hold.filter (fun h => h.cmd.args.tag != c.tag)).length,
             interposerAnswer { op := .abort, args := c } 0x00 0 (s.slot i).ctx.state
              ((s.slot i).pass.hold.filter (fun h => h.cmd.args.tag != c.tag)).length] ++ rest)
      ∧ s.RestKept t ∧ t.now = s.now

/-- ABORT of a command in flight is forwarded: the target's record takes abort forwarded yes, the ABORT
joins the abort list and goes to the drive link port, and the slot is active (R120). -/
def Obligations.AbortOfInFlightIsForwarded : Prop :=
  ∀ (s : State) (i : SlotId) (c : CmdArgs) (f : InFlight), s.CtrlReady →
    slotOfField c.slot = some i → (s.slot i).pass.held? c.tag = none →
    (s.slot i).pass.aborting c.tag = false → (s.slot i).pass.flight? c.tag = some f →
    exec (.abort c) s
      = .next
          (((s.modPass i (fun p =>
            { p with
              flight := p.flight.map (fun r =>
                if r.cmd.args.tag = c.tag then { r with abortForwarded := true } else r)
              aborts := p.aborts ++ [{ op := .abort, args := c }] })).modPort i
            (Port.handCommand { op := .abort, args := c })).active i)

/-- The refusals of an arrival, each answered at once with the full count as its residual: BAD_SLOT for a slot
field that names no slot, SLOT_EMPTY in EMPTY, SLOT_FAULT in FAULT, TAG_IN_USE for a tag in use and for a
second ABORT of a tag in the abort list, IN_TRANSIT under the lock, a SENSE that is taken as an attached
command included; the last four with a COMMAND entry in the record, and an ABORT that names nothing answered
TAG_UNKNOWN without one. An acknowledged FAULT with its latch clear is left for OFF by POWER_OFF, which
completes OK, and by SPIN_UP and LOAD_HEADS, which go through their remaining checks from OFF, to be held
there, granted POWER or not, or refused under the lock; stated for a slot that the profile enables, as every
slot in FAULT is (R5), with nothing held or listed (R26, R99, R101 to R104, R106, R119, R120, R143). -/
def Obligations.ArrivalsAreRefused : Prop :=
  ∀ (s : State) (op : Op) (c : CmdArgs), s.CtrlReady → op.wellFormed = true →
    (slotOfField c.slot = none →
      exec (Instr.ofCommand op c) s
        = .next
            (State.pickUpstream
              { s with
                ctrl :=
                  { s.ctrl with
                    badSlot := s.ctrl.badSlot ++
                      [.completion
                        { slot := c.slot, tag := c.tag, op := op.code, source := .interposer,
                          code := 0x40, residual := fullCount c,
                          hint := { state := none, held := 0 } }] } }))
    ∧ (∀ i, slotOfField c.slot = some i → op ≠ .probe → op ≠ .abort → op ≠ .sense →
        (s.slot i).ctx.state = .empty →
        exec (Instr.ofCommand op c) s
          = .next
              (((s.handUp i (interposerAnswer { op := op, args := c } 0x41 (fullCount c) .empty
                (s.slot i).pass.hold.length)).active i).submit i .slotEmpty (some c.tag) none .empty
                (s.slot i).pass.hold.length))
    ∧ (∀ i, slotOfField c.slot = some i → op ≠ .probe → op ≠ .abort →
        (op = .sense → (s.slot i).record = none ∧ (s.slot i).ctx.state.powered = true) →
        (s.slot i).ctx.state ≠ .empty → (s.slot i).ctx.state ≠ .fault →
        (s.slot i).pass.inUse c.tag = true →
        exec (Instr.ofCommand op c) s
          = .next
              (((s.handUp i (interposerAnswer { op := op, args := c } 0x43 (fullCount c)
                (s.slot i).ctx.state (s.slot i).pass.hold.length)).active i).submit i .tagInUse
                (some c.tag) none (s.slot i).ctx.state (s.slot i).pass.hold.length))
    ∧ (∀ i l, slotOfField c.slot = some i → op ≠ .probe → op ≠ .abort →
        (op = .sense → (s.slot i).record = none ∧ (s.slot i).ctx.state.powered = true) →
        (s.slot i).ctx.state ≠ .empty → (s.slot i).ctx.state ≠ .fault →
        (s.slot i).pass.inUse c.tag = false → s.lock = true → op.need = some l →
        s.profile.parkLevel.rank < l.rank →
        exec (Instr.ofCommand op c) s
          = .next
              (((s.handUp i (interposerAnswer { op := op, args := c } 0x45 (fullCount c)
                (s.slot i).ctx.state (s.slot i).pass.hold.length)).active i).submit i .inTransit
                (some c.tag) none (s.slot i).ctx.state (s.slot i).pass.hold.length))
    ∧ (∀ i, slotOfField c.slot = some i → (s.slot i).pass.held? c.tag = none →
        (s.slot i).pass.aborting c.tag = true →
        exec (.abort c) s
          = .next
              (((s.handUp i (interposerAnswer { op := .abort, args := c } 0x43 (fullCount c)
                (s.slot i).ctx.state (s.slot i).pass.hold.length)).active i).submit i .tagInUse
                (some c.tag) none (s.slot i).ctx.state (s.slot i).pass.hold.length))
    ∧ (∀ i, slotOfField c.slot = some i → (s.slot i).pass.held? c.tag = none →
        (s.slot i).pass.aborting c.tag = false → (s.slot i).pass.flight? c.tag = none →
        exec (.abort c) s
          = .next
              ((s.handUp i (interposerAnswer { op := .abort, args := c } 0x44 (fullCount c)
                (s.slot i).ctx.state (s.slot i).pass.hold.length)).active i))
    ∧ (∀ i, slotOfField c.slot = some i → op ≠ .probe → op ≠ .abort → op ≠ .sense →
        (s.slot i).ctx.state = .fault →
        (op = .spinUp ∨ op = .loadHeads ∨ op = .powerOff →
          (s.slot i).ctx.faultAck = false ∨ (s.slot i).ctx.latch = true) →
        exec (Instr.ofCommand op c) s
          = .next
              (((s.handUp i (interposerAnswer { op := op, args := c } 0x42 (fullCount c) .fault
                (s.slot i).pass.hold.length)).active i).submit i .slotFault (some c.tag) none .fault
                (s.slot i).pass.hold.length))
    ∧ (∀ i, slotOfField c.slot = some i → (s.slot i).ctx.state = .fault →
        (s.slot i).ctx.faultAck = true → (s.slot i).ctx.latch = false →
        (s.profile.slots[i]).enabled = true → (s.slot i).pass.hold = [] →
        (s.slot i).pass.aborts = [] →
        (∃ t, exec (.powerOff c) s = .next t
          ∧ (t.slot i).ctx.state = .off ∧ (t.slot i).ctx.faultAck = false
          ∧ (t.slot i).ctx.retry = 0 ∧ (t.slot i).ctx.lastActivity = s.now
          ∧ (t.slot i).ctx.map = s.profile.slots[i] ∧ (t.slot i).pass = (s.slot i).pass
          ∧ (t.slot i).record = (s.slot i).record
          ∧ (t.slot i).upstream
            = ((s.handUp i (interposerAnswer { op := .powerOff, args := c } 0x00 0 .off
                0)).slot i).upstream
          ∧ t.ctrl = (s.handUp i (interposerAnswer { op := .powerOff, args := c } 0x00 0 .off 0)).ctrl
          ∧ (s.Working → s.OthersKept i t) ∧ s.RestKept t ∧ t.now = s.now)
        ∧ (∀ l, op.cls = .raising l → (s.slot i).pass.inUse c.tag = false →
            (s.lock = true → l.rank ≤ s.profile.parkLevel.rank) →
            ∃ t, exec (Instr.ofCommand op c) s = .next t
              ∧ (t.slot i).pass
                = { (s.slot i).pass with
                    hold :=
                      [{ cmd := { op := op, args := c }, origin := .new, seq := none, reissue := 0,
                         deadline := some (s.now + s.profile.holdMs), inProgress := false }]
                    demand := some l }
              ∧ ((t.slot i).ctx.state = .off ∨ (t.slot i).ctx.state = .powering)
              ∧ (s.loader.readState = .powerOnRead → (t.slot i).ctx.state = .off
                  ∧ { slot := i, kind := .power, bank := (s.profile.slots[i]).bank,
                      retried := false } ∈ t.admission.queue)
              ∧ (t.slot i).ctx.faultAck = false ∧ (t.slot i).ctx.retry = 0
              ∧ (t.slot i).ctx.lastActivity = s.now ∧ (t.slot i).ctx.map = s.profile.slots[i]
              ∧ (t.slot i).record = (s.slot i).record ∧ s.RestKept t ∧ t.now = s.now)
        ∧ (∀ l, op.cls = .raising l → (s.slot i).pass.inUse c.tag = false → s.lock = true →
            s.profile.parkLevel.rank < l.rank →
            ∃ t, exec (Instr.ofCommand op c) s = .next t
              ∧ (t.slot i).ctx.state = .off ∧ (t.slot i).ctx.faultAck = false
              ∧ (t.slot i).pass = (s.slot i).pass
              ∧ (t.slot i).record
                = recordAfter (s.slot i).record .inTransit (some c.tag) .off s.motion.state 0 none
              ∧ (t.slot i).upstream
                = ((s.handUp i (interposerAnswer { op := op, args := c } 0x45 (fullCount c) .off
                    0)).slot i).upstream
              ∧ (s.Working → s.OthersKept i t) ∧ s.RestKept t ∧ t.now = s.now))

/-- DATA of the case controller that answers a request of a record in flight takes the request off the
record's list and goes to the drive link port; for a tag not in flight, with no such request, or with a slot
field that names no slot, it is discarded (R123, R133, R143). That of two equal requests the older leaves the
list is the model's choice (log entry 32), R123 being silent on it. -/
def Obligations.DataAnswersItsRequest : Prop :=
  (∀ (s : State) (slot : SlotField) (d : DataBody), s.CtrlReady → slotOfField slot = none →
    exec (.data slot d) s = .next s)
  ∧ ∀ (s : State) (i : SlotId) (slot : SlotField) (d : DataBody), s.CtrlReady →
    slotOfField slot = some i → (s.slot i).port.data.length < 64 →
    (∀ f, (s.slot i).pass.flight? d.tag = some f →
      ({ offset := d.offset, lenM1 := d.lenM1 } : DataRequest) ∈ f.requests →
      exec (.data slot d) s
        = .next
            ((s.modPass i (fun p =>
              { p with
                flight := p.flight.map (fun g =>
                  if g.cmd.args.tag = d.tag then
                    { g with requests := g.requests.erase { offset := d.offset, lenM1 := d.lenM1 } }
                  else g) })).modPort i (Port.handData d)))
    ∧ (((s.slot i).pass.flight? d.tag = none ∨ ∃ f, (s.slot i).pass.flight? d.tag = some f
          ∧ ({ offset := d.offset, lenM1 := d.lenM1 } : DataRequest) ∉ f.requests) →
        exec (.data slot d) s = .next s)

/-- A frame that its link discards changes nothing: one of an unknown kind, of a kind the link does not
carry, shorter than its kind's length, or a DRIVE_ALERT of an unknown value (R142, R173, R175). -/
def Obligations.DiscardedFramesChangeNothing : Prop :=
  ∀ (s : State) (link : Link) (bytes : List Byte), frameIsDiscarded link bytes = true →
    (link = .controller → s.CtrlReady) → (∀ i, link = .drive i → s.Calm) →
    exec (.frameDiscarded link bytes) s = .next s

/-! ## Frames of a drive -/

/-- A drive's completion of a command in flight, of any code but UNLOADED_ABORT and NOT_LOADED, removes the
record and the command's waiting DATA frames and goes up with source DRIVE, the slot's number and hint, its
code and residual unchanged, which is activity; with the in-flight set empty then, the idle timer starts.
Where it empties the in-flight set and a lowering command heads the hold queue, behind no fence, the
performance of that begins: one step down from LOADED and SPUN, OFF and OK for POWER_OFF in IDLE, OK at once
at the target; and in the lowering phase an IDLE slot goes to OFF at a park level of OFF. Where the profile
disables the slot, OFF leads on to EMPTY and the POWER_OFF ends in SLOT_EMPTY (R5; log entry 39). The
completion of a forwarded ABORT, whatever its code, takes the tag off the abort list, leaves the target where
it is and goes up likewise; and one for a tag not in flight, or not in the abort list, one that finds a cancel
pending and one of an unpowered slot is discarded (R27, R91, R110, R114, R120, R133 to R135, R138, R144). -/
def Obligations.CompletionsPassUp : Prop :=
  ∀ (s : State) (i : SlotId) (r : DriveReport), s.DriveReady i →
    let up : UpFrame :=
      .completion
        { slot := BitVec.ofNat 4 i.val, tag := r.tag, op := r.op, source := .drive, code := r.code,
          residual := r.residual
          hint := { state := some (s.slot i).ctx.state, held := (s.slot i).pass.hold.length } }
    (∀ f : InFlight, (s.slot i).ctx.state.powered = true → (s.slot i).port.cancelPending = false →
      r.op ≠ 0x3F → (s.slot i).pass.flight? r.tag = some f → r.code ≠ 0x02 → r.code ≠ 0x03 →
      (s.slot i).pass.hold = [] → s.park.lowering = false → s.overdrawn i = false →
      let t :=
        (((((s.modPass i (fun p =>
          { p with flight := p.flight.filter (fun g => g.cmd.args.tag != r.tag) })).modPort i
          (fun p => { p with data := p.data.filter (fun d => d.tag != r.tag) })).handUp i
          up).active i).modPass i (fun p => { p with demand := none })).withdraw i
      exec (.driveCompletion i r) s = .next t ∧ (t.slot i).ctx.lastActivity = s.now
        ∧ (t.slot i).ctx.idleTimer = (t.slot i).idleFrom s.profile s.now (s.slot i).ctx.state)
    ∧ (∀ (f : InFlight) (h : HoldEntry) (rest : List HoldEntry) (target : Level),
        (s.slot i).ctx.state.powered = true → (s.slot i).port.cancelPending = false →
        r.op ≠ 0x3F → r.code ≠ 0x02 → r.code ≠ 0x03 → (s.slot i).pass.flight = [f] →
        f.cmd.args.tag = r.tag → (s.slot i).pass.hold = h :: rest →
        h.cmd.op.cls = .lowering target → (s.slot i).fence = false →
        ((s.slot i).ctx.state = .loaded ∨ ((s.slot i).ctx.state = .spun ∧ target ≠ .spun) →
          ∃ t, exec (.driveCompletion i r) s = .next t
            ∧ (t.slot i).pass
              = { (s.slot i).pass with
                  hold := { h with inProgress := true, deadline := none } :: rest
                  flight := [], demand := none }
            ∧ ((s.slot i).ctx.state = .loaded →
                s.CameTo t i .unloading s.now ∧ (t.slot i).ctx.outstanding = .unload)
            ∧ ((s.slot i).ctx.state = .spun →
                s.CameTo t i .stopping s.now ∧ (t.slot i).ctx.outstanding = .stop)
            ∧ (s.ctrl.sending ≠ none → (t.slot i).upstream = (s.slot i).upstream ++ [up])
            ∧ s.RestKept t ∧ t.now = s.now)
        ∧ (rest = [] → s.overdrawn i = false → h.cmd.args.slot = fieldOfSlot i →
          ((s.slot i).ctx.state.settled = true → (s.slot i).ctx.state.rank ≤ target.rank →
            s.park.lowering = false →
            ∃ t, exec (.driveCompletion i r) s = .next t
              ∧ (t.slot i).ctx.state = (s.slot i).ctx.state
              ∧ (t.slot i).pass = { (s.slot i).pass with hold := [], flight := [], demand := none }
              ∧ (s.ctrl.sending ≠ none → (t.slot i).upstream = (s.slot i).upstream ++
                  [up, interposerAnswer h.cmd 0x00 0 (s.slot i).ctx.state 0])
              ∧ s.RestKept t ∧ t.now = s.now)
          ∧ ((s.slot i).ctx.state = .idle → target = .off → (s.slot i).pass.aborts = [] →
            ∃ t, exec (.driveCompletion i r) s = .next t
              ∧ (t.slot i).ctx.state = (if (s.profile.slots[i]).enabled then .off else .empty)
              ∧ t.powerEnable i = false ∧ (t.slot i).charge = 0
              ∧ (t.slot i).pass = { (s.slot i).pass with hold := [], flight := [], demand := none }
              ∧ (s.ctrl.sending ≠ none → (t.slot i).upstream = (s.slot i).upstream ++
                  [up, if (s.profile.slots[i]).enabled then interposerAnswer h.cmd 0x00 0 .off 0
                       else interposerAnswer h.cmd 0x41 (fullCount h.cmd.args) .empty 0])
              ∧ s.RestKept t ∧ t.now = s.now)))
    ∧ (∀ f : InFlight, (s.slot i).ctx.state = .idle → (s.slot i).port.cancelPending = false →
        r.op ≠ 0x3F → r.code ≠ 0x02 → r.code ≠ 0x03 → (s.slot i).pass.flight = [f] →
        f.cmd.args.tag = r.tag → (s.slot i).pass.hold = [] → (s.slot i).pass.aborts = [] →
        s.park.lowering = true → s.profile.parkLevel = .off →
        ∃ t, exec (.driveCompletion i r) s = .next t
          ∧ (t.slot i).ctx.state = (if (s.profile.slots[i]).enabled then .off else .empty)
          ∧ t.powerEnable i = false ∧ (t.slot i).charge = 0
          ∧ (t.slot i).pass = { (s.slot i).pass with flight := [], demand := none }
          ∧ (s.ctrl.sending ≠ none → (t.slot i).upstream = (s.slot i).upstream ++ [up])
          ∧ s.RestKept t ∧ t.now = s.now)
    ∧ ((s.slot i).ctx.state.powered = true → (s.slot i).port.cancelPending = false →
        r.op = 0x3F → (∃ c ∈ (s.slot i).pass.aborts, c.args.tag = r.tag) →
        exec (.driveCompletion i r) s
          = .next
              (((s.modPass i (fun p =>
                { p with aborts := p.aborts.filter (fun c => c.args.tag != r.tag) })).handUp i
                up).active i))
    ∧ ((s.slot i).ctx.state.powered = false ∨ (s.slot i).port.cancelPending = true
          ∨ (r.op = 0x3F ∧ ∀ c ∈ (s.slot i).pass.aborts, c.args.tag ≠ r.tag)
          ∨ (r.op ≠ 0x3F ∧ (s.slot i).pass.flight? r.tag = none) →
        exec (.driveCompletion i r) s = .next s)

/-- A command in flight that comes back UNLOADED_ABORT or NOT_LOADED, no ABORT forwarded and its re-issue
count below 3, is held again. A media command of an UNLOADING slot, or NOT_LOADED at a LOADED one, with no
lock standing: its record is gone, a REQUEUED entry keeps its forward sequence with a count one higher and
a fresh deadline, nothing goes up, and the slot's requeue count rises while its emergency mark is set, up
to 8; and the NOT_LOADED at the LOADED slot is a self-unload, after which the slot is SPUN with its LOAD
entry in the queue, or granted it. Under the lock, the requeued entry of a command that needs a level above
the park level is counted and completed IN_TRANSIT at once, with its COMMAND entry, and a NOT_LOADED of a
LOADED slot is a self-unload after it. Stated with nothing held and no link free while a frame waits for
it, the lock with no lowering phase and no OVERDRAW (R19, R29, R83, R89, R111, R115, R145). -/
def Obligations.UnloadAbortsAreRequeued : Prop :=
  ∀ (s : State) (i : SlotId) (r : DriveReport) (f : InFlight), s.DriveReady i →
    (s.slot i).ctx.state.powered = true → (s.slot i).port.cancelPending = false →
    r.op ≠ 0x3F → r.code = 0x02 ∨ r.code = 0x03 → (s.slot i).pass.flight? r.tag = some f →
    f.abortForwarded = false → f.reissue < 3 → (s.slot i).pass.hold = [] →
    let selfUnload := r.code = 0x03 ∧ (s.slot i).ctx.state = .loaded
    let requeues :=
      if (s.slot i).ctx.emergency then min 8 ((s.slot i).requeues + 1) else (s.slot i).requeues
    (s.Working → f.cmd.op.cls = .media → s.lock = false →
      ((s.slot i).ctx.state = .unloading ∨ selfUnload) →
      (selfUnload → s.park.lowering = false ∧ ∀ e ∈ s.admission.queue, e.slot ≠ i) →
      ∃ t, exec (.driveCompletion i r) s = .next t
        ∧ (t.slot i).pass
          = { (s.slot i).pass with
              hold :=
                [{ cmd := f.cmd, origin := .requeued, seq := some f.seq, reissue := f.reissue + 1,
                   deadline := some (s.now + s.profile.holdMs), inProgress := false }]
              flight := (s.slot i).pass.flight.filter (fun g => g.cmd.args.tag != r.tag)
              demand := some .loaded }
        ∧ (t.slot i).requeues = requeues ∧ (t.slot i).upstream = (s.slot i).upstream
        ∧ ((s.slot i).ctx.state = .unloading →
            (t.slot i).ctx.state = .unloading ∧ (t.slot i).record = (s.slot i).record)
        ∧ (selfUnload →
            (t.slot i).ctx.emergency = false
              ∧ (t.slot i).record
                = recordAfter (s.slot i).record .selfUnload none .loaded s.motion.state 1 none
              ∧ (((t.slot i).ctx.state = .spun ∧ (t.slot i).ctx.outstanding = .none
                    ∧ { slot := i, kind := .load, bank := (s.slot i).ctx.map.bank, retried := false }
                        ∈ t.admission.queue)
                  ∨ ((t.slot i).ctx.state = .loading ∧ (t.slot i).ctx.outstanding = .load
                    ∧ ∀ e ∈ t.admission.queue, e.slot ≠ i)))
        ∧ s.RestKept t ∧ t.now = s.now)
    ∧ (∀ l, f.cmd.op.need = some l → s.lock = true → s.profile.parkLevel.rank < l.rank →
        s.park.lowering = false → s.overdrawn i = false →
        ∃ t, exec (.driveCompletion i r) s = .next t
          ∧ (t.slot i).pass
            = { (s.slot i).pass with
                flight := (s.slot i).pass.flight.filter (fun g => g.cmd.args.tag != r.tag)
                demand := none }
          ∧ (t.slot i).requeues = requeues
          ∧ (selfUnload → (t.slot i).ctx.state = .spun ∧ (t.slot i).ctx.emergency = false
              ∧ (t.slot i).record
                = recordAfter
                    (recordAfter (s.slot i).record .inTransit (some f.cmd.args.tag) .loaded
                      s.motion.state 0 none)
                    .selfUnload none .loaded s.motion.state 0 none)
          ∧ (¬ selfUnload → (t.slot i).ctx.state = (s.slot i).ctx.state
              ∧ (t.slot i).record
                = recordAfter (s.slot i).record .inTransit (some f.cmd.args.tag)
                    (s.slot i).ctx.state s.motion.state 0 none)
          ∧ (s.ctrl.sending ≠ none → f.cmd.args.slot = fieldOfSlot i → (t.slot i).upstream
              = (s.slot i).upstream ++
                [interposerAnswer f.cmd 0x45 (fullCount f.cmd.args) (s.slot i).ctx.state 0])
          ∧ s.RestKept t ∧ t.now = s.now)

/-- The insertion of a REQUEUED entry loses and adds nothing else, and leaves the REQUEUED entries ahead in
order of their first forwarding, wrapping sequences and all (R107). -/
def Obligations.RequeueKeepsTheOrder : Prop :=
  ∀ (next n : Seq) (e : HoldEntry) (q : List HoldEntry), e.origin = .requeued → e.seq = some n →
    RequeuedFirst next q →
    (insertRequeued next n e q).Perm (e :: q) ∧ RequeuedFirst next (insertRequeued next n e q)

/-- A command in flight that comes back UNLOADED_ABORT or NOT_LOADED with a re-issue count of 3, or after
its ABORT was forwarded, is not requeued: its record is gone, the requeue count stands, and the part
completes it with MOTION_ABORT, or with ABORTED, and its COMMAND entry; a NOT_LOADED of a LOADED slot is
still a self-unload, whose entry follows it, captured in LOADED, in the model's order (log entry 37).
Stated with no work held, no lowering phase and no OVERDRAW (R19, R116). A re-issue count of 3 with an
ABORT forwarded ends in ABORTED (log entry 9). -/
def Obligations.ReissueLimitEndsTheCommand : Prop :=
  ∀ (s : State) (i : SlotId) (r : DriveReport) (f : InFlight), s.DriveReady i →
    (s.slot i).ctx.state.powered = true →
    (s.slot i).port.cancelPending = false → r.op ≠ 0x3F → r.code = 0x02 ∨ r.code = 0x03 →
    (s.slot i).pass.flight? r.tag = some f → f.abortForwarded = true ∨ f.reissue = 3 →
    (s.slot i).pass.hold = [] → s.park.lowering = false → s.overdrawn i = false →
    let selfUnload := r.code = 0x03 ∧ (s.slot i).ctx.state = .loaded
    let ended :=
      recordAfter (s.slot i).record
        (if f.abortForwarded then .aborted else .motionAbort) (some f.cmd.args.tag)
        (s.slot i).ctx.state s.motion.state 0 none
    ∃ t, exec (.driveCompletion i r) s = .next t
      ∧ (t.slot i).pass
        = { (s.slot i).pass with
            flight := (s.slot i).pass.flight.filter (fun g => g.cmd.args.tag != r.tag)
            demand := none }
      ∧ (t.slot i).requeues = (s.slot i).requeues
      ∧ (¬ selfUnload →
          (t.slot i).record = ended ∧ (t.slot i).ctx.state = (s.slot i).ctx.state)
      ∧ (selfUnload → (t.slot i).record = recordAfter ended .selfUnload none .loaded s.motion.state 0 none
          ∧ (t.slot i).ctx.state = .spun ∧ (t.slot i).ctx.emergency = false)
      ∧ (s.ctrl.sending ≠ none → f.cmd.args.slot = fieldOfSlot i → (t.slot i).upstream
          = (s.slot i).upstream ++
            [interposerAnswer f.cmd (if f.abortForwarded then 0x01 else 0x47)
              (fullCount f.cmd.args) (s.slot i).ctx.state 0])
      ∧ s.RestKept t ∧ t.now = s.now

/-- A drive's DATA frame and DATA_REQUEST for a tag in flight go up with the slot's number, and a request
also joins its record's list, the oldest of eight leaving it; for a tag not in flight, and while a
cancel is pending or the slot unpowered, they are discarded (R122, R124, R134, R135, R138). That their
reserved bits go up as they arrived is the model's reading of the spec (log entry 19). -/
def Obligations.DriveDataPassesUp : Prop :=
  ∀ (s : State) (i : SlotId), s.DriveReady i →
    (∀ (d : DataBody) (f : InFlight), (s.slot i).ctx.state.powered = true →
      (s.slot i).port.cancelPending = false → (s.slot i).pass.flight? d.tag = some f →
      exec (.driveData i d) s = .next (s.handUp i (.data (BitVec.ofNat 4 i.val) d)))
    ∧ (∀ (r : RequestBody) (f : InFlight), (s.slot i).ctx.state.powered = true →
      (s.slot i).port.cancelPending = false → (s.slot i).pass.flight? r.tag = some f →
      exec (.dataRequest i r) s
        = .next
            ((s.modPass i (fun p =>
              { p with
                flight := p.flight.map (fun g =>
                  if g.cmd.args.tag = r.tag then
                    { g with
                      requests :=
                        (if g.requests.length < 8 then g.requests else g.requests.drop 1)
                          ++ [{ offset := r.offset, lenM1 := r.lenM1 }] }
                  else g) })).handUp i (.dataRequest (BitVec.ofNat 4 i.val) r)))
    ∧ (∀ (d : DataBody) (r : RequestBody),
        (s.slot i).ctx.state.powered = false ∨ (s.slot i).port.cancelPending = true
          ∨ ((s.slot i).pass.flight? d.tag = none ∧ (s.slot i).pass.flight? r.tag = none) →
        exec (.driveData i d) s = .next s ∧ exec (.dataRequest i r) s = .next s)

/-- A CONTROL_REPLY of DONE to the outstanding LOAD of a LOADING slot with nothing held takes it to
LOADED: no operation outstanding, no step deadline, a retry count of 0, and activity, the QUERY schedule
afresh, and with nothing in flight the idle timer; a raising command held alone completes OK; with media and
attached commands held and no fence, all of them are forwarded from LOADED in queue order, a REQUEUED entry
with its own sequence and re-issue count, a NEW one with the next sequence; with a lowering entry in progress
at the head of the queue (R110) the slot is ordered on to UNLOADING; and a CONTROL_REPLY to a LOAD
that is not outstanding changes nothing, whatever its answer. A CONTROL_REPLY of DONE to the CANCEL_ALL of a
pending exchange ends the exchange and lifts the fence, and the queue is served: a NEW media command held
alone at a LOADED slot is forwarded; with no exchange pending, of another answer and at an unpowered slot, a
CONTROL_REPLY to CANCEL_ALL changes nothing. Nor does any CONTROL_REPLY but REFUSED to the outstanding SPIN,
DONE or FAILED to the outstanding LOAD or UNLOAD and that confirmation: one that names QUERY or STOP, an
unknown operation or answer, a kind or an operation not awaited, or that finds the slot unpowered (R8, R9,
R15, R27, R109, R113, R126, R135, R138, R151, R175). That a CANCEL_ALL not yet sent stays with the port is the
model's choice (log entry 35). -/
def Obligations.LoadDoneLoads : Prop :=
  ∀ (s : State) (i : SlotId), s.DriveReady i →
    ((s.slot i).ctx.state = .loading → (s.slot i).ctx.outstanding = .load →
      (s.slot i).pass.hold = [] →
      ∃ t, exec (.controlReply i 0x02 0x03) s = .next t
        ∧ (t.slot i).ctx.state = .loaded ∧ (t.slot i).ctx.outstanding = .none
        ∧ (t.slot i).ctx.stepDeadline = none ∧ (t.slot i).ctx.retry = 0
        ∧ (t.slot i).ctx.lastActivity = s.now
        ∧ (t.slot i).charge = min (s.slot i).charge ((s.slot i).classIn s.profile).iHead
        ∧ s.CameTo t i .loaded s.now ∧ s.RestKept t ∧ t.now = s.now)
    ∧ (∀ e l, (s.slot i).ctx.state = .loading → (s.slot i).ctx.outstanding = .load →
        (s.slot i).fence = false → (s.slot i).pass.hold = [e] → e.cmd.op.cls = .raising l →
        e.cmd.args.slot = fieldOfSlot i →
        ∃ t, exec (.controlReply i 0x02 0x03) s = .next t ∧ (t.slot i).ctx.state = .loaded
          ∧ (t.slot i).pass = { (s.slot i).pass with hold := [], demand := none }
          ∧ (s.ctrl.sending ≠ none → (t.slot i).upstream
              = (s.slot i).upstream ++ [interposerAnswer e.cmd 0x00 0 .loaded 0])
          ∧ s.RestKept t ∧ t.now = s.now)
    ∧ ((s.slot i).ctx.state = .loading → (s.slot i).ctx.outstanding = .load →
        (s.slot i).fence = false →
        (∀ e ∈ (s.slot i).pass.hold, e.cmd.op.cls = .media ∨ e.cmd.op.cls = .attached) →
        ((s.slot i).pass.hold.map (fun e => e.cmd.args.tag)).Nodup →
        let r := forwardedAll (s.slot i).pass.nextSeq (s.slot i).pass.hold
        ∃ t, exec (.controlReply i 0x02 0x03) s = .next t
          ∧ (t.slot i).ctx.state = .loaded
          ∧ (t.slot i).pass
            = { (s.slot i).pass with
                hold := [], flight := (s.slot i).pass.flight ++ r.1, nextSeq := r.2, demand := none }
          ∧ (t.slot i).port
            = (s.slot i).pass.hold.foldl (fun p e => p.handCommand e.cmd)
                ((s.slot i).port.enter s.profile s.now .loaded)
          ∧ (s.Working → (t.slot i).upstream = (s.slot i).upstream)
          ∧ s.RestKept t ∧ t.now = s.now)
    ∧ (∀ h rest target, (s.slot i).ctx.state = .loading → (s.slot i).ctx.outstanding = .load →
        (s.slot i).PerformsHead h rest target →
        ∃ t, exec (.controlReply i 0x02 0x03) s = .next t
          ∧ s.PerformedOn t i .loaded s.now h rest target ∧ s.RestKept t ∧ t.now = s.now)
    ∧ (∀ a, (s.slot i).ctx.outstanding ≠ .load → exec (.controlReply i 0x02 a) s = .next s)
    ∧ ((s.slot i).ctx.state.powered = true → (s.slot i).port.cancelPending = true →
        (s.slot i).pass.hold = [] → s.park.lowering = false → s.overdrawn i = false →
        exec (.controlReply i 0x06 0x03) s
          = .next
              (((s.modSlot i (fun x =>
                { x with
                  fence := false
                  port := { x.port with cancelPending := false, cancelMiss := 0 } })).modPass i
                (fun p => { p with demand := none })).withdraw i))
    ∧ (∀ e, (s.slot i).ctx.state = .loaded → (s.slot i).port.cancelPending = true →
        (s.slot i).pass.hold = [e] → e.cmd.op.cls = .media → e.seq = none →
        ∃ t, exec (.controlReply i 0x06 0x03) s = .next t
          ∧ (t.slot i).fence = false
          ∧ (t.slot i).port
            = Port.handCommand e.cmd
                { (s.slot i).port with cancelPending := false, cancelMiss := 0 }
          ∧ (t.slot i).pass
            = { (s.slot i).pass with
                hold := []
                flight := (s.slot i).pass.flight ++
                  [{ cmd := e.cmd, seq := (s.slot i).pass.nextSeq, reissue := 0,
                     abortForwarded := false, requests := [] }]
                nextSeq := (s.slot i).pass.nextSeq + 1
                demand := none }
          ∧ s.RestKept t ∧ t.now = s.now)
    ∧ (∀ a, (s.slot i).ctx.state.powered = false ∨ (s.slot i).port.cancelPending = false ∨ a ≠ 0x03 →
        exec (.controlReply i 0x06 a) s = .next s)
    ∧ (∀ op a : Byte,
        (s.slot i).ctx.state.powered = false ∨
          ¬ ((op = 0x01 ∧ a = 0x02 ∧ (s.slot i).ctx.outstanding = .spin)
            ∨ (op = 0x02 ∧ (a = 0x03 ∨ a = 0x04) ∧ (s.slot i).ctx.outstanding = .load)
            ∨ (op = 0x03 ∧ (a = 0x03 ∨ a = 0x04) ∧ (s.slot i).ctx.outstanding = .unload)
            ∨ (op = 0x06 ∧ a = 0x03 ∧ (s.slot i).port.cancelPending = true)) →
        exec (.controlReply i op a) s = .next s)

/-- UNLOAD DONE at an UNLOADING slot takes it to SPUN, its charge no more than the current of SPUN, its QUERY
schedule and, with no work, its idle timer afresh; and a set emergency mark is cleared with an
EMERGENCY_UNLOAD entry, captured in UNLOADING with the slot's held and requeue counts. With nothing held it is
stated for a bank not in OVERDRAW, or with commands in flight; of a held queue the attached commands ahead are
forwarded, and for a head that needs LOADED the LOAD entry is placed, or granted at once. A lowering entry in
progress at the head completes OK from SPUN if it is an UNLOAD_HEADS, whatever is held behind it needing
LOADED; a SPIN_DOWN or POWER_OFF orders the slot on to STOPPING (R9, R16, R27, R29, R32, R84, R109, R110, R113,
R155). Stated with no lowering phase. -/
def Obligations.UnloadDoneReports : Prop :=
  ∀ (s : State) (i : SlotId), s.DriveReady i → (s.slot i).ctx.state = .unloading →
    (s.slot i).ctx.outstanding = .unload → s.park.lowering = false →
    let reported (t : State) : Prop :=
      (t.slot i).ctx.emergency = false
        ∧ (t.slot i).record
          = (if (s.slot i).ctx.emergency then
               recordAfter (s.slot i).record .emergencyUnload none .unloading s.motion.state
                 (s.slot i).pass.hold.length (some (s.slot i).requeues)
             else (s.slot i).record)
        ∧ (t.slot i).notice
          = ((s.slot i).notice || ((s.slot i).ctx.emergency && s.profile.motionNotice))
        ∧ (t.slot i).ctx.lastActivity = s.now ∧ s.RestKept t ∧ t.now = s.now
    ((s.slot i).pass.hold = [] → ((s.slot i).pass.flight = [] → s.overdrawn i = false) →
      ∃ t, exec (.controlReply i 0x03 0x03) s = .next t
        ∧ s.CameTo t i .spun s.now ∧ (t.slot i).ctx.outstanding = .none
        ∧ (t.slot i).ctx.stepDeadline = none ∧ reported t)
    ∧ (∀ pass rest, (s.slot i).HeldAs .spun pass rest →
      ∃ t, exec (.controlReply i 0x03 0x03) s = .next t
        ∧ s.ServedIn t i .load pass rest ∧ reported t)
    ∧ (∀ h rest target, (s.slot i).PerformsHead h rest target →
      ∃ t, exec (.controlReply i 0x03 0x03) s = .next t
        ∧ s.PerformedOn t i .spun s.now h rest target ∧ reported t)

/-- A STATE_REPLY with fault NONE, whatever its reserved bits, clears query pending and the missed-query count
and ends the step it is awaited for: spindle STOPPED in POWERING and in an unmarked STOPPING leads to IDLE,
AT_SPEED in SPINNING_UP to SPUN, whatever the heads, with the charge, the QUERY schedule and the idle timer of
the state. With nothing held this is stated for a bank not in OVERDRAW, or with commands in flight; of a held
queue the attached commands ahead are forwarded in order, and for a head above the level the SPIN or LOAD entry
is placed, or granted at once; a SPIN_UP held alone completes OK in SPUN. A lowering entry in progress at the
head (R110), a marked stop with no demand and retries left included, completes OK at or below its target; in
SPUN a SPIN_DOWN or POWER_OFF orders the slot on to STOPPING, and in IDLE a POWER_OFF held alone takes it to
OFF, where each ABORT still listed and then the POWER_OFF complete OK (their order: log entry 38). A drive found
turning in POWERING is stopped, unmarked, where its bank is not in OVERDRAW and carries the increment, and else
powered off: stated with nothing held, with a raising demand, whose POWER entry is placed again, or granted, and
with a lowering entry in progress held alone, which completes OK from OFF. A slot that its entry of the profile
disables goes from OFF on to EMPTY (R5), the lowering entry ended in SLOT_EMPTY (log entry 39). Heads PARKED in
LOADED are a self-unload to SPUN, captured in LOADED. What ends in IDLE or SPUN is stated with no lowering phase,
an order on from there apart. Every other report with fault NONE changes nothing but the two query fields, and
at an unpowered slot any report changes nothing at all (R9 to R12, R17 to R19, R27, R29, R32, R109, R113). -/
def Obligations.StateRepliesEndSteps : Prop :=
  ∀ (s : State) (i : SlotId) (report : Byte), s.DriveReady i →
    let spindle := report.extractLsb' 0 2
    let heads := report.extractLsb' 2 2
    let run := ((s.slot i).classIn s.profile).iRun
    let carries := s.overdrawn i = false
      ∧ s.bankSum (s.slot i).ctx.map.bank + (max (s.slot i).charge run - (s.slot i).charge)
        ≤ (s.bank (s.slot i).ctx.map.bank).budget
    (report.extractLsb' 4 2 = 0 →
      ((s.slot i).pass.hold = [] → ((s.slot i).pass.flight = [] → s.overdrawn i = false) →
          s.park.lowering = false →
        (((s.slot i).ctx.state = .powering ∨
            ((s.slot i).ctx.state = .stopping ∧ (s.slot i).ctx.spinMark = false)) → spindle = 0 →
          ∃ t, exec (.stateReply i report) s = .next t
            ∧ s.CameTo t i .idle s.now ∧ (t.slot i).ctx.outstanding = .none
            ∧ (t.slot i).ctx.stepDeadline = none ∧ (t.slot i).ctx.queryPending = false
            ∧ (t.slot i).ctx.missed = 0 ∧ (t.slot i).ctx.lastActivity = s.now
            ∧ s.RestKept t ∧ t.now = s.now)
        ∧ ((s.slot i).ctx.state = .spinningUp → spindle = 2 →
          ∃ t, exec (.stateReply i report) s = .next t
            ∧ s.CameTo t i .spun s.now ∧ (t.slot i).ctx.outstanding = .none
            ∧ (t.slot i).ctx.stepDeadline = none ∧ (t.slot i).ctx.retry = 0
            ∧ (t.slot i).ctx.queryPending = false ∧ (t.slot i).ctx.missed = 0
            ∧ (t.slot i).ctx.lastActivity = s.now ∧ s.RestKept t ∧ t.now = s.now))
      ∧ (∀ pass rest, s.park.lowering = false →
        (((s.slot i).ctx.state = .powering ∨
            ((s.slot i).ctx.state = .stopping ∧ (s.slot i).ctx.spinMark = false)) → spindle = 0 →
          (s.slot i).HeldAs .idle pass rest →
          ∃ t, exec (.stateReply i report) s = .next t ∧ s.ServedIn t i .spin pass rest
            ∧ (t.slot i).ctx.lastActivity = s.now ∧ s.RestKept t ∧ t.now = s.now)
        ∧ ((s.slot i).HeldAs .spun pass rest →
          ((s.slot i).ctx.state = .spinningUp → spindle = 2 →
            ∃ t, exec (.stateReply i report) s = .next t ∧ s.ServedIn t i .load pass rest
              ∧ (t.slot i).ctx.lastActivity = s.now ∧ s.RestKept t ∧ t.now = s.now)
          ∧ ((s.slot i).ctx.state = .loaded → heads = 0 →
            ∃ t, exec (.stateReply i report) s = .next t ∧ s.ServedIn t i .load pass rest
              ∧ (t.slot i).ctx.emergency = false
              ∧ (t.slot i).record
                = recordAfter (s.slot i).record .selfUnload none .loaded s.motion.state
                    (s.slot i).pass.hold.length none
              ∧ s.RestKept t ∧ t.now = s.now)))
      ∧ (∀ h rest target, (s.slot i).PerformsHead h rest target →
        let performed (st : SlotSt) : Prop :=
          ∃ t, exec (.stateReply i report) s = .next t
            ∧ s.PerformedOn t i st s.now h rest target ∧ (t.slot i).ctx.queryPending = false
            ∧ (t.slot i).ctx.missed = 0
            ∧ ((s.slot i).ctx.state ≠ .loaded → (t.slot i).ctx.lastActivity = s.now)
            ∧ ((s.slot i).ctx.state = .loaded → (t.slot i).ctx.emergency = false
                ∧ (t.slot i).record
                  = recordAfter (s.slot i).record .selfUnload none .loaded s.motion.state
                      (s.slot i).pass.hold.length none)
            ∧ s.RestKept t ∧ t.now = s.now
        (((s.slot i).ctx.state = .powering ∨
            ((s.slot i).ctx.state = .stopping ∧ ((s.slot i).ctx.spinMark = false ∨
              ((s.slot i).ctx.retry < s.profile.retryLimit ∧ (s.slot i).pass.demand = none)))) →
          spindle = 0 → performed .idle)
        ∧ ((s.slot i).ctx.state = .spinningUp → spindle = 2 → performed .spun)
        ∧ ((s.slot i).ctx.state = .loaded → heads = 0 → performed .spun)
        ∧ ((s.slot i).ctx.state = .powering → spindle ≠ 0 → ¬ carries → performed .off))
      ∧ (∀ e, (s.slot i).ctx.state = .spinningUp → spindle = 2 → (s.slot i).fence = false →
          (s.slot i).pass.hold = [e] → e.cmd.op = .spinUp → e.cmd.args.slot = fieldOfSlot i →
          s.park.lowering = false → s.overdrawn i = false →
          ∃ t, exec (.stateReply i report) s = .next t ∧ (t.slot i).ctx.state = .spun
            ∧ (t.slot i).pass = { (s.slot i).pass with hold := [], demand := none }
            ∧ (s.ctrl.sending ≠ none → (t.slot i).upstream
                = (s.slot i).upstream ++ [interposerAnswer e.cmd 0x00 0 .spun 0])
            ∧ s.RestKept t ∧ t.now = s.now)
      ∧ ((s.slot i).ctx.state = .powering → spindle ≠ 0 → carries →
          ∃ t, exec (.stateReply i report) s = .next t
            ∧ (t.slot i).ctx.state = .stopping ∧ (t.slot i).ctx.outstanding = .stop
            ∧ (t.slot i).ctx.stepDeadline = some (s.now + ((s.slot i).classIn s.profile).stopMs)
            ∧ (t.slot i).ctx.spinMark = false ∧ (t.slot i).charge = max (s.slot i).charge run
            ∧ (t.slot i).port.query = some (Profile.schedule s.profile s.now .stopping)
            ∧ (t.slot i).ctx.queryPending = false ∧ (t.slot i).ctx.missed = 0
            ∧ (t.slot i).ctx.lastActivity = s.now ∧ s.RestKept t ∧ t.now = s.now)
      ∧ ((s.slot i).ctx.state = .powering → spindle ≠ 0 → ¬ carries →
          (s.slot i).pass.hold = [] →
          ∃ t, exec (.stateReply i report) s = .next t
            ∧ (t.slot i).ctx.state = (if (s.profile.slots[i]).enabled then .off else .empty)
            ∧ t.powerEnable i = false ∧ (t.slot i).charge = 0
            ∧ (t.slot i).port = Port.reset ∧ (t.slot i).ctx.outstanding = .none
            ∧ (t.slot i).ctx.stepDeadline = none ∧ (t.slot i).ctx.lastActivity = s.now
            ∧ s.RestKept t ∧ t.now = s.now)
      ∧ (∀ h rest l, (s.slot i).ctx.state = .powering → spindle ≠ 0 → ¬ carries →
          (s.slot i).pass.hold = h :: rest → h.inProgress = false → h.cmd.op.need = some l →
          ∃ t, exec (.stateReply i report) s = .next t
            ∧ ((s.profile.slots[i]).enabled = false → (t.slot i).ctx.state = .empty
                ∧ (t.slot i).pass = (s.slot i).pass.emptied ∧ (t.slot i).record = (s.slot i).record)
            ∧ ((s.profile.slots[i]).enabled = true →
                (t.slot i).pass = { (s.slot i).pass with aborts := [], demand := some l }
                ∧ (((t.slot i).ctx.state = .off ∧ t.powerEnable i = false ∧ (t.slot i).charge = 0
                      ∧ (t.slot i).port = Port.reset
                      ∧ { slot := i, kind := .power, bank := (s.profile.slots[i]).bank,
                          retried := false } ∈ t.admission.queue)
                    ∨ ((t.slot i).ctx.state = .powering ∧ (t.slot i).ctx.outstanding = .queryOnly
                      ∧ ∀ e ∈ t.admission.queue, e.slot ≠ i)))
            ∧ s.RestKept t ∧ t.now = s.now)
      ∧ ((s.slot i).ctx.state = .loaded → heads = 0 → (s.slot i).pass.hold = [] →
          s.park.lowering = false → ((s.slot i).pass.flight = [] → s.overdrawn i = false) →
          ∃ t, exec (.stateReply i report) s = .next t
            ∧ s.CameTo t i .spun s.now ∧ (t.slot i).ctx.emergency = false
            ∧ (t.slot i).ctx.queryPending = false ∧ (t.slot i).ctx.missed = 0
            ∧ (t.slot i).record
              = recordAfter (s.slot i).record .selfUnload none .loaded s.motion.state 0 none
            ∧ s.RestKept t ∧ t.now = s.now)
      ∧ ((s.slot i).ctx.state.powered = true → (s.slot i).ctx.state ≠ .powering →
          ((s.slot i).ctx.state = .spinningUp → spindle ≠ 2) →
          ((s.slot i).ctx.state = .stopping → spindle ≠ 0) →
          ((s.slot i).ctx.state = .loaded → heads ≠ 0) →
          exec (.stateReply i report) s
            = .next (s.modCtx i (fun c => { c with queryPending := false, missed := 0 }))))
    ∧ ((s.slot i).ctx.state.powered = false → exec (.stateReply i report) s = .next s)

/-- What a drive reports as a fault takes its powered slot to FAULT: a DRIVE_ALERT of FAULT and a STATE_REPLY
with fault HEAD, or with fault SPINDLE outside SPINNING_UP, with DRIVE_FAULT; UNLOAD FAILED with
UNLOAD_FAILED. In SPINNING_UP a fault of SPINDLE and a REFUSED of the SPIN are spin failures, which lead
to a marked STOPPING; in OFF, EMPTY and FAULT a DRIVE_ALERT of FAULT is discarded. With FAULT its commands are
answered SLOT_FAULT, and a slot that its entry of the profile disables goes on to EMPTY, which as a leaving of
FAULT is activity of the slot (log entry 23; R5, R10, R12, R16, R20, R25, R117). -/
def Obligations.DriveFaultsLeadToFault : Prop :=
  ∀ (s : State) (i : SlotId), s.DriveReady i →
    ((s.slot i).ctx.state.powered = true →
      (∃ t, exec (.driveAlertFault i) s = .next t ∧ s.FaultedWith t i .driveFault ∧ s.RestKept t)
      ∧ (∀ report : Byte,
          report.extractLsb' 4 2 = 2 ∨ report.extractLsb' 4 2 = 3
            ∨ (report.extractLsb' 4 2 = 1 ∧ (s.slot i).ctx.state ≠ .spinningUp) →
          ∃ t, exec (.stateReply i report) s = .next t ∧ s.FaultedWith t i .driveFault
            ∧ s.RestKept t)
      ∧ ((s.slot i).ctx.state = .unloading → (s.slot i).ctx.outstanding = .unload →
          ∃ t, exec (.controlReply i 0x03 0x04) s = .next t ∧ s.FaultedWith t i .unloadFailed
            ∧ s.RestKept t))
    ∧ ((s.slot i).ctx.state.powered = false → exec (.driveAlertFault i) s = .next s)
    ∧ ((s.slot i).ctx.state = .spinningUp →
      (∀ report : Byte, report.extractLsb' 4 2 = 1 →
        ∃ t, exec (.stateReply i report) s = .next t
          ∧ s.CameTo t i .stopping s.now ∧ (t.slot i).ctx.spinMark = true
          ∧ (t.slot i).ctx.lastFail = .timeout ∧ (t.slot i).ctx.retry = (s.slot i).ctx.retry
          ∧ (t.slot i).ctx.outstanding = .stop ∧ t.now = s.now ∧ s.RestKept t)
      ∧ ((s.slot i).ctx.outstanding = .spin →
        ∃ t, exec (.controlReply i 0x01 0x02) s = .next t
          ∧ s.CameTo t i .stopping s.now ∧ (t.slot i).ctx.spinMark = true
          ∧ (t.slot i).ctx.lastFail = .refused ∧ (t.slot i).ctx.retry = (s.slot i).ctx.retry
          ∧ (t.slot i).ctx.outstanding = .stop ∧ t.now = s.now ∧ s.RestKept t))

/-- A DRIVE_ALERT of SELF_UNLOAD takes a LOADED, LOADING or UNLOADING slot to SPUN, its emergency mark clear,
its charge no more than the current of SPUN, its QUERY schedule and, with no work, its idle timer afresh, and
a SELF_UNLOAD entry captured in the state it left with the held count; in every other state it changes nothing.
With nothing held it is stated for a bank not in OVERDRAW, or with commands in flight; of a held queue the
attached commands ahead are forwarded, and for a head that needs LOADED the LOAD entry is placed, or granted at
once. A lowering entry in progress at the head completes OK from SPUN if it is an UNLOAD_HEADS, whatever is held
behind it needing LOADED; a SPIN_DOWN or POWER_OFF orders the slot on to STOPPING (R9, R19, R27, R29, R32, R109,
R110, R113). Stated with no lowering phase. -/
def Obligations.SelfUnloadLeadsToSpun : Prop :=
  ∀ (s : State) (i : SlotId), s.DriveReady i →
    ((s.slot i).ctx.state = .loaded ∨ (s.slot i).ctx.state = .loading
        ∨ (s.slot i).ctx.state = .unloading → s.park.lowering = false →
      let reported (t : State) : Prop :=
        (t.slot i).ctx.emergency = false
          ∧ (t.slot i).record
            = recordAfter (s.slot i).record .selfUnload none (s.slot i).ctx.state s.motion.state
                (s.slot i).pass.hold.length none
          ∧ s.RestKept t ∧ t.now = s.now
      ((s.slot i).pass.hold = [] → ((s.slot i).pass.flight = [] → s.overdrawn i = false) →
        ∃ t, exec (.driveAlertSelfUnload i) s = .next t
          ∧ s.CameTo t i .spun s.now ∧ (t.slot i).ctx.outstanding = .none
          ∧ (t.slot i).ctx.stepDeadline = none ∧ reported t)
      ∧ (∀ pass rest, (s.slot i).HeldAs .spun pass rest →
        ∃ t, exec (.driveAlertSelfUnload i) s = .next t
          ∧ s.ServedIn t i .load pass rest ∧ reported t)
      ∧ (∀ h rest target, (s.slot i).PerformsHead h rest target →
        ∃ t, exec (.driveAlertSelfUnload i) s = .next t
          ∧ s.PerformedOn t i .spun s.now h rest target ∧ reported t))
    ∧ ((s.slot i).ctx.state ≠ .loaded → (s.slot i).ctx.state ≠ .loading →
        (s.slot i).ctx.state ≠ .unloading → exec (.driveAlertSelfUnload i) s = .next s)

/-! ## The lines -/

/-- PRESENT: its deassertion takes a seated slot to EMPTY at once, everything of the slot dropped, its
commands answered SLOT_EMPTY, and SLOT_REMOVED submitted, the one entry; from FAULT this is activity of the
slot, as its leaving of FAULT (log entry 23); its assertion in an enabled EMPTY slot starts the debounce, and
in any other records the level and no more; and the end of the debounce, 500 ms later, takes a slot that the
profile enables to OFF, or to FAULT with POWER_TRIP under a set latch, while one that it disables stays in
EMPTY, with its new slot map entry and nothing else changed (R5, R23 to R27, R117). The end of a
debounce moves the time up to it (log entry 2), and a change of a line is taken whatever its level was (log
entry 8). -/
def Obligations.PresentSeatsAndRemoves : Prop :=
  ∀ (s : State) (i : SlotId), s.Calm →
    ((s.slot i).ctx.state ≠ .empty →
      ∃ t, exec (.presentDeasserted i) s = .next t
        ∧ (t.slot i).ctx.state = .empty ∧ t.powerEnable i = false ∧ (t.slot i).charge = 0
        ∧ (t.slot i).port = Port.reset ∧ (t.slot i).pass = (s.slot i).pass.emptied
        ∧ (t.slot i).notice = true ∧ (t.slot i).presentLine = false
        ∧ (t.slot i).record
          = recordAfter (s.slot i).record .slotRemoved none (s.slot i).ctx.state s.motion.state
              (s.slot i).pass.hold.length none
        ∧ s.AllAnswered t i 0x41 .empty
        ∧ ((s.slot i).ctx.state = .fault → (t.slot i).ctx.lastActivity = s.now)
        ∧ t.now = s.now)
    ∧ ((s.slot i).ctx.state = .empty →
        exec (.presentDeasserted i) s
          = .next (s.modSlot i (fun x =>
              { x with presentLine := false, ctx := { x.ctx with presentDebounce := none } })))
    ∧ ((s.slot i).ctx.state = .empty → (s.slot i).ctx.map.enabled = true →
        exec (.presentAsserted i) s
          = .next (s.modSlot i (fun x =>
              { x with
                presentLine := true, ctx := { x.ctx with presentDebounce := some s.now } })))
    ∧ ((s.slot i).ctx.state ≠ .empty ∨ (s.slot i).ctx.map.enabled = false →
        exec (.presentAsserted i) s = .next (s.modSlot i (fun x => { x with presentLine := true })))
    ∧ (∀ t0, (s.slot i).ctx.state = .empty → (s.slot i).ctx.map.enabled = true →
        (s.slot i).ctx.presentDebounce = some t0 → (s.profile.slots[i]).enabled = true →
        ∃ t, exec (.presentDebounceComplete i) s = .next t ∧ t.now = max s.now (t0 + 500)
          ∧ (t.slot i).ctx.state = (if (s.slot i).ctx.latch then .fault else .off)
          ∧ (t.slot i).ctx.presentDebounce = none ∧ (t.slot i).ctx.map = s.profile.slots[i]
          ∧ ((s.slot i).ctx.latch = true → (t.slot i).notice = true
              ∧ (t.slot i).record
                = recordAfter (s.slot i).record .powerTrip none .empty s.motion.state
                    (s.slot i).pass.hold.length none)
          ∧ s.RestKept t)
    ∧ (∀ t0, (s.slot i).ctx.state = .empty → (s.slot i).ctx.presentDebounce = some t0 →
        (s.profile.slots[i]).enabled = false →
        ∃ t, exec (.presentDebounceComplete i) s = .next t ∧ t.now = max s.now (t0 + 500)
          ∧ t.slot i
            = { s.slot i with
                ctx :=
                  { (s.slot i).ctx with map := s.profile.slots[i], presentDebounce := none } }
          ∧ s.OthersKept i t ∧ t.ctrl = s.ctrl ∧ s.RestKept t)

/-- POWER_FAULT: its assertion sets the latch and takes a powered or OFF slot to FAULT with POWER_TRIP,
submits POWER_TRIP in FAULT and does no more in EMPTY; its deassertion clears the latch in FAULT and
EMPTY and does nothing else in any state. A slot that its entry of the profile disables goes from FAULT on to
EMPTY at once, its commands answered SLOT_FAULT and POWER_TRIP the one entry, which as a leaving of FAULT is
activity of the slot (log entry 23; R5, R21, R25, R117). A change of the line is taken whatever its level was
(log entry 8). -/
def Obligations.PowerFaultTrips : Prop :=
  ∀ (s : State) (i : SlotId), s.Calm →
    ((s.slot i).ctx.state ≠ .fault → (s.slot i).ctx.state ≠ .empty →
      ∃ t, exec (.powerFaultAsserted i) s = .next t ∧ s.FaultedWith t i .powerTrip
        ∧ (t.slot i).ctx.latch = true ∧ (t.slot i).powerFaultLine = true ∧ s.RestKept t)
    ∧ ((s.slot i).ctx.state = .fault →
        exec (.powerFaultAsserted i) s
          = .next ((s.modSlot i (fun x =>
              { x with powerFaultLine := true, ctx := { x.ctx with latch := true } })).submit i
              .powerTrip none none .fault (s.slot i).pass.hold.length))
    ∧ ((s.slot i).ctx.state = .empty →
        exec (.powerFaultAsserted i) s
          = .next (s.modSlot i (fun x =>
              { x with powerFaultLine := true, ctx := { x.ctx with latch := true } })))
    ∧ exec (.powerFaultDeasserted i) s
        = .next (s.modSlot i (fun x =>
            { x with
              powerFaultLine := false
              ctx :=
                { x.ctx with
                  latch :=
                    if x.ctx.state = .fault ∨ x.ctx.state = .empty then false else x.ctx.latch } }))

/-- DOCK: a change away from the recognized value starts the debounce afresh and a return drops it; its
end, 100 ms later, recognizes the level of the line and selects the budgets by it. From a state whose
admission queue is in order, a bank is then in OVERDRAW exactly where its sum exceeds its new budget, and a
bank that exceeded it sheds: its candidates, SPUN ahead of IDLE, the earlier last activity first and then
the lower slot, are given an order, to STOPPING or OFF, while the projected sum exceeds the budget, and no
other slot is lowered (R30, R31, R44 to R48). The end of the debounce moves the time up to it (log entry
2), and a change of the line is taken whatever its level was, a running debounce started again (log entry
8). -/
def Obligations.DockSelectsTheBudgets : Prop :=
  ∀ s : State, s.Calm →
    (∀ level, exec (.dockChange level) s
      = .next
          { s with
            dockLine := level
            admission :=
              { s.admission with
                dockDebounce := if level = s.admission.dock then none else some s.now } })
    ∧ (∀ t0, s.admission.dockDebounce = some t0 →
        ∃ t, exec .dockDebounceComplete s = .next t ∧ t.now = max s.now (t0 + 100)
          ∧ t.admission.dock = s.dockLine ∧ t.admission.dockDebounce = none
          ∧ (∀ b, (t.bank b).budget
              = (if s.dockLine then s.profile.dock[b] else s.profile.battery[b]))
          ∧ (s.QueueOk → s.BudgetsSelected t))

/-- HANDLE: a change away from the recognized value starts the debounce and a return drops it. The
recognition of an asserted handle sets the lock, takes every LOADED and LOADING slot to UNLOADING without
touching its emergency mark (from a state whose admission queue is in order), leaves no held command
above the park level and starts the transit timer; a command above it that is held alone, at a slot
below its level or behind a fence, is completed IN_TRANSIT with the full count and its COMMAND entry,
from UNLOADING where the slot was loaded; that of a deasserted one clears the lock, the timer and the
lowering phase (R86 to R88, R92). Of any other slot the state captured in the entry is left open. The end of
the debounce moves the time up to it (log entry 2), and a change of the line is taken whatever its level
was, a running debounce started again (log entry 8). -/
def Obligations.HandleLocksAndReleases : Prop :=
  ∀ s : State, s.Calm →
    (∀ level, exec (.handleChange level) s
      = .next
          { s with
            handleLine := level
            park :=
              { s.park with
                handleDebounce := if level = s.park.handle then none else some s.now } })
    ∧ (∀ t0, s.park.handleDebounce = some t0 → s.handleLine = true →
        ∃ t, exec .handleDebounceComplete s = .next t ∧ t.now = max s.now (t0 + 100)
          ∧ t.lock = true ∧ t.park.handleDebounce = none ∧ t.park.lowering = false
          ∧ t.park.transitTimer = some (max s.now (t0 + 100) + s.profile.transitMs)
          ∧ ∀ i, (s.QueueOk → (s.slot i).ctx.state = .loaded ∨ (s.slot i).ctx.state = .loading →
                s.CameTo t i .unloading t.now
                  ∧ (t.slot i).ctx.emergency = (s.slot i).ctx.emergency
                  ∧ (t.slot i).requeues = (s.slot i).requeues)
              ∧ (∀ e ∈ (t.slot i).pass.hold, e.cmd.op.above s.profile.parkLevel = false)
              ∧ ∀ e l, (s.slot i).pass.hold = [e] → e.cmd.op.need = some l →
                  s.profile.parkLevel.rank < l.rank → e.cmd.args.slot = fieldOfSlot i →
                  (s.slot i).ctx.state.holds l = false ∨ (s.slot i).fence = true →
                  ∃ st, (s.QueueOk →
                        (s.slot i).ctx.state = .loaded ∨ (s.slot i).ctx.state = .loading →
                        st = .unloading)
                    ∧ (t.slot i).pass.hold = []
                    ∧ (t.slot i).record
                      = recordAfter (s.slot i).record .inTransit (some e.cmd.args.tag) st
                          s.motion.state 0 none
                    ∧ (s.ctrl.sending ≠ none → ∃ rest, (t.slot i).upstream
                        = (s.slot i).upstream ++
                          [interposerAnswer e.cmd 0x45 (fullCount e.cmd.args) st 0] ++ rest))
    ∧ (∀ t0, s.park.handleDebounce = some t0 → s.handleLine = false →
        exec .handleDebounceComplete s
          = .next
              (State.scan
                { s with
                  now := max s.now (t0 + 100)
                  park :=
                    { handle := false, handleDebounce := none, transitTimer := none,
                      lowering := false } }))

/-- A rising edge of RELOAD starts a reload read with its limit where the loader is idle, and sets the
reload-again mark during a read; nothing else changes (R163, R170). -/
def Obligations.ReloadEdgesStartOrMark : Prop :=
  ∀ s : State, s.Calm →
    exec .reloadEdge s
      = .next
          { s with
            loader :=
              if s.loader.readState = .idle then
                { s.loader with readState := .reloadRead, readLimit := some (s.now + 100) }
              else { s.loader with again := true } }

/-! ## The motion monitor -/

/-- The edges and the silence of the sensor: data-ready restarts the loss timer and starts a read, and in
SENSOR_LOST brings the monitor back to SETTLING, unseeded, with a fresh window; SHOCK_TEST sets the pending
mark; the loss timer's expiry takes the monitor to SENSOR_LOST with its baselines, accumulator, tally and
window kept (R53, R54, R72 to R74). Both changes of motion state are handed on: the unload orders of the new
state's row, no slot marked, and the device notice as the edge policies of the former and the new state ask,
stated from a state whose admission queue is in order (R80 to R82, R148). An expiry moves the time up to it,
and one of an absent timer does nothing (log entry 2). -/
def Obligations.SensorEdgesAndLoss : Prop :=
  ∀ s : State, s.Calm →
    exec .shockTestEdge s = .next { s with motion := { s.motion with shockPending := true } }
    ∧ (s.motion.state ≠ .sensorLost →
        exec .dataReadyEdge s
          = .next
              { s with
                motion := { s.motion with lossTimer := some (s.now + 10), reading := true } })
    ∧ (s.motion.state = .sensorLost →
        ∃ t, exec .dataReadyEdge s = .next t
          ∧ t.motion
            = { s.motion with
                state := .settling, seeded := false, window := 0, tally := 0, tLast := 0,
                settle := 0, quiet := 0, lossTimer := some (s.now + 10), reading := true }
          ∧ (s.QueueOk → s.MotionHandedOn t .settling))
    ∧ (∀ t0, s.motion.lossTimer = some t0 →
        ∃ t, exec .lossTimerExpiry s = .next t ∧ t.now = max s.now t0
          ∧ t.motion
            = { s.motion with state := .sensorLost, settle := 0, quiet := 0, lossTimer := none }
          ∧ (s.motion.state ≠ .sensorLost → s.QueueOk → s.MotionHandedOn t .sensorLost))
    ∧ (s.motion.lossTimer = none → exec .lossTimerExpiry s = .next s)

/-- A completed read gives one sample of its three readings, each the low 12 bits of its value
sign-extended: the monitor takes the nine steps on them, the read is over, and a sample that changes no
motion state changes nothing else of the part. In SENSOR_LOST no sample is processed (R53, R56, R66,
R72). A sample is taken whether or not a read is in progress (log entry 7). -/
def Obligations.SamplesAreProcessed : Prop :=
  ∀ (s : State) (x y z : BitVec 16), s.Calm →
    (s.motion.state = .sensorLost → exec (.sample x y z) s = .next s)
    ∧ (s.motion.state ≠ .sensorLost →
        ∃ t, exec (.sample x y z) s = .next t
          ∧ t.motion
            = { Motion.sample s.profile.motion (x.setWidth 12).toInt (y.setWidth 12).toInt
                  (z.setWidth 12).toInt s.motion with reading := false }
          ∧ (t.motion.state = s.motion.state → t = { s with motion := t.motion }))

/-- The arithmetic of a sample: the score is the sum of the deviations' magnitudes from the baselines, or 0 on
the seeding sample, limited to 4095 and forced there by a shock test; the accumulator loses one part in 2^kv
and gains the score; a score of Tjolt or more is a jolt, which leaves the monitor in JOLT with its counts at 0
and its baselines as they were; any other sample outside JOLT closes one part in 2^kb of each baseline's gap,
rounded toward minus infinity, or, seeding, leaves each at 256 times its reading, and short of the end of its
window keeps the motion state and both counts; and any other sample in JOLT counts towards settling where the
vibration level is below Tsettle, which is that of the new accumulator limited to 4095, starts the count again
where it is not, and at a count of Dsettle leaves JOLT for TILTED, ROLLING or STILL by the first test that
holds, its baselines as they were (R56 to R65, R71). -/
def Obligations.SampleArithmetic : Prop :=
  ∀ (p : MotionParams) (m : Motion) (x y z : Int), 1 ≤ p.dsettle →
    let gx := if m.seeded then m.gx else 256 * x
    let gy := if m.seeded then m.gy else 256 * y
    let gz := if m.seeded then m.gz else 256 * z
    let j := if m.shockPending then 4095
      else min 4095 ((x - gx / 256).natAbs + (y - gy / 256).natAbs + (z - gz / 256).natAbs)
    let m' := Motion.sample p x y z m
    m'.acc = m.acc - m.acc / 2 ^ p.kv + j ∧ m'.seeded = true ∧ m'.shockPending = false
      ∧ (m.seeded = false → m.shockPending = false → j = 0)
      ∧ (p.tjolt ≤ j → m'.state = .jolt ∧ m'.settle = 0 ∧ m'.quiet = 0
          ∧ m'.gx = gx ∧ m'.gy = gy ∧ m'.gz = gz)
      ∧ (j < p.tjolt → m.state ≠ .jolt → m.seeded = true →
          m'.gx = gx + (256 * x - gx) / 2 ^ p.kb ∧ m'.gy = gy + (256 * y - gy) / 2 ^ p.kb
            ∧ m'.gz = gz + (256 * z - gz) / 2 ^ p.kb)
      ∧ (j < p.tjolt → m.state ≠ .jolt → m.seeded = false →
          m'.gx = 256 * x ∧ m'.gy = 256 * y ∧ m'.gz = 256 * z)
      ∧ (j < p.tjolt → m.state ≠ .jolt → m.window + 1 < 800 →
          m'.state = m.state ∧ m'.settle = m.settle ∧ m'.quiet = m.quiet)
      ∧ (j < p.tjolt → m.state = .jolt →
          let v := min 4095 (m'.acc / 2 ^ p.kv)
          let n := if v < p.tsettle then m.settle + 1 else 0
          m'.gx = gx ∧ m'.gy = gy ∧ m'.gz = gz
            ∧ (n < p.dsettle → m'.state = .jolt ∧ m'.settle = n)
            ∧ (p.dsettle ≤ n → m'.settle = 0 ∧ m'.quiet = 0
                ∧ m'.state
                  = (if gz / 256 < p.ttilt then .tilted
                     else if p.nroll ≤ m'.tLast then .rolling else .still)))
      ∧ (m.window + 1 < 800 → m'.window = m.window + 1 ∧ m'.tLast = m.tLast
          ∧ m'.tally = (if p.troll ≤ j then m.tally + 1 else m.tally))
      ∧ (m.window + 1 = 800 → m'.window = 0 ∧ m'.tally = 0
          ∧ m'.tLast = (if p.troll ≤ j then m.tally + 1 else m.tally))

/-- The window-end evaluation of each motion state: SETTLING is left for TILTED, ROLLING or STILL by the
first test that holds; STILL is left by the same tests; ROLLING is left for TILTED, or for STILL at the
Wquiet-th quiet window in a row; TILTED is left only at Ttilt + Htilt or above (R67 to R70). The sample
at window position 799, no jolt and outside JOLT, makes that evaluation of the present state with the
tally it completes and the g_z that it found (R56, R58, R61, R64). -/
def Obligations.WindowEndEvaluates : Prop :=
  (∀ (p : MotionParams) (x y z : Int) (m : Motion), m.window = 799 → m.state ≠ .jolt →
    let gz := (if m.seeded then m.gz else 256 * z) / 256
    let j := (m.seed x y z).score x y z
    let tally := if p.troll ≤ j then m.tally + 1 else m.tally
    let m' := Motion.sample p x y z m
    j < p.tjolt →
      m'.tLast = tally ∧ m'.window = 0 ∧ m'.tally = 0
        ∧ (m.state = .settling ∨ m.state = .still → m'.state
          = (if gz < p.ttilt then .tilted else if p.nroll ≤ tally then .rolling else .still))
        ∧ (m.state = .rolling →
            (gz < p.ttilt → m'.state = .tilted)
            ∧ (p.ttilt ≤ gz → tally < p.nroll →
                (p.wquiet ≤ m.quiet + 1 → m'.state = .still ∧ m'.quiet = 0)
                ∧ (m.quiet + 1 < p.wquiet → m'.state = .rolling ∧ m'.quiet = m.quiet + 1))
            ∧ (p.ttilt ≤ gz → p.nroll ≤ tally → m'.state = .rolling ∧ m'.quiet = 0))
        ∧ (m.state = .tilted → m'.state
          = (if p.ttilt + p.htilt ≤ gz then (if p.nroll ≤ tally then .rolling else .still)
             else .tilted)))
  ∧ ∀ (p : MotionParams) (gz : Int) (m : Motion),
    (m.state = .settling → (Motion.evaluate p gz m).state
      = (if gz < p.ttilt then .tilted else if p.nroll ≤ m.tLast then .rolling else .still))
    ∧ (m.state = .still → (Motion.evaluate p gz m).state
      = (if gz < p.ttilt then .tilted else if p.nroll ≤ m.tLast then .rolling else .still))
    ∧ (m.state = .rolling →
        (gz < p.ttilt → (Motion.evaluate p gz m).state = .tilted)
        ∧ (p.ttilt ≤ gz → m.tLast < p.nroll →
            (p.wquiet ≤ m.quiet + 1 → (Motion.evaluate p gz m).state = .still)
            ∧ (m.quiet + 1 < p.wquiet → (Motion.evaluate p gz m).state = .rolling
                ∧ (Motion.evaluate p gz m).quiet = m.quiet + 1))
        ∧ (p.ttilt ≤ gz → p.nroll ≤ m.tLast → (Motion.evaluate p gz m).state = .rolling
            ∧ (Motion.evaluate p gz m).quiet = 0))
    ∧ (m.state = .tilted → (Motion.evaluate p gz m).state
        = (if p.ttilt + p.htilt ≤ gz then (if p.nroll ≤ m.tLast then .rolling else .still)
           else .tilted))

/-- An entry into JOLT takes every LOADED and LOADING slot to UNLOADING, marked emergency with a requeue
count of 0, and marks no other slot; it raises the device notice with cause MOTION where JOLT's edge
policy is not NONE. A sample's change into any other motion state with unload on entry in its permit row
takes them to UNLOADING without a mark, one into a state without it leaves them, and the device notice is
raised exactly where the new state's policy is ENTRY or ENTRY_AND_EXIT or the former state's is
ENTRY_AND_EXIT (R61, R78, R80 to R82, R148). Stated from a state whose admission queue is in order. -/
def Obligations.JoltUnloadsEverySlot : Prop :=
  ∀ (s t : State) (x y z : BitVec 16) (new : MotionSt), s.Calm → s.QueueOk →
    s.motion.state ≠ .sensorLost → s.motion.state ≠ new →
    (Motion.sample s.profile.motion (x.setWidth 12).toInt (y.setWidth 12).toInt
      (z.setWidth 12).toInt s.motion).state = new →
    exec (.sample x y z) s = .next t →
    s.MotionHandedOn t new
    ∧ (new = .jolt →
      (∀ i, ((s.slot i).ctx.state = .loaded ∨ (s.slot i).ctx.state = .loading →
            (t.slot i).ctx.state = .unloading ∧ (t.slot i).ctx.emergency = true
              ∧ (t.slot i).requeues = 0)
          ∧ ((s.slot i).ctx.state ≠ .loaded → (s.slot i).ctx.state ≠ .loading →
              (t.slot i).ctx.emergency = true → (s.slot i).ctx.emergency = true))
        ∧ (s.profile.edges.jolt ≠ .none → t.ctrl.deviceNotice = true ∧ t.ctrl.causeMotion = true))

/-! ## Timers -/

/-- The step deadlines that end in FAULT: power in POWERING with POWER_TIMEOUT, unload in UNLOADING with
UNLOAD_FAILED, stop in STOPPING with STOP_TIMEOUT; and load in LOADING at the retry limit with LOAD_FAILED,
as the drive's FAILED to the outstanding LOAD does there. The slot's commands are answered SLOT_FAULT (R11,
R15 to R17, R25, R117), and one that its entry of the profile disables goes on to EMPTY (R5), which as a leaving
of FAULT is activity of the slot (log entry 23). An expiry moves the time up to it (log entry 2). -/
def Obligations.DeadlinesLeadToFault : Prop :=
  ∀ (s : State) (i : SlotId) (t0 : Nat), s.Calm → (s.slot i).ctx.stepDeadline = some t0 →
    ((s.slot i).ctx.state = .powering →
      ∃ t, exec (.powerDeadlineExpiry i) s = .next t ∧ s.FaultedWith t i .powerTimeout
        ∧ t.now = max s.now t0 ∧ s.RestKept t)
    ∧ ((s.slot i).ctx.state = .unloading →
      ∃ t, exec (.unloadDeadlineExpiry i) s = .next t ∧ s.FaultedWith t i .unloadFailed
        ∧ t.now = max s.now t0 ∧ s.RestKept t)
    ∧ ((s.slot i).ctx.state = .stopping →
      ∃ t, exec (.stopDeadlineExpiry i) s = .next t ∧ s.FaultedWith t i .stopTimeout
        ∧ t.now = max s.now t0 ∧ s.RestKept t)
    ∧ (∀ c time, s.LoadFailsBy i c time → s.profile.retryLimit ≤ (s.slot i).ctx.retry →
      ∃ t, exec c s = .next t ∧ s.FaultedWith t i .loadFailed ∧ t.now = time ∧ s.RestKept t)

/-- The step deadlines that are retried: the spin deadline takes SPINNING_UP to a marked STOPPING, last
failure TIMEOUT, retry count kept, its stop deadline running; the load deadline, and the drive's FAILED to the
outstanding LOAD, below the retry limit take LOADING back to SPUN, with a retry count of 0 where the demand
has gone, where a lowering entry in progress at the head is served on as at any coming to SPUN (R110), and
with one more retry and a LOAD entry that keeps the count, granted or not, where the demand is still LOADED. A
marked STOPPING that a report of spindle STOPPED and fault NONE, whatever its other bits, takes to IDLE loses
its mark: below the limit with a demand of SPUN or more it has one more retry and a SPIN entry that keeps the
count, granted or not; with no work left its count is 0; and at the limit it enters FAULT with SPIN_TIMEOUT or
SPIN_REFUSED, captured in IDLE (log entry 16), its commands answered SLOT_FAULT, from where a slot that its
entry of the profile disables goes on to EMPTY, an activity of the slot (R5; log entry 23). Stated with no
lowering phase (R9, R10, R12 to R15, R17, R25, R32, R117, R175). An expiry moves the time up to it (log entry
2). -/
def Obligations.DeadlinesThatAreRetried : Prop :=
  (∀ (s : State) (i : SlotId) (t0 : Nat), s.Calm → (s.slot i).ctx.stepDeadline = some t0 →
    ((s.slot i).ctx.state = .spinningUp →
      ∃ t, exec (.spinDeadlineExpiry i) s = .next t
        ∧ s.CameTo t i .stopping (max s.now t0) ∧ (t.slot i).ctx.spinMark = true
        ∧ (t.slot i).ctx.lastFail = .timeout ∧ (t.slot i).ctx.retry = (s.slot i).ctx.retry
        ∧ (t.slot i).ctx.outstanding = .stop
        ∧ (t.slot i).ctx.stepDeadline
          = some (max s.now t0 + ((s.slot i).classIn s.profile).stopMs)
        ∧ t.now = max s.now t0 ∧ s.RestKept t)
    ∧ (∀ c time, s.LoadFailsBy i c time → (s.slot i).ctx.retry < s.profile.retryLimit →
        (s.slot i).pass.demand ≠ some .loaded → (s.slot i).pass.hold = [] →
        s.park.lowering = false → ((s.slot i).pass.flight = [] → s.overdrawn i = false) →
        ∃ t, exec c s = .next t
          ∧ s.CameTo t i .spun time ∧ (t.slot i).ctx.retry = 0
          ∧ (t.slot i).ctx.outstanding = .none ∧ (t.slot i).ctx.stepDeadline = none
          ∧ t.now = time ∧ s.RestKept t)
    ∧ (∀ c time h rest target, s.LoadFailsBy i c time →
        (s.slot i).ctx.retry < s.profile.retryLimit → (s.slot i).pass.demand ≠ some .loaded →
        (s.slot i).PerformsHead h rest target →
        ∃ t, exec c s = .next t
          ∧ s.PerformedOn t i .spun time h rest target ∧ (t.slot i).ctx.retry = 0
          ∧ t.now = time ∧ s.RestKept t)
    ∧ (∀ c time, s.LoadFailsBy i c time → (s.slot i).ctx.retry < s.profile.retryLimit →
        (s.slot i).pass.demand = some .loaded → demandOf (s.slot i).pass.hold = some .loaded →
        s.park.lowering = false →
        ∃ t, exec c s = .next t
          ∧ (t.slot i).ctx.retry = (s.slot i).ctx.retry + 1
          ∧ (t.slot i).pass = (s.slot i).pass
          ∧ (((t.slot i).ctx.state = .spun ∧ (t.slot i).ctx.outstanding = .none
                ∧ (t.slot i).ctx.stepDeadline = none
                ∧ { slot := i, kind := .load, bank := (s.slot i).ctx.map.bank, retried := true }
                    ∈ t.admission.queue)
              ∨ ((t.slot i).ctx.state = .loading ∧ (t.slot i).ctx.outstanding = .load
                ∧ (t.slot i).ctx.stepDeadline
                  = some (time + ((s.slot i).classIn s.profile).loadMs)
                ∧ ∀ e ∈ t.admission.queue, e.slot ≠ i))
          ∧ t.now = time ∧ s.RestKept t))
  ∧ (∀ (s : State) (i : SlotId) (report : Byte), s.DriveReady i →
      report.extractLsb' 4 2 = 0 → report.extractLsb' 0 2 = 0 → (s.slot i).ctx.state = .stopping →
      (s.slot i).ctx.spinMark = true → s.park.lowering = false →
      ((s.slot i).ctx.retry < s.profile.retryLimit →
        (s.slot i).pass.demand = demandOf (s.slot i).pass.hold →
        (s.slot i).pass.demand = some .spun ∨ (s.slot i).pass.demand = some .loaded →
        ∃ t, exec (.stateReply i report) s = .next t
          ∧ (t.slot i).ctx.spinMark = false
          ∧ (t.slot i).ctx.retry = (s.slot i).ctx.retry + 1
          ∧ (t.slot i).pass = (s.slot i).pass
          ∧ (((t.slot i).ctx.state = .idle ∧ (t.slot i).ctx.outstanding = .none
                ∧ { slot := i, kind := .spin, bank := (s.slot i).ctx.map.bank, retried := true }
                    ∈ t.admission.queue)
              ∨ ((t.slot i).ctx.state = .spinningUp ∧ (t.slot i).ctx.outstanding = .spin
                ∧ (t.slot i).ctx.stepDeadline
                  = some (s.now + ((s.slot i).classIn s.profile).spinMs)
                ∧ ∀ e ∈ t.admission.queue, e.slot ≠ i))
          ∧ t.now = s.now ∧ s.RestKept t)
      ∧ ((s.slot i).ctx.retry < s.profile.retryLimit → (s.slot i).pass.demand = none →
          (s.slot i).pass.hold = [] → ((s.slot i).pass.flight = [] → s.overdrawn i = false) →
          ∃ t, exec (.stateReply i report) s = .next t
            ∧ s.CameTo t i .idle s.now ∧ (t.slot i).ctx.spinMark = false
            ∧ (t.slot i).ctx.retry = 0 ∧ (∀ e ∈ t.admission.queue, e.slot ≠ i)
            ∧ t.now = s.now ∧ s.RestKept t)
      ∧ (s.profile.retryLimit ≤ (s.slot i).ctx.retry →
          ∃ t, exec (.stateReply i report) s = .next t
            ∧ (s.modCtx i (fun c => { c with state := .idle })).FaultedWith t i
                (match (s.slot i).ctx.lastFail with
                  | .timeout => .spinTimeout
                  | .refused => .spinRefused)
            ∧ t.now = s.now ∧ s.RestKept t))

/-- The QUERY schedule: an expiry that loses no drive hands over a QUERY, makes query pending yes and
restarts the schedule from its full interval, the counts risen outside POWERING; the third missed QUERY
and the third cancel miss take the slot to FAULT with LINK_LOST, its commands answered SLOT_FAULT; one that its
entry of the profile disables goes on to EMPTY, which as a leaving of FAULT is activity of the slot (log entry
23; R5, R9, R25, R117, R136, R139). An expiry moves the time up to
it (log entry 2), and both counts are counted at the same expiry (log entry 26). -/
def Obligations.QueriesAreCounted : Prop :=
  ∀ (s : State) (i : SlotId) (q : QuerySchedule), s.Calm → (s.slot i).port.query = some q →
    (((s.slot i).ctx.state = .powering ∨
        ((s.slot i).ctx.queryPending = true → (s.slot i).ctx.missed < 2)
          ∧ ((s.slot i).port.cancelPending = true → (s.slot i).port.cancelMiss < 2)) →
      ∃ t, exec (.queryScheduleExpiry i) s = .next t
        ∧ t.now = max s.now q.expiry ∧ (t.slot i).ctx.state = (s.slot i).ctx.state
        ∧ (t.slot i).ctx.queryPending = true
        ∧ (t.slot i).port.query
          = some { expiry := max s.now q.expiry + q.interval, interval := q.interval }
        ∧ (t.slot i).ctx.missed
          = (if (s.slot i).ctx.queryPending && (s.slot i).ctx.state != .powering then
               (s.slot i).ctx.missed + 1 else (s.slot i).ctx.missed)
        ∧ (t.slot i).port.cancelMiss
          = (if (s.slot i).port.cancelPending && (s.slot i).ctx.state != .powering then
               (s.slot i).port.cancelMiss + 1 else (s.slot i).port.cancelMiss)
        ∧ ((t.slot i).port.sending = some (.control .query) ∨ .query ∈ (t.slot i).port.control)
        ∧ s.OthersKept i t ∧ t.ctrl = s.ctrl ∧ t.admission = s.admission ∧ s.RestKept t)
    ∧ ((s.slot i).ctx.state.powered = true → (s.slot i).ctx.state ≠ .powering →
        ((s.slot i).ctx.queryPending = true ∧ (s.slot i).ctx.missed = 2)
          ∨ ((s.slot i).port.cancelPending = true ∧ (s.slot i).port.cancelMiss = 2) →
        ∃ t, exec (.queryScheduleExpiry i) s = .next t ∧ s.FaultedWith t i .linkLost
          ∧ t.now = max s.now q.expiry ∧ s.RestKept t)

/-- The idle timer's expiry lowers its slot one level: LOADED to UNLOADING, SPUN to STOPPING, and IDLE to OFF,
where each ABORT still listed is completed OK by the part, in order, with no sense entry; the charge and the
QUERY schedule are those of the state below. A slot that its entry of the profile disables goes from OFF on to
EMPTY, with no sense entry, its listed ABORTs completed OK before (log entry 39; R5, R7, R9, R25, R28, R32,
R120). Stated with nothing held or in flight. An expiry moves the time up to it (log entry 2). -/
def Obligations.IdleDecayLowers : Prop :=
  ∀ (s : State) (i : SlotId) (t0 : Nat), s.Calm → (s.slot i).ctx.idleTimer = some t0 →
    (s.slot i).pass.hold = [] → (s.slot i).pass.flight = [] →
    ∃ t, exec (.idleTimerExpiry i) s = .next t ∧ t.now = max s.now t0 ∧ s.RestKept t
      ∧ ((s.slot i).ctx.state = .loaded →
          s.CameTo t i .unloading (max s.now t0) ∧ (t.slot i).ctx.outstanding = .unload
            ∧ (t.slot i).ctx.idleTimer = none
            ∧ (t.slot i).ctx.stepDeadline
              = some (max s.now t0 + ((s.slot i).classIn s.profile).unloadMs))
      ∧ ((s.slot i).ctx.state = .spun →
          s.CameTo t i .stopping (max s.now t0) ∧ (t.slot i).ctx.outstanding = .stop
            ∧ (t.slot i).ctx.idleTimer = none
            ∧ (t.slot i).ctx.stepDeadline
              = some (max s.now t0 + ((s.slot i).classIn s.profile).stopMs))
      ∧ ((s.slot i).ctx.state = .idle →
          (t.slot i).ctx.state = (if (s.profile.slots[i]).enabled then .off else .empty)
            ∧ (t.slot i).charge = 0 ∧ (t.slot i).port = Port.reset
            ∧ (t.slot i).ctx.idleTimer = none ∧ t.powerEnable i = false
            ∧ (t.slot i).pass.aborts = [] ∧ (t.slot i).record = (s.slot i).record
            ∧ (s.ctrl.sending ≠ none →
                (∀ a ∈ (s.slot i).pass.aborts, a.args.slot = fieldOfSlot i) →
                (t.slot i).upstream
                  = (s.slot i).upstream ++
                    (s.slot i).pass.aborts.map (fun a => interposerAnswer a 0x00 0 .off 0)))

/-- A stagger timer's expiry makes it absent and starts a scan, which grants an entry that is permitted, in a
bank not in OVERDRAW, that fits and, a SPIN entry, passes the spin limits; the grant takes the slot into the
state of the step with its deadline, charge and QUERY schedule. A deferred entry, and one of a bank in
OVERDRAW, marks nothing; one that does not fit holds back a later entry of its bank; a SPIN entry stopped by
the spin limits, or a SPIN grant with a stagger gap, holds back a later SPIN entry of its bank alone; stated
for queues of one and of two entries, at most one of them granted (R6, R9, R14, R34, R39 to R42, R79). That a
grant keeps the retry count for an entry marked as placed by a retry decision, and sets it to 0 for any other,
is the model's reading (log entry 10). The transit timer's expiry with the lock standing makes it absent,
begins the lowering phase, leaves no slot that park control would still lower, and, from a state whose
admission queue is in order, sends every SPUN slot to STOPPING where the park level is IDLE or OFF (R90, R91).
An expiry moves the time up to it (log entry 2). -/
def Obligations.StaggerAndTransitTimers : Prop :=
  ∀ s : State, s.Calm →
    (∀ (b : BankId) (t0 : Nat), (s.bank b).stagger = some t0 →
      exec (.staggerTimerExpiry b) s
        = .next
            (State.scan
              ({ s with now := max s.now t0 }.modBank b (fun k => { k with stagger := none }))))
    ∧ (∀ (b : BankId) (t0 : Nat), (s.bank b).stagger = some t0 →
        s.loader.readState ≠ .powerOnRead →
        let u := { s with now := max s.now t0 }.modBank b (fun k => { k with stagger := none })
        (∀ e, s.admission.queue = [e] →
          (u.Grantable e → ∃ t, exec (.staggerTimerExpiry b) s = .next t
            ∧ u.GrantedTo t e ∧ t.admission.queue = [])
          ∧ (¬ u.Grantable e → exec (.staggerTimerExpiry b) s = .next u))
        ∧ (∀ e f, s.admission.queue = [e, f] → e.slot ≠ f.slot →
          (¬ u.Permitted e.kind ∨ (u.bank e.bank).overdraw = true →
            (u.Grantable f → ∃ t, exec (.staggerTimerExpiry b) s = .next t
              ∧ u.GrantedTo t f ∧ t.admission.queue = [e])
            ∧ (¬ u.Grantable f → exec (.staggerTimerExpiry b) s = .next u))
          ∧ (u.Permitted e.kind → (u.bank e.bank).overdraw = false → ¬ u.Fits e →
              f.bank = e.bank → exec (.staggerTimerExpiry b) s = .next u)
          ∧ (u.Permitted e.kind → (u.bank e.bank).overdraw = false → u.Fits e → e.kind = .spin →
              ¬ u.SpinFree e.bank → f.bank = e.bank →
              (f.kind = .spin → exec (.staggerTimerExpiry b) s = .next u)
              ∧ (f.kind ≠ .spin → u.Grantable f →
                  ∃ t, exec (.staggerTimerExpiry b) s = .next t
                    ∧ u.GrantedTo t f ∧ t.admission.queue = [e]))
          ∧ (u.Grantable e → e.kind = .spin → f.kind = .spin → f.bank = e.bank →
              s.profile.staggerMs ≠ 0 →
              ∃ t, exec (.staggerTimerExpiry b) s = .next t
                ∧ u.GrantedTo t e ∧ t.admission.queue = [f])))
    ∧ (∀ t0, s.park.transitTimer = some t0 → s.lock = true →
        ∃ t, exec .transitTimerExpiry s = .next t ∧ t.now = max s.now t0
          ∧ t.park = { s.park with transitTimer := none, lowering := true }
          ∧ ∀ i, t.abovePark i = false
            ∧ (s.QueueOk → (s.slot i).ctx.state = .spun →
                s.profile.parkLevel = .idle ∨ s.profile.parkLevel = .off →
                (t.slot i).ctx.state = .stopping))

/-- A hold deadline's expiry removes the entry and completes it HOLD_EXPIRED with the full count, and a
HOLD_EXPIRED entry with its tag reaches the record (R106, R112). An expiry moves the time up to it (log
entry 2). -/
def Obligations.HoldDeadlinesExpire : Prop :=
  ∀ (s : State) (i : SlotId) (tag : Tag) (e : HoldEntry) (t0 : Nat), s.Calm →
    (s.slot i).pass.held? tag = some e → e.deadline = some t0 → e.cmd.args.slot = fieldOfSlot i →
    ∃ t, exec (.holdDeadlineExpiry i tag) s = .next t
      ∧ (t.slot i).pass.held? tag = none
      ∧ (t.slot i).record
        = recordAfter (s.slot i).record .holdExpired (some tag) (s.slot i).ctx.state s.motion.state
            ((s.slot i).pass.hold.filter (fun h => h.cmd.args.tag != tag)).length none
      ∧ (s.ctrl.sending ≠ none → ∃ rest, (t.slot i).upstream
          = (s.slot i).upstream ++
            [interposerAnswer e.cmd 0x46 (fullCount e.cmd.args) (s.slot i).ctx.state
              ((s.slot i).pass.hold.filter (fun h => h.cmd.args.tag != tag)).length] ++ rest)
      ∧ t.now = max s.now t0 ∧ s.RestKept t

/-! ## The profile -/

/-- An image of 192 bytes that passes its check takes effect: the profile that its words give, every field
clamped, is in force, both flags are clear, and the budgets are those of the recognized DOCK value; where the
admission queue was in order, a bank is in OVERDRAW exactly where its sum exceeds its budget, and from a sound
state with no lock it sheds as the projected sums, the candidates and their ranking have it; under the lock no
held entry needs a level above the new park level, and in the lowering phase no slot stands above it; the
loader is idle, or in a reload read where one was marked; and a reload, not the power-on load, raises the
device notice with cause PROFILE. One scan follows the selection, stated for an unlocked part with every slot
unpowered and at most one entry in the queue. Every slot in OFF, EMPTY or FAULT takes its slot map entry, and
one in any other state but IDLE keeps its own: a disabled one in OFF or FAULT is in EMPTY, its commands
answered SLOT_EMPTY, with no sense entry and no notice (the leaving of FAULT is activity: log entry 23); an
enabled FAULT stands; and a slot in EMPTY stays there, its PRESENT debounce dropped under a disabling entry,
and started under one that enables it anew with PRESENT asserted (log entry 13; R5, R26, R31, R44, R93, R117,
R148, R165, R166, R168, R169, R171, R177). -/
def Obligations.PassingImagesTakeEffect : Prop :=
  ∀ (s : State) (image : List Byte), s.Calm → s.loader.readState ≠ .idle → image.length = 192 →
    imageWord image 0 % 256 = 1 →
    ((List.range 96).map (fun n => (image.getD (2 * n) 0).toNat
      + 256 * (image.getD (2 * n + 1) 0).toNat)).sum % 65536 = 0x4E50 →
    (profileOfImage image).OfWords
      (fun n => (image.getD (2 * n) 0).toNat + 256 * (image.getD (2 * n + 1) 0).toNat)
    ∧ ∃ t, exec (.profileReadComplete image) s = .next t
      ∧ t.loader
        = { profile := profileOfImage image
            readState := if s.loader.again then .reloadRead else .idle
            again := false, defaulted := false, rejected := false
            readLimit := if s.loader.again then some (s.now + 100) else none }
      ∧ s.TookEffect t (profileOfImage image) ∧ s.ScannedAfter t (profileOfImage image)
      ∧ (s.loader.readState = .reloadRead →
          t.ctrl.deviceNotice = true ∧ t.ctrl.causeProfile = true)
      ∧ (s.loader.readState = .powerOnRead →
          (t.ctrl.deviceNotice = true → s.ctrl.deviceNotice = true)
          ∧ (t.ctrl.causeProfile = true → s.ctrl.causeProfile = true))
      ∧ t.motion = s.motion ∧ t.park = s.park ∧ t.now = s.now

/-- An image of 192 bytes that fails its check, and the read limit's expiry, end the read: a reload keeps the
profile whole, sets PROFILE_REJECTED and changes nothing else but the device notice; the power-on load keeps
the built-in defaults and sets PROFILE_DEFAULTED; both raise the device notice with cause PROFILE, and a
marked reload starts at once. That after a failed power-on read the profile that stays takes effect by steps 2
to 4 of R169, as one that passes does, is the model's reading (log entry 21): slot maps, which a disabled slot
in OFF or FAULT takes into EMPTY with SLOT_EMPTY and no sense entry (leaving FAULT: log entry 23; a debounce
in EMPTY: log entry 13), park level, the first selection of budgets with its marks and shedding, and the first
scan, stated for an unlocked part with every slot unpowered and at most one entry in the queue (R5, R31, R38,
R93, R117, R163, R164, R168 to R171). The slot maps, the selection and the lock are stated for a profile in
its ranges (R165, R166), which every step keeps. An expiry moves the time up to it (log entry 2). -/
def Obligations.FailedReadsKeepTheProfile : Prop :=
  (∀ (s : State) (image : List Byte), s.Calm → image.length = 192 →
    (imageWord image 0 % 256 ≠ 1 ∨
      ((List.range 96).map (fun n => (image.getD (2 * n) 0).toNat
        + 256 * (image.getD (2 * n + 1) 0).toNat)).sum % 65536 ≠ 0x4E50) →
    (s.loader.readState = .reloadRead →
      exec (.profileReadComplete image) s
        = .next
            { s with
              loader :=
                { s.loader with
                  rejected := true, again := false
                  readState := if s.loader.again then .reloadRead else .idle
                  readLimit := if s.loader.again then some (s.now + 100) else none }
              ctrl := { s.ctrl with deviceNotice := true, causeProfile := true } })
    ∧ (s.loader.readState = .powerOnRead →
        ∃ t, exec (.profileReadComplete image) s = .next t ∧ t.now = s.now
          ∧ t.loader
            = { s.loader with
                defaulted := true, again := false
                readState := if s.loader.again then .reloadRead else .idle
                readLimit := if s.loader.again then some (s.now + 100) else none }
          ∧ t.ctrl.deviceNotice = true ∧ t.ctrl.causeProfile = true
          ∧ (s.profile.Clamped → s.TookEffect t s.profile) ∧ s.ScannedAfter t s.profile))
  ∧ ∀ (s : State) (t0 : Nat), s.Calm → s.loader.readLimit = some t0 →
    (s.loader.readState = .reloadRead →
        exec .readLimitExpiry s
          = .next
              { s with
                now := max s.now t0
                loader :=
                  { s.loader with
                    rejected := true, again := false
                    readState := if s.loader.again then .reloadRead else .idle
                    readLimit := if s.loader.again then some (max s.now t0 + 100) else none }
                ctrl := { s.ctrl with deviceNotice := true, causeProfile := true } })
    ∧ (s.loader.readState = .powerOnRead →
        ∃ t, exec .readLimitExpiry s = .next t ∧ t.now = max s.now t0
          ∧ t.loader
            = { s.loader with
                defaulted := true, again := false
                readState := if s.loader.again then .reloadRead else .idle
                readLimit := if s.loader.again then some (max s.now t0 + 100) else none }
          ∧ t.ctrl.deviceNotice = true ∧ t.ctrl.causeProfile = true
          ∧ (s.profile.Clamped → s.TookEffect t s.profile) ∧ s.ScannedAfter t s.profile)

/-! ## The arbiters -/

/-- The drive link arbiter at the end of a frame: the head of the control source begins if there is one,
else that of the command source, else that of the data source; and an UNLOAD handed over goes ahead of
every control frame that waits, any other behind them all (R131 to R133). -/
def Obligations.DriveLinkArbiter : Prop :=
  (∀ (s : State) (i : SlotId) (f : DownFrame), s.Calm → (s.slot i).port.sending = some f →
    exec (.driveFrameSent i) s
      = .next
          (s.modPort i (fun p =>
            match p.control, p.command, p.data with
            | op :: rest, _, _ => { p with control := rest, sending := some (.control op) }
            | [], c :: rest, _ => { p with command := rest, sending := some (.command c) }
            | [], [], d :: rest => { p with data := rest, sending := some (.data d) }
            | [], [], [] => { p with sending := none })))
  ∧ (∀ (p : Port) (f : DownFrame) (op : ControlOp), p.sending = some f →
      Port.handControl op p
        = { p with control := if op = .unload then op :: p.control else p.control ++ [op] })

/-- The upstream arbiter at the end of a frame: with every queue empty the link stays free; else it sends
the head of the first nonempty queue round from the position after the last served, which it becomes. A
COMPLETION takes the transit word of that moment and, where the device notice is set, clears it and both
causes; a data frame leaves them (R145, R146, R149). -/
def Obligations.UpstreamArbiter : Prop :=
  ∀ (s : State) (u : UpSending), s.Calm → s.ctrl.sending = some u →
    ((∀ q, s.upstreamAt q = []) →
      exec .upstreamFrameSent s = .next { s with ctrl := { s.ctrl with sending := none } })
    ∧ (∀ (k : Nat) (f : UpFrame) (rest : List UpFrame), k ≤ 10 →
        (∀ d < k, s.upstreamAt (Fin.ofNat 11 (s.ctrl.lastServed.val + 1 + d)) = []) →
        s.upstreamAt (Fin.ofNat 11 (s.ctrl.lastServed.val + 1 + k)) = f :: rest →
        ∃ t, exec .upstreamFrameSent s = .next t
          ∧ t.ctrl.lastServed = Fin.ofNat 11 (s.ctrl.lastServed.val + 1 + k)
          ∧ t.upstreamAt (Fin.ofNat 11 (s.ctrl.lastServed.val + 1 + k)) = rest
          ∧ (∀ q, q ≠ Fin.ofNat 11 (s.ctrl.lastServed.val + 1 + k) →
              t.upstreamAt q = s.upstreamAt q)
          ∧ (∀ c, f = .completion c →
              t.ctrl.sending = some { frame := f, word := some s.transitWord }
                ∧ t.ctrl.deviceNotice = false
                ∧ (s.ctrl.deviceNotice = true →
                    t.ctrl.causeMotion = false ∧ t.ctrl.causeProfile = false))
          ∧ ((∀ c, f ≠ .completion c) →
              t.ctrl.sending = some { frame := f, word := none }
                ∧ t.ctrl.deviceNotice = s.ctrl.deviceNotice
                ∧ t.ctrl.causeMotion = s.ctrl.causeMotion
                ∧ t.ctrl.causeProfile = s.ctrl.causeProfile)
          ∧ s.RestKept t ∧ t.admission = s.admission)

/-- The fields of the transit word: the motion state in bits 0..2, HANDLE and DOCK recognized in bits 3 and
4, the device notice in 5, some slot notice in 6, PROFILE_DEFAULTED and PROFILE_REJECTED in 7 and 8,
causes MOTION and PROFILE in 9 and 10, and the rest 0 (R146, R176). -/
def Obligations.TransitWordFields : Prop :=
  ∀ s : State,
    (s.transitWord.extractLsb' 0 3).toNat = MotionSt.code s.motion.state
    ∧ s.transitWord.getLsbD 3 = s.park.handle ∧ s.transitWord.getLsbD 4 = s.admission.dock
    ∧ s.transitWord.getLsbD 5 = s.ctrl.deviceNotice
    ∧ (s.transitWord.getLsbD 6 = true ↔ ∃ i, (s.slot i).notice = true)
    ∧ s.transitWord.getLsbD 7 = s.loader.defaulted ∧ s.transitWord.getLsbD 8 = s.loader.rejected
    ∧ s.transitWord.getLsbD 9 = s.ctrl.causeMotion ∧ s.transitWord.getLsbD 10 = s.ctrl.causeProfile
    ∧ s.transitWord.extractLsb' 11 5 = 0

/-! ## Frames as bytes -/

/-- Every frame of the case controller is read back from its bytes, with every field at every value the
layout admits (R173, R174). -/
def Obligations.ControllerFramesRoundTrip : Prop :=
  (∀ (op : Op) (c : CmdArgs), op.wellFormed = true →
    parseCtrl (CtrlFrame.command { op := op, args := c }).bytes = .command { op := op, args := c })
  ∧ (∀ (slot : SlotField) (d : DataBody),
      parseCtrl (CtrlFrame.data slot d).bytes = .data slot d)
  ∧ parseCtrl CtrlFrame.linkReset.bytes = .linkReset

/-- Every frame of a drive is read back from its bytes, with every field at every value the layout admits
(R173, R175). -/
def Obligations.DriveFramesRoundTrip : Prop :=
  ∀ f : DriveFrame, f ≠ .discarded → parseDrive f.bytes = f

/-! ## What every step keeps -/

/-- Every step keeps the profile clamped with its currents in order, the monitor's fields in their ranges
with each count at 0 outside its state, and the transit timer and lowering phase within the lock
(R55, R60, R63, R71, R77, R165, R166). -/
def Obligations.RangesAreKept : Prop :=
  ∀ s t : State, step s = .next t →
    s.profile.Clamped → s.motion.InRange → s.park.Ok →
    t.profile.Clamped ∧ t.motion.InRange ∧ t.park.Ok

/-- Every step keeps the part sound: each slot's outstanding operation, deadline, QUERY schedule and fence
are those of its state, the admission queue has one entry a slot and in its state, an unpowered slot
holds no charge and no frame, the idle timer runs only without work, and a set POWER_FAULT latch stands
in FAULT and EMPTY alone; so that a power enable is on exactly while its slot's state asks for power and
RESET is deasserted. From a sound state it also keeps that a slot in OFF, EMPTY or FAULT works under its entry
of the profile in force, enabled in OFF and FAULT, that a slot in EMPTY or FAULT has no command held, in flight
or listed, and the counts of missed QUERYs and cancel misses below 3 (R5 to R9, R22, R25, R27, R32, R36, R98,
R135, R139, R151). -/
def Obligations.SoundnessIsKept : Prop :=
  (∀ s t : State, step s = .next t → s.Sound → t.Sound)
  ∧ (∀ s : State, s.Sound → ∀ i,
      s.powerEnable i = ((s.slot i).ctx.state.powered && !s.resetAsserted))
  ∧ (∀ s t : State, step s = .next t → s.Sound → s.MapsOk → (∀ i, (s.slot i).Emptied) →
      t.MapsOk ∧ ∀ i, (t.slot i).Emptied)

/-- In JOLT, or with HANDLE recognized, no slot is in LOADING or LOADED: every step keeps it so (R85), from
every state whose slots are controlled. -/
def Obligations.NoHeadsOnMediaUnderShock : Prop :=
  ∀ s t : State, step s = .next t → s.Controlled → s.HeadsOk → t.HeadsOk

/-- The sum of a bank's charges does not exceed its budget unless the bank is in OVERDRAW, and a bank in
OVERDRAW exceeds its budget: every step keeps both so, from every sound state; and while a bank is in OVERDRAW
its sum never increases: where both laws hold, a step that finds and leaves a bank in OVERDRAW leaves its sum
no greater (R33, R44, R45). -/
def Obligations.SumsStayWithinBudgets : Prop :=
  ∀ s t : State, step s = .next t → s.Sound → s.SumsOk →
    t.SumsOk ∧ (s.MarksOk → t.MarksOk
      ∧ ∀ b, (s.bank b).overdraw = true → (t.bank b).overdraw = true → t.bankSum b ≤ s.bankSum b)

/-- No tag names two commands of a slot, held or in flight, or two listed ABORTs: every step keeps it so;
and so a slot has at most eight commands held and in flight (R98, R103, R120). -/
def Obligations.TagsStayDistinct : Prop :=
  (∀ s t : State, step s = .next t → (∀ i, (s.slot i).pass.TagsOk) → ∀ i, (t.slot i).pass.TagsOk)
  ∧ (∀ p : Passage, p.TagsOk → p.hold.length + p.flight.length ≤ 8)

/-- No link stands free while a frame waits to be sent on it, upstream or down to a drive: every step keeps
it so (R132, R145). -/
def Obligations.LinksAreNeverIdleInVain : Prop :=
  ∀ s t : State, step s = .next t → s.Working → t.Working

/-- The state right after reset meets every law the other statements say is kept, at the line levels of log
entry 4. -/
def Obligations.ResetMeetsTheLaws : Prop :=
  State.reset.Sound ∧ State.reset.HeadsOk ∧ State.reset.SumsOk ∧ State.reset.MarksOk
    ∧ State.reset.Working ∧ State.reset.MapsOk ∧ (∀ i, (State.reset.slot i).Emptied)
    ∧ (∀ i, (State.reset.slot i).pass.TagsOk) ∧ State.reset.profile.Clamped
    ∧ State.reset.motion.InRange ∧ State.reset.park.Ok ∧ State.reset.drainOnce = none
end

