-- ==== Sys2Proof/Laws/State.lean ====
section
/-! SUPPORT. The small laws of State: what each named update leaves in each field (true by unfolding, simp), and reading a
slot or a bank after a write. -/

namespace Sys2Proof.Machine

/-! ## Reading after writing -/

@[simp] theorem State.slot_setSlot_self (s : State) (i : SlotId) (x : Slot) :
    (s.setSlot i x).slot i = x := by
  simp [State.setSlot, State.slot]

@[simp] theorem State.slot_setSlot_ne (s : State) {i j : SlotId} (x : Slot) (h : j ≠ i) :
    (s.setSlot i x).slot j = s.slot j := by
  have hv : (i : Nat) ≠ (j : Nat) := fun e => h (Fin.ext e.symm)
  simp [State.setSlot, State.slot, hv]

theorem State.slot_setSlot (s : State) (i j : SlotId) (x : Slot) :
    (s.setSlot i x).slot j = if j = i then x else s.slot j := by
  by_cases h : j = i
  · subst h; simp
  · simp [h]

@[simp] theorem State.slot_modSlot_self (s : State) (i : SlotId) (f : Slot → Slot) :
    (s.modSlot i f).slot i = f (s.slot i) := by
  simp [State.modSlot]

@[simp] theorem State.slot_modSlot_ne (s : State) {i j : SlotId} (f : Slot → Slot) (h : j ≠ i) :
    (s.modSlot i f).slot j = s.slot j := by
  simp [State.modSlot, h]

theorem State.slot_modSlot (s : State) (i j : SlotId) (f : Slot → Slot) :
    (s.modSlot i f).slot j = if j = i then f (s.slot j) else s.slot j := by
  by_cases h : j = i
  · subst h; simp
  · simp [h]

@[simp] theorem State.bank_modBank_self (s : State) (b : BankId) (f : Bank → Bank) :
    (s.modBank b f).bank b = f (s.bank b) := by
  simp [State.modBank, State.bank]

@[simp] theorem State.bank_modBank_ne (s : State) {b d : BankId} (f : Bank → Bank) (h : d ≠ b) :
    (s.modBank b f).bank d = s.bank d := by
  have hv : (b : Nat) ≠ (d : Nat) := fun e => h (Fin.ext e.symm)
  simp [State.modBank, State.bank, hv]

/-- Two states whose slots read alike and whose other fields are equal are equal. -/
theorem State.ext_slots {s t : State} (hs : ∀ i : SlotId, s.slot i = t.slot i)
    (ha : s.admission = t.admission) (hm : s.motion = t.motion) (hp : s.park = t.park)
    (hl : s.loader = t.loader) (hc : s.ctrl = t.ctrl) (hr : s.resetAsserted = t.resetAsserted)
    (hd : s.dockLine = t.dockLine) (hh : s.handleLine = t.handleLine) (hn : s.now = t.now)
    (hq : s.pending = t.pending) : s = t := by
  have hv : s.slots = t.slots := by
    apply Vector.ext
    intro k hk
    exact hs ⟨k, hk⟩
  cases s; cases t; simp_all

/-! ## What each update leaves -/

@[simp] theorem State.setSlot_admission (s : State) (i : SlotId) (x : Slot) :
    (s.setSlot i x).admission = s.admission := rfl
@[simp] theorem State.setSlot_motion (s : State) (i : SlotId) (x : Slot) :
    (s.setSlot i x).motion = s.motion := rfl
@[simp] theorem State.setSlot_park (s : State) (i : SlotId) (x : Slot) :
    (s.setSlot i x).park = s.park := rfl
@[simp] theorem State.setSlot_loader (s : State) (i : SlotId) (x : Slot) :
    (s.setSlot i x).loader = s.loader := rfl
@[simp] theorem State.setSlot_ctrl (s : State) (i : SlotId) (x : Slot) :
    (s.setSlot i x).ctrl = s.ctrl := rfl
@[simp] theorem State.setSlot_resetAsserted (s : State) (i : SlotId) (x : Slot) :
    (s.setSlot i x).resetAsserted = s.resetAsserted := rfl
@[simp] theorem State.setSlot_dockLine (s : State) (i : SlotId) (x : Slot) :
    (s.setSlot i x).dockLine = s.dockLine := rfl
@[simp] theorem State.setSlot_handleLine (s : State) (i : SlotId) (x : Slot) :
    (s.setSlot i x).handleLine = s.handleLine := rfl
@[simp] theorem State.setSlot_now (s : State) (i : SlotId) (x : Slot) :
    (s.setSlot i x).now = s.now := rfl
@[simp] theorem State.setSlot_pending (s : State) (i : SlotId) (x : Slot) :
    (s.setSlot i x).pending = s.pending := rfl

@[simp] theorem State.modSlot_admission (s : State) (i : SlotId) (f : Slot → Slot) :
    (s.modSlot i f).admission = s.admission := rfl
@[simp] theorem State.modSlot_motion (s : State) (i : SlotId) (f : Slot → Slot) :
    (s.modSlot i f).motion = s.motion := rfl
@[simp] theorem State.modSlot_park (s : State) (i : SlotId) (f : Slot → Slot) :
    (s.modSlot i f).park = s.park := rfl
@[simp] theorem State.modSlot_loader (s : State) (i : SlotId) (f : Slot → Slot) :
    (s.modSlot i f).loader = s.loader := rfl
@[simp] theorem State.modSlot_ctrl (s : State) (i : SlotId) (f : Slot → Slot) :
    (s.modSlot i f).ctrl = s.ctrl := rfl
@[simp] theorem State.modSlot_resetAsserted (s : State) (i : SlotId) (f : Slot → Slot) :
    (s.modSlot i f).resetAsserted = s.resetAsserted := rfl
@[simp] theorem State.modSlot_dockLine (s : State) (i : SlotId) (f : Slot → Slot) :
    (s.modSlot i f).dockLine = s.dockLine := rfl
@[simp] theorem State.modSlot_handleLine (s : State) (i : SlotId) (f : Slot → Slot) :
    (s.modSlot i f).handleLine = s.handleLine := rfl
@[simp] theorem State.modSlot_now (s : State) (i : SlotId) (f : Slot → Slot) :
    (s.modSlot i f).now = s.now := rfl
@[simp] theorem State.modSlot_pending (s : State) (i : SlotId) (f : Slot → Slot) :
    (s.modSlot i f).pending = s.pending := rfl

@[simp] theorem State.modCtx_admission (s : State) (i : SlotId) (f : SlotContext → SlotContext) :
    (s.modCtx i f).admission = s.admission := rfl
@[simp] theorem State.modCtx_motion (s : State) (i : SlotId) (f : SlotContext → SlotContext) :
    (s.modCtx i f).motion = s.motion := rfl
@[simp] theorem State.modCtx_park (s : State) (i : SlotId) (f : SlotContext → SlotContext) :
    (s.modCtx i f).park = s.park := rfl
@[simp] theorem State.modCtx_loader (s : State) (i : SlotId) (f : SlotContext → SlotContext) :
    (s.modCtx i f).loader = s.loader := rfl
@[simp] theorem State.modCtx_ctrl (s : State) (i : SlotId) (f : SlotContext → SlotContext) :
    (s.modCtx i f).ctrl = s.ctrl := rfl
@[simp] theorem State.modCtx_resetAsserted (s : State) (i : SlotId) (f : SlotContext → SlotContext) :
    (s.modCtx i f).resetAsserted = s.resetAsserted := rfl
@[simp] theorem State.modCtx_dockLine (s : State) (i : SlotId) (f : SlotContext → SlotContext) :
    (s.modCtx i f).dockLine = s.dockLine := rfl
@[simp] theorem State.modCtx_handleLine (s : State) (i : SlotId) (f : SlotContext → SlotContext) :
    (s.modCtx i f).handleLine = s.handleLine := rfl
@[simp] theorem State.modCtx_now (s : State) (i : SlotId) (f : SlotContext → SlotContext) :
    (s.modCtx i f).now = s.now := rfl
@[simp] theorem State.modCtx_pending (s : State) (i : SlotId) (f : SlotContext → SlotContext) :
    (s.modCtx i f).pending = s.pending := rfl

@[simp] theorem State.modPass_admission (s : State) (i : SlotId) (f : Passage → Passage) :
    (s.modPass i f).admission = s.admission := rfl
@[simp] theorem State.modPass_motion (s : State) (i : SlotId) (f : Passage → Passage) :
    (s.modPass i f).motion = s.motion := rfl
@[simp] theorem State.modPass_park (s : State) (i : SlotId) (f : Passage → Passage) :
    (s.modPass i f).park = s.park := rfl
@[simp] theorem State.modPass_loader (s : State) (i : SlotId) (f : Passage → Passage) :
    (s.modPass i f).loader = s.loader := rfl
@[simp] theorem State.modPass_ctrl (s : State) (i : SlotId) (f : Passage → Passage) :
    (s.modPass i f).ctrl = s.ctrl := rfl
@[simp] theorem State.modPass_resetAsserted (s : State) (i : SlotId) (f : Passage → Passage) :
    (s.modPass i f).resetAsserted = s.resetAsserted := rfl
@[simp] theorem State.modPass_dockLine (s : State) (i : SlotId) (f : Passage → Passage) :
    (s.modPass i f).dockLine = s.dockLine := rfl
@[simp] theorem State.modPass_handleLine (s : State) (i : SlotId) (f : Passage → Passage) :
    (s.modPass i f).handleLine = s.handleLine := rfl
@[simp] theorem State.modPass_now (s : State) (i : SlotId) (f : Passage → Passage) :
    (s.modPass i f).now = s.now := rfl
@[simp] theorem State.modPass_pending (s : State) (i : SlotId) (f : Passage → Passage) :
    (s.modPass i f).pending = s.pending := rfl

@[simp] theorem State.modPort_admission (s : State) (i : SlotId) (f : Port → Port) :
    (s.modPort i f).admission = s.admission := rfl
@[simp] theorem State.modPort_motion (s : State) (i : SlotId) (f : Port → Port) :
    (s.modPort i f).motion = s.motion := rfl
@[simp] theorem State.modPort_park (s : State) (i : SlotId) (f : Port → Port) :
    (s.modPort i f).park = s.park := rfl
@[simp] theorem State.modPort_loader (s : State) (i : SlotId) (f : Port → Port) :
    (s.modPort i f).loader = s.loader := rfl
@[simp] theorem State.modPort_ctrl (s : State) (i : SlotId) (f : Port → Port) :
    (s.modPort i f).ctrl = s.ctrl := rfl
@[simp] theorem State.modPort_resetAsserted (s : State) (i : SlotId) (f : Port → Port) :
    (s.modPort i f).resetAsserted = s.resetAsserted := rfl
@[simp] theorem State.modPort_dockLine (s : State) (i : SlotId) (f : Port → Port) :
    (s.modPort i f).dockLine = s.dockLine := rfl
@[simp] theorem State.modPort_handleLine (s : State) (i : SlotId) (f : Port → Port) :
    (s.modPort i f).handleLine = s.handleLine := rfl
@[simp] theorem State.modPort_now (s : State) (i : SlotId) (f : Port → Port) :
    (s.modPort i f).now = s.now := rfl
@[simp] theorem State.modPort_pending (s : State) (i : SlotId) (f : Port → Port) :
    (s.modPort i f).pending = s.pending := rfl

@[simp] theorem State.setWaiting_admission (s : State) (i : SlotId) (q : List DriveFrame) :
    (s.setWaiting i q).admission = s.admission := rfl
@[simp] theorem State.setWaiting_motion (s : State) (i : SlotId) (q : List DriveFrame) :
    (s.setWaiting i q).motion = s.motion := rfl
@[simp] theorem State.setWaiting_park (s : State) (i : SlotId) (q : List DriveFrame) :
    (s.setWaiting i q).park = s.park := rfl
@[simp] theorem State.setWaiting_loader (s : State) (i : SlotId) (q : List DriveFrame) :
    (s.setWaiting i q).loader = s.loader := rfl
@[simp] theorem State.setWaiting_ctrl (s : State) (i : SlotId) (q : List DriveFrame) :
    (s.setWaiting i q).ctrl = s.ctrl := rfl
@[simp] theorem State.setWaiting_resetAsserted (s : State) (i : SlotId) (q : List DriveFrame) :
    (s.setWaiting i q).resetAsserted = s.resetAsserted := rfl
@[simp] theorem State.setWaiting_dockLine (s : State) (i : SlotId) (q : List DriveFrame) :
    (s.setWaiting i q).dockLine = s.dockLine := rfl
@[simp] theorem State.setWaiting_handleLine (s : State) (i : SlotId) (q : List DriveFrame) :
    (s.setWaiting i q).handleLine = s.handleLine := rfl
@[simp] theorem State.setWaiting_now (s : State) (i : SlotId) (q : List DriveFrame) :
    (s.setWaiting i q).now = s.now := rfl
@[simp] theorem State.setWaiting_pending (s : State) (i : SlotId) (q : List DriveFrame) :
    (s.setWaiting i q).pending = s.pending := rfl

@[simp] theorem State.active_admission (s : State) (i : SlotId) :
    (s.active i).admission = s.admission := rfl
@[simp] theorem State.active_motion (s : State) (i : SlotId) :
    (s.active i).motion = s.motion := rfl
@[simp] theorem State.active_park (s : State) (i : SlotId) :
    (s.active i).park = s.park := rfl
@[simp] theorem State.active_loader (s : State) (i : SlotId) :
    (s.active i).loader = s.loader := rfl
@[simp] theorem State.active_ctrl (s : State) (i : SlotId) :
    (s.active i).ctrl = s.ctrl := rfl
@[simp] theorem State.active_resetAsserted (s : State) (i : SlotId) :
    (s.active i).resetAsserted = s.resetAsserted := rfl
@[simp] theorem State.active_dockLine (s : State) (i : SlotId) :
    (s.active i).dockLine = s.dockLine := rfl
@[simp] theorem State.active_handleLine (s : State) (i : SlotId) :
    (s.active i).handleLine = s.handleLine := rfl
@[simp] theorem State.active_now (s : State) (i : SlotId) :
    (s.active i).now = s.now := rfl
@[simp] theorem State.active_pending (s : State) (i : SlotId) :
    (s.active i).pending = s.pending := rfl

@[simp] theorem State.touchIdle_admission (s : State) (i : SlotId) :
    (s.touchIdle i).admission = s.admission := rfl
@[simp] theorem State.touchIdle_motion (s : State) (i : SlotId) :
    (s.touchIdle i).motion = s.motion := rfl
@[simp] theorem State.touchIdle_park (s : State) (i : SlotId) :
    (s.touchIdle i).park = s.park := rfl
@[simp] theorem State.touchIdle_loader (s : State) (i : SlotId) :
    (s.touchIdle i).loader = s.loader := rfl
@[simp] theorem State.touchIdle_ctrl (s : State) (i : SlotId) :
    (s.touchIdle i).ctrl = s.ctrl := rfl
@[simp] theorem State.touchIdle_resetAsserted (s : State) (i : SlotId) :
    (s.touchIdle i).resetAsserted = s.resetAsserted := rfl
@[simp] theorem State.touchIdle_dockLine (s : State) (i : SlotId) :
    (s.touchIdle i).dockLine = s.dockLine := rfl
@[simp] theorem State.touchIdle_handleLine (s : State) (i : SlotId) :
    (s.touchIdle i).handleLine = s.handleLine := rfl
@[simp] theorem State.touchIdle_now (s : State) (i : SlotId) :
    (s.touchIdle i).now = s.now := rfl
@[simp] theorem State.touchIdle_pending (s : State) (i : SlotId) :
    (s.touchIdle i).pending = s.pending := rfl

@[simp] theorem State.submit_admission (s : State) (i : SlotId) (code : SenseCode) (tag : Option Tag) (n : Option Nat) (st : SlotSt) (held : Nat) :
    (s.submit i code tag n st held).admission = s.admission := rfl
@[simp] theorem State.submit_motion (s : State) (i : SlotId) (code : SenseCode) (tag : Option Tag) (n : Option Nat) (st : SlotSt) (held : Nat) :
    (s.submit i code tag n st held).motion = s.motion := rfl
@[simp] theorem State.submit_park (s : State) (i : SlotId) (code : SenseCode) (tag : Option Tag) (n : Option Nat) (st : SlotSt) (held : Nat) :
    (s.submit i code tag n st held).park = s.park := rfl
@[simp] theorem State.submit_loader (s : State) (i : SlotId) (code : SenseCode) (tag : Option Tag) (n : Option Nat) (st : SlotSt) (held : Nat) :
    (s.submit i code tag n st held).loader = s.loader := rfl
@[simp] theorem State.submit_ctrl (s : State) (i : SlotId) (code : SenseCode) (tag : Option Tag) (n : Option Nat) (st : SlotSt) (held : Nat) :
    (s.submit i code tag n st held).ctrl = s.ctrl := rfl
@[simp] theorem State.submit_resetAsserted (s : State) (i : SlotId) (code : SenseCode) (tag : Option Tag) (n : Option Nat) (st : SlotSt) (held : Nat) :
    (s.submit i code tag n st held).resetAsserted = s.resetAsserted := rfl
@[simp] theorem State.submit_dockLine (s : State) (i : SlotId) (code : SenseCode) (tag : Option Tag) (n : Option Nat) (st : SlotSt) (held : Nat) :
    (s.submit i code tag n st held).dockLine = s.dockLine := rfl
@[simp] theorem State.submit_handleLine (s : State) (i : SlotId) (code : SenseCode) (tag : Option Tag) (n : Option Nat) (st : SlotSt) (held : Nat) :
    (s.submit i code tag n st held).handleLine = s.handleLine := rfl
@[simp] theorem State.submit_now (s : State) (i : SlotId) (code : SenseCode) (tag : Option Tag) (n : Option Nat) (st : SlotSt) (held : Nat) :
    (s.submit i code tag n st held).now = s.now := rfl
@[simp] theorem State.submit_pending (s : State) (i : SlotId) (code : SenseCode) (tag : Option Tag) (n : Option Nat) (st : SlotSt) (held : Nat) :
    (s.submit i code tag n st held).pending = s.pending := rfl

@[simp] theorem State.setPresent_admission (s : State) (i : SlotId) (l : Bool) :
    (s.setPresent i l).admission = s.admission := rfl
@[simp] theorem State.setPresent_motion (s : State) (i : SlotId) (l : Bool) :
    (s.setPresent i l).motion = s.motion := rfl
@[simp] theorem State.setPresent_park (s : State) (i : SlotId) (l : Bool) :
    (s.setPresent i l).park = s.park := rfl
@[simp] theorem State.setPresent_loader (s : State) (i : SlotId) (l : Bool) :
    (s.setPresent i l).loader = s.loader := rfl
@[simp] theorem State.setPresent_ctrl (s : State) (i : SlotId) (l : Bool) :
    (s.setPresent i l).ctrl = s.ctrl := rfl
@[simp] theorem State.setPresent_resetAsserted (s : State) (i : SlotId) (l : Bool) :
    (s.setPresent i l).resetAsserted = s.resetAsserted := rfl
@[simp] theorem State.setPresent_dockLine (s : State) (i : SlotId) (l : Bool) :
    (s.setPresent i l).dockLine = s.dockLine := rfl
@[simp] theorem State.setPresent_handleLine (s : State) (i : SlotId) (l : Bool) :
    (s.setPresent i l).handleLine = s.handleLine := rfl
@[simp] theorem State.setPresent_now (s : State) (i : SlotId) (l : Bool) :
    (s.setPresent i l).now = s.now := rfl
@[simp] theorem State.setPresent_pending (s : State) (i : SlotId) (l : Bool) :
    (s.setPresent i l).pending = s.pending := rfl

@[simp] theorem State.setPowerFault_admission (s : State) (i : SlotId) (l : Bool) :
    (s.setPowerFault i l).admission = s.admission := rfl
@[simp] theorem State.setPowerFault_motion (s : State) (i : SlotId) (l : Bool) :
    (s.setPowerFault i l).motion = s.motion := rfl
@[simp] theorem State.setPowerFault_park (s : State) (i : SlotId) (l : Bool) :
    (s.setPowerFault i l).park = s.park := rfl
@[simp] theorem State.setPowerFault_loader (s : State) (i : SlotId) (l : Bool) :
    (s.setPowerFault i l).loader = s.loader := rfl
@[simp] theorem State.setPowerFault_ctrl (s : State) (i : SlotId) (l : Bool) :
    (s.setPowerFault i l).ctrl = s.ctrl := rfl
@[simp] theorem State.setPowerFault_resetAsserted (s : State) (i : SlotId) (l : Bool) :
    (s.setPowerFault i l).resetAsserted = s.resetAsserted := rfl
@[simp] theorem State.setPowerFault_dockLine (s : State) (i : SlotId) (l : Bool) :
    (s.setPowerFault i l).dockLine = s.dockLine := rfl
@[simp] theorem State.setPowerFault_handleLine (s : State) (i : SlotId) (l : Bool) :
    (s.setPowerFault i l).handleLine = s.handleLine := rfl
@[simp] theorem State.setPowerFault_now (s : State) (i : SlotId) (l : Bool) :
    (s.setPowerFault i l).now = s.now := rfl
@[simp] theorem State.setPowerFault_pending (s : State) (i : SlotId) (l : Bool) :
    (s.setPowerFault i l).pending = s.pending := rfl

@[simp] theorem State.modBank_slots (s : State) (b : BankId) (f : Bank → Bank) :
    (s.modBank b f).slots = s.slots := rfl
@[simp] theorem State.modBank_motion (s : State) (b : BankId) (f : Bank → Bank) :
    (s.modBank b f).motion = s.motion := rfl
@[simp] theorem State.modBank_park (s : State) (b : BankId) (f : Bank → Bank) :
    (s.modBank b f).park = s.park := rfl
@[simp] theorem State.modBank_loader (s : State) (b : BankId) (f : Bank → Bank) :
    (s.modBank b f).loader = s.loader := rfl
@[simp] theorem State.modBank_ctrl (s : State) (b : BankId) (f : Bank → Bank) :
    (s.modBank b f).ctrl = s.ctrl := rfl
@[simp] theorem State.modBank_resetAsserted (s : State) (b : BankId) (f : Bank → Bank) :
    (s.modBank b f).resetAsserted = s.resetAsserted := rfl
@[simp] theorem State.modBank_dockLine (s : State) (b : BankId) (f : Bank → Bank) :
    (s.modBank b f).dockLine = s.dockLine := rfl
@[simp] theorem State.modBank_handleLine (s : State) (b : BankId) (f : Bank → Bank) :
    (s.modBank b f).handleLine = s.handleLine := rfl
@[simp] theorem State.modBank_now (s : State) (b : BankId) (f : Bank → Bank) :
    (s.modBank b f).now = s.now := rfl
@[simp] theorem State.modBank_pending (s : State) (b : BankId) (f : Bank → Bank) :
    (s.modBank b f).pending = s.pending := rfl

@[simp] theorem State.setQueue_slots (s : State) (q : List AdmEntry) :
    (s.setQueue q).slots = s.slots := rfl
@[simp] theorem State.setQueue_motion (s : State) (q : List AdmEntry) :
    (s.setQueue q).motion = s.motion := rfl
@[simp] theorem State.setQueue_park (s : State) (q : List AdmEntry) :
    (s.setQueue q).park = s.park := rfl
@[simp] theorem State.setQueue_loader (s : State) (q : List AdmEntry) :
    (s.setQueue q).loader = s.loader := rfl
@[simp] theorem State.setQueue_ctrl (s : State) (q : List AdmEntry) :
    (s.setQueue q).ctrl = s.ctrl := rfl
@[simp] theorem State.setQueue_resetAsserted (s : State) (q : List AdmEntry) :
    (s.setQueue q).resetAsserted = s.resetAsserted := rfl
@[simp] theorem State.setQueue_dockLine (s : State) (q : List AdmEntry) :
    (s.setQueue q).dockLine = s.dockLine := rfl
@[simp] theorem State.setQueue_handleLine (s : State) (q : List AdmEntry) :
    (s.setQueue q).handleLine = s.handleLine := rfl
@[simp] theorem State.setQueue_now (s : State) (q : List AdmEntry) :
    (s.setQueue q).now = s.now := rfl
@[simp] theorem State.setQueue_pending (s : State) (q : List AdmEntry) :
    (s.setQueue q).pending = s.pending := rfl

@[simp] theorem State.withdraw_slots (s : State) (i : SlotId) :
    (s.withdraw i).slots = s.slots := rfl
@[simp] theorem State.withdraw_motion (s : State) (i : SlotId) :
    (s.withdraw i).motion = s.motion := rfl
@[simp] theorem State.withdraw_park (s : State) (i : SlotId) :
    (s.withdraw i).park = s.park := rfl
@[simp] theorem State.withdraw_loader (s : State) (i : SlotId) :
    (s.withdraw i).loader = s.loader := rfl
@[simp] theorem State.withdraw_ctrl (s : State) (i : SlotId) :
    (s.withdraw i).ctrl = s.ctrl := rfl
@[simp] theorem State.withdraw_resetAsserted (s : State) (i : SlotId) :
    (s.withdraw i).resetAsserted = s.resetAsserted := rfl
@[simp] theorem State.withdraw_dockLine (s : State) (i : SlotId) :
    (s.withdraw i).dockLine = s.dockLine := rfl
@[simp] theorem State.withdraw_handleLine (s : State) (i : SlotId) :
    (s.withdraw i).handleLine = s.handleLine := rfl
@[simp] theorem State.withdraw_now (s : State) (i : SlotId) :
    (s.withdraw i).now = s.now := rfl
@[simp] theorem State.withdraw_pending (s : State) (i : SlotId) :
    (s.withdraw i).pending = s.pending := rfl

@[simp] theorem State.enter_motion (s : State) (i : SlotId) (st : SlotSt) (r k : Bool) :
    (s.enter i st r k).motion = s.motion := rfl
@[simp] theorem State.enter_park (s : State) (i : SlotId) (st : SlotSt) (r k : Bool) :
    (s.enter i st r k).park = s.park := rfl
@[simp] theorem State.enter_loader (s : State) (i : SlotId) (st : SlotSt) (r k : Bool) :
    (s.enter i st r k).loader = s.loader := rfl
@[simp] theorem State.enter_ctrl (s : State) (i : SlotId) (st : SlotSt) (r k : Bool) :
    (s.enter i st r k).ctrl = s.ctrl := rfl
@[simp] theorem State.enter_resetAsserted (s : State) (i : SlotId) (st : SlotSt) (r k : Bool) :
    (s.enter i st r k).resetAsserted = s.resetAsserted := rfl
@[simp] theorem State.enter_dockLine (s : State) (i : SlotId) (st : SlotSt) (r k : Bool) :
    (s.enter i st r k).dockLine = s.dockLine := rfl
@[simp] theorem State.enter_handleLine (s : State) (i : SlotId) (st : SlotSt) (r k : Bool) :
    (s.enter i st r k).handleLine = s.handleLine := rfl
@[simp] theorem State.enter_now (s : State) (i : SlotId) (st : SlotSt) (r k : Bool) :
    (s.enter i st r k).now = s.now := rfl
@[simp] theorem State.enter_pending (s : State) (i : SlotId) (st : SlotSt) (r k : Bool) :
    (s.enter i st r k).pending = s.pending := rfl

@[simp] theorem State.raiseMotion_slots (s : State) :
    (s.raiseMotion).slots = s.slots := rfl
@[simp] theorem State.raiseMotion_admission (s : State) :
    (s.raiseMotion).admission = s.admission := rfl
@[simp] theorem State.raiseMotion_motion (s : State) :
    (s.raiseMotion).motion = s.motion := rfl
@[simp] theorem State.raiseMotion_park (s : State) :
    (s.raiseMotion).park = s.park := rfl
@[simp] theorem State.raiseMotion_loader (s : State) :
    (s.raiseMotion).loader = s.loader := rfl
@[simp] theorem State.raiseMotion_resetAsserted (s : State) :
    (s.raiseMotion).resetAsserted = s.resetAsserted := rfl
@[simp] theorem State.raiseMotion_dockLine (s : State) :
    (s.raiseMotion).dockLine = s.dockLine := rfl
@[simp] theorem State.raiseMotion_handleLine (s : State) :
    (s.raiseMotion).handleLine = s.handleLine := rfl
@[simp] theorem State.raiseMotion_now (s : State) :
    (s.raiseMotion).now = s.now := rfl
@[simp] theorem State.raiseMotion_pending (s : State) :
    (s.raiseMotion).pending = s.pending := rfl

@[simp] theorem State.raiseProfile_slots (s : State) :
    (s.raiseProfile).slots = s.slots := rfl
@[simp] theorem State.raiseProfile_admission (s : State) :
    (s.raiseProfile).admission = s.admission := rfl
@[simp] theorem State.raiseProfile_motion (s : State) :
    (s.raiseProfile).motion = s.motion := rfl
@[simp] theorem State.raiseProfile_park (s : State) :
    (s.raiseProfile).park = s.park := rfl
@[simp] theorem State.raiseProfile_loader (s : State) :
    (s.raiseProfile).loader = s.loader := rfl
@[simp] theorem State.raiseProfile_resetAsserted (s : State) :
    (s.raiseProfile).resetAsserted = s.resetAsserted := rfl
@[simp] theorem State.raiseProfile_dockLine (s : State) :
    (s.raiseProfile).dockLine = s.dockLine := rfl
@[simp] theorem State.raiseProfile_handleLine (s : State) :
    (s.raiseProfile).handleLine = s.handleLine := rfl
@[simp] theorem State.raiseProfile_now (s : State) :
    (s.raiseProfile).now = s.now := rfl
@[simp] theorem State.raiseProfile_pending (s : State) :
    (s.raiseProfile).pending = s.pending := rfl

@[simp] theorem State.setCtrlWaiting_slots (s : State) (q : List CtrlFrame) :
    (s.setCtrlWaiting q).slots = s.slots := rfl
@[simp] theorem State.setCtrlWaiting_admission (s : State) (q : List CtrlFrame) :
    (s.setCtrlWaiting q).admission = s.admission := rfl
@[simp] theorem State.setCtrlWaiting_motion (s : State) (q : List CtrlFrame) :
    (s.setCtrlWaiting q).motion = s.motion := rfl
@[simp] theorem State.setCtrlWaiting_park (s : State) (q : List CtrlFrame) :
    (s.setCtrlWaiting q).park = s.park := rfl
@[simp] theorem State.setCtrlWaiting_loader (s : State) (q : List CtrlFrame) :
    (s.setCtrlWaiting q).loader = s.loader := rfl
@[simp] theorem State.setCtrlWaiting_resetAsserted (s : State) (q : List CtrlFrame) :
    (s.setCtrlWaiting q).resetAsserted = s.resetAsserted := rfl
@[simp] theorem State.setCtrlWaiting_dockLine (s : State) (q : List CtrlFrame) :
    (s.setCtrlWaiting q).dockLine = s.dockLine := rfl
@[simp] theorem State.setCtrlWaiting_handleLine (s : State) (q : List CtrlFrame) :
    (s.setCtrlWaiting q).handleLine = s.handleLine := rfl
@[simp] theorem State.setCtrlWaiting_now (s : State) (q : List CtrlFrame) :
    (s.setCtrlWaiting q).now = s.now := rfl
@[simp] theorem State.setCtrlWaiting_pending (s : State) (q : List CtrlFrame) :
    (s.setCtrlWaiting q).pending = s.pending := rfl

@[simp] theorem State.modLoader_slots (s : State) (f : Loader → Loader) :
    (s.modLoader f).slots = s.slots := rfl
@[simp] theorem State.modLoader_admission (s : State) (f : Loader → Loader) :
    (s.modLoader f).admission = s.admission := rfl
@[simp] theorem State.modLoader_motion (s : State) (f : Loader → Loader) :
    (s.modLoader f).motion = s.motion := rfl
@[simp] theorem State.modLoader_park (s : State) (f : Loader → Loader) :
    (s.modLoader f).park = s.park := rfl
@[simp] theorem State.modLoader_ctrl (s : State) (f : Loader → Loader) :
    (s.modLoader f).ctrl = s.ctrl := rfl
@[simp] theorem State.modLoader_resetAsserted (s : State) (f : Loader → Loader) :
    (s.modLoader f).resetAsserted = s.resetAsserted := rfl
@[simp] theorem State.modLoader_dockLine (s : State) (f : Loader → Loader) :
    (s.modLoader f).dockLine = s.dockLine := rfl
@[simp] theorem State.modLoader_handleLine (s : State) (f : Loader → Loader) :
    (s.modLoader f).handleLine = s.handleLine := rfl
@[simp] theorem State.modLoader_now (s : State) (f : Loader → Loader) :
    (s.modLoader f).now = s.now := rfl
@[simp] theorem State.modLoader_pending (s : State) (f : Loader → Loader) :
    (s.modLoader f).pending = s.pending := rfl

@[simp] theorem State.takeShock_slots (s : State) :
    (s.takeShock).slots = s.slots := rfl
@[simp] theorem State.takeShock_admission (s : State) :
    (s.takeShock).admission = s.admission := rfl
@[simp] theorem State.takeShock_park (s : State) :
    (s.takeShock).park = s.park := rfl
@[simp] theorem State.takeShock_loader (s : State) :
    (s.takeShock).loader = s.loader := rfl
@[simp] theorem State.takeShock_ctrl (s : State) :
    (s.takeShock).ctrl = s.ctrl := rfl
@[simp] theorem State.takeShock_resetAsserted (s : State) :
    (s.takeShock).resetAsserted = s.resetAsserted := rfl
@[simp] theorem State.takeShock_dockLine (s : State) :
    (s.takeShock).dockLine = s.dockLine := rfl
@[simp] theorem State.takeShock_handleLine (s : State) :
    (s.takeShock).handleLine = s.handleLine := rfl
@[simp] theorem State.takeShock_now (s : State) :
    (s.takeShock).now = s.now := rfl
@[simp] theorem State.takeShock_pending (s : State) :
    (s.takeShock).pending = s.pending := rfl

@[simp] theorem State.reach_slots (s : State) (t : Nat) :
    (s.reach t).slots = s.slots := rfl
@[simp] theorem State.reach_admission (s : State) (t : Nat) :
    (s.reach t).admission = s.admission := rfl
@[simp] theorem State.reach_motion (s : State) (t : Nat) :
    (s.reach t).motion = s.motion := rfl
@[simp] theorem State.reach_park (s : State) (t : Nat) :
    (s.reach t).park = s.park := rfl
@[simp] theorem State.reach_loader (s : State) (t : Nat) :
    (s.reach t).loader = s.loader := rfl
@[simp] theorem State.reach_ctrl (s : State) (t : Nat) :
    (s.reach t).ctrl = s.ctrl := rfl
@[simp] theorem State.reach_resetAsserted (s : State) (t : Nat) :
    (s.reach t).resetAsserted = s.resetAsserted := rfl
@[simp] theorem State.reach_dockLine (s : State) (t : Nat) :
    (s.reach t).dockLine = s.dockLine := rfl
@[simp] theorem State.reach_handleLine (s : State) (t : Nat) :
    (s.reach t).handleLine = s.handleLine := rfl
@[simp] theorem State.reach_pending (s : State) (t : Nat) :
    (s.reach t).pending = s.pending := rfl

@[simp] theorem State.modBank_slot (s : State) (b : BankId) (f : Bank → Bank) (j : SlotId) :
    (s.modBank b f).slot j = s.slot j := rfl
@[simp] theorem State.setQueue_slot (s : State) (q : List AdmEntry) (j : SlotId) :
    (s.setQueue q).slot j = s.slot j := rfl
@[simp] theorem State.withdraw_slot (s : State) (i : SlotId) (j : SlotId) :
    (s.withdraw i).slot j = s.slot j := rfl
@[simp] theorem State.raiseMotion_slot (s : State) (j : SlotId) :
    (s.raiseMotion).slot j = s.slot j := rfl
@[simp] theorem State.raiseProfile_slot (s : State) (j : SlotId) :
    (s.raiseProfile).slot j = s.slot j := rfl
@[simp] theorem State.setCtrlWaiting_slot (s : State) (q : List CtrlFrame) (j : SlotId) :
    (s.setCtrlWaiting q).slot j = s.slot j := rfl
@[simp] theorem State.modLoader_slot (s : State) (f : Loader → Loader) (j : SlotId) :
    (s.modLoader f).slot j = s.slot j := rfl
@[simp] theorem State.takeShock_slot (s : State) (j : SlotId) :
    (s.takeShock).slot j = s.slot j := rfl
@[simp] theorem State.reach_slot (s : State) (t : Nat) (j : SlotId) :
    (s.reach t).slot j = s.slot j := rfl
@[simp] theorem State.setSlot_bank (s : State) (i : SlotId) (x : Slot) (d : BankId) :
    (s.setSlot i x).bank d = s.bank d := rfl
@[simp] theorem State.modSlot_bank (s : State) (i : SlotId) (f : Slot → Slot) (d : BankId) :
    (s.modSlot i f).bank d = s.bank d := rfl
@[simp] theorem State.modCtx_bank (s : State) (i : SlotId) (f : SlotContext → SlotContext) (d : BankId) :
    (s.modCtx i f).bank d = s.bank d := rfl
@[simp] theorem State.modPass_bank (s : State) (i : SlotId) (f : Passage → Passage) (d : BankId) :
    (s.modPass i f).bank d = s.bank d := rfl
@[simp] theorem State.modPort_bank (s : State) (i : SlotId) (f : Port → Port) (d : BankId) :
    (s.modPort i f).bank d = s.bank d := rfl
@[simp] theorem State.setWaiting_bank (s : State) (i : SlotId) (q : List DriveFrame) (d : BankId) :
    (s.setWaiting i q).bank d = s.bank d := rfl
@[simp] theorem State.active_bank (s : State) (i : SlotId) (d : BankId) :
    (s.active i).bank d = s.bank d := rfl
@[simp] theorem State.touchIdle_bank (s : State) (i : SlotId) (d : BankId) :
    (s.touchIdle i).bank d = s.bank d := rfl
@[simp] theorem State.submit_bank (s : State) (i : SlotId) (code : SenseCode) (tag : Option Tag) (n : Option Nat) (st : SlotSt) (held : Nat) (d : BankId) :
    (s.submit i code tag n st held).bank d = s.bank d := rfl
@[simp] theorem State.setPresent_bank (s : State) (i : SlotId) (l : Bool) (d : BankId) :
    (s.setPresent i l).bank d = s.bank d := rfl
@[simp] theorem State.setPowerFault_bank (s : State) (i : SlotId) (l : Bool) (d : BankId) :
    (s.setPowerFault i l).bank d = s.bank d := rfl
@[simp] theorem State.raiseMotion_bank (s : State) (d : BankId) :
    (s.raiseMotion).bank d = s.bank d := rfl
@[simp] theorem State.raiseProfile_bank (s : State) (d : BankId) :
    (s.raiseProfile).bank d = s.bank d := rfl
@[simp] theorem State.setCtrlWaiting_bank (s : State) (q : List CtrlFrame) (d : BankId) :
    (s.setCtrlWaiting q).bank d = s.bank d := rfl
@[simp] theorem State.modLoader_bank (s : State) (f : Loader → Loader) (d : BankId) :
    (s.modLoader f).bank d = s.bank d := rfl
@[simp] theorem State.takeShock_bank (s : State) (d : BankId) :
    (s.takeShock).bank d = s.bank d := rfl
@[simp] theorem State.reach_bank (s : State) (t : Nat) (d : BankId) :
    (s.reach t).bank d = s.bank d := rfl
@[simp] theorem State.setSlot_profile (s : State) (i : SlotId) (x : Slot) :
    (s.setSlot i x).profile = s.profile := rfl
@[simp] theorem State.setSlot_lock (s : State) (i : SlotId) (x : Slot) :
    (s.setSlot i x).lock = s.lock := rfl
@[simp] theorem State.modSlot_profile (s : State) (i : SlotId) (f : Slot → Slot) :
    (s.modSlot i f).profile = s.profile := rfl
@[simp] theorem State.modSlot_lock (s : State) (i : SlotId) (f : Slot → Slot) :
    (s.modSlot i f).lock = s.lock := rfl
@[simp] theorem State.modCtx_profile (s : State) (i : SlotId) (f : SlotContext → SlotContext) :
    (s.modCtx i f).profile = s.profile := rfl
@[simp] theorem State.modCtx_lock (s : State) (i : SlotId) (f : SlotContext → SlotContext) :
    (s.modCtx i f).lock = s.lock := rfl
@[simp] theorem State.modPass_profile (s : State) (i : SlotId) (f : Passage → Passage) :
    (s.modPass i f).profile = s.profile := rfl
@[simp] theorem State.modPass_lock (s : State) (i : SlotId) (f : Passage → Passage) :
    (s.modPass i f).lock = s.lock := rfl
@[simp] theorem State.modPort_profile (s : State) (i : SlotId) (f : Port → Port) :
    (s.modPort i f).profile = s.profile := rfl
@[simp] theorem State.modPort_lock (s : State) (i : SlotId) (f : Port → Port) :
    (s.modPort i f).lock = s.lock := rfl
@[simp] theorem State.setWaiting_profile (s : State) (i : SlotId) (q : List DriveFrame) :
    (s.setWaiting i q).profile = s.profile := rfl
@[simp] theorem State.setWaiting_lock (s : State) (i : SlotId) (q : List DriveFrame) :
    (s.setWaiting i q).lock = s.lock := rfl
@[simp] theorem State.active_profile (s : State) (i : SlotId) :
    (s.active i).profile = s.profile := rfl
@[simp] theorem State.active_lock (s : State) (i : SlotId) :
    (s.active i).lock = s.lock := rfl
@[simp] theorem State.touchIdle_profile (s : State) (i : SlotId) :
    (s.touchIdle i).profile = s.profile := rfl
@[simp] theorem State.touchIdle_lock (s : State) (i : SlotId) :
    (s.touchIdle i).lock = s.lock := rfl
@[simp] theorem State.submit_profile (s : State) (i : SlotId) (code : SenseCode) (tag : Option Tag) (n : Option Nat) (st : SlotSt) (held : Nat) :
    (s.submit i code tag n st held).profile = s.profile := rfl
@[simp] theorem State.submit_lock (s : State) (i : SlotId) (code : SenseCode) (tag : Option Tag) (n : Option Nat) (st : SlotSt) (held : Nat) :
    (s.submit i code tag n st held).lock = s.lock := rfl
@[simp] theorem State.setPresent_profile (s : State) (i : SlotId) (l : Bool) :
    (s.setPresent i l).profile = s.profile := rfl
@[simp] theorem State.setPresent_lock (s : State) (i : SlotId) (l : Bool) :
    (s.setPresent i l).lock = s.lock := rfl
@[simp] theorem State.setPowerFault_profile (s : State) (i : SlotId) (l : Bool) :
    (s.setPowerFault i l).profile = s.profile := rfl
@[simp] theorem State.setPowerFault_lock (s : State) (i : SlotId) (l : Bool) :
    (s.setPowerFault i l).lock = s.lock := rfl
@[simp] theorem State.modBank_profile (s : State) (b : BankId) (f : Bank → Bank) :
    (s.modBank b f).profile = s.profile := rfl
@[simp] theorem State.modBank_lock (s : State) (b : BankId) (f : Bank → Bank) :
    (s.modBank b f).lock = s.lock := rfl
@[simp] theorem State.setQueue_profile (s : State) (q : List AdmEntry) :
    (s.setQueue q).profile = s.profile := rfl
@[simp] theorem State.setQueue_lock (s : State) (q : List AdmEntry) :
    (s.setQueue q).lock = s.lock := rfl
@[simp] theorem State.withdraw_profile (s : State) (i : SlotId) :
    (s.withdraw i).profile = s.profile := rfl
@[simp] theorem State.withdraw_lock (s : State) (i : SlotId) :
    (s.withdraw i).lock = s.lock := rfl
@[simp] theorem State.enter_profile (s : State) (i : SlotId) (st : SlotSt) (r k : Bool) :
    (s.enter i st r k).profile = s.profile := rfl
@[simp] theorem State.enter_lock (s : State) (i : SlotId) (st : SlotSt) (r k : Bool) :
    (s.enter i st r k).lock = s.lock := rfl
@[simp] theorem State.raiseMotion_profile (s : State) :
    (s.raiseMotion).profile = s.profile := rfl
@[simp] theorem State.raiseMotion_lock (s : State) :
    (s.raiseMotion).lock = s.lock := rfl
@[simp] theorem State.raiseProfile_profile (s : State) :
    (s.raiseProfile).profile = s.profile := rfl
@[simp] theorem State.raiseProfile_lock (s : State) :
    (s.raiseProfile).lock = s.lock := rfl
@[simp] theorem State.setCtrlWaiting_profile (s : State) (q : List CtrlFrame) :
    (s.setCtrlWaiting q).profile = s.profile := rfl
@[simp] theorem State.setCtrlWaiting_lock (s : State) (q : List CtrlFrame) :
    (s.setCtrlWaiting q).lock = s.lock := rfl
@[simp] theorem State.modLoader_lock (s : State) (f : Loader → Loader) :
    (s.modLoader f).lock = s.lock := rfl
@[simp] theorem State.takeShock_profile (s : State) :
    (s.takeShock).profile = s.profile := rfl
@[simp] theorem State.takeShock_lock (s : State) :
    (s.takeShock).lock = s.lock := rfl
@[simp] theorem State.reach_profile (s : State) (t : Nat) :
    (s.reach t).profile = s.profile := rfl
@[simp] theorem State.reach_lock (s : State) (t : Nat) :
    (s.reach t).lock = s.lock := rfl

@[simp] theorem State.reach_now (s : State) (t : Nat) : (s.reach t).now = max s.now t := rfl

@[simp] theorem State.setQueue_queue (s : State) (q : List AdmEntry) :
    (s.setQueue q).admission.queue = q := rfl

@[simp] theorem State.setQueue_bank (s : State) (q : List AdmEntry) (b : BankId) :
    (s.setQueue q).bank b = s.bank b := rfl

@[simp] theorem State.withdraw_bank (s : State) (i : SlotId) (b : BankId) :
    (s.withdraw i).bank b = s.bank b := rfl

@[simp] theorem State.withdraw_queue (s : State) (i : SlotId) :
    (s.withdraw i).admission.queue = s.admission.queue.filter (fun e => e.slot != i) := rfl

@[simp] theorem State.enter_bank (s : State) (i : SlotId) (st : SlotSt) (r k : Bool) (b : BankId) :
    (s.enter i st r k).bank b = s.bank b := rfl

@[simp] theorem State.enter_queue (s : State) (i : SlotId) (st : SlotSt) (r k : Bool) :
    (s.enter i st r k).admission.queue = s.admission.queue.filter (fun e => e.slot != i) := rfl

@[simp] theorem State.enter_slot_self (s : State) (i : SlotId) (st : SlotSt) (r k : Bool) :
    (s.enter i st r k).slot i = Slot.enter s.profile s.now st r k (s.slot i) := by
  simp [State.enter]

@[simp] theorem State.enter_slot_ne (s : State) {i j : SlotId} (st : SlotSt) (r k : Bool)
    (h : j ≠ i) : (s.enter i st r k).slot j = s.slot j := by
  simp [State.enter, h]

end Sys2Proof.Machine
end

