-- ==== Sys2Proof/Laws/Keeps.lean ====
section
/-! SUPPORT. What the shared operations leave alone: `Keeps s t` says that t differs from s in the work of the slots, the
admission queue, the bank accounts and the controller link port's upstream side alone. One lemma for
each operation of chapters 1, 2, 5, 6 and 8 says that it keeps the rest. -/

namespace Sys2Proof.Machine

/-- t keeps what s has of the monitor, park control, the loader, the lines, the latches, the DOCK value, the
time and the waiting commands; the frames that wait on the controller link too, and those of a drive link
unless they are dropped with the slot's power (R135). -/
structure State.Keeps (s t : State) : Prop where
  motion : t.motion = s.motion
  park : t.park = s.park
  loader : t.loader = s.loader
  resetAsserted : t.resetAsserted = s.resetAsserted
  dockLine : t.dockLine = s.dockLine
  handleLine : t.handleLine = s.handleLine
  now : t.now = s.now
  pending : t.pending = s.pending
  dock : t.admission.dock = s.admission.dock
  dockDebounce : t.admission.dockDebounce = s.admission.dockDebounce
  ctrlWaiting : t.ctrl.waiting = s.ctrl.waiting
  waiting : ∀ i, (t.slot i).waiting = (s.slot i).waiting ∨ (t.slot i).waiting = []
  present : ∀ i, (t.slot i).presentLine = (s.slot i).presentLine
  powerFault : ∀ i, (t.slot i).powerFaultLine = (s.slot i).powerFaultLine
  latch : ∀ i, (t.slot i).ctx.latch = (s.slot i).ctx.latch

/-- A change of one slot's record that leaves its lines and its latch, and its waiting frames or none. -/
structure Slot.Keeps (x y : Slot) : Prop where
  waiting : y.waiting = x.waiting ∨ y.waiting = []
  present : y.presentLine = x.presentLine
  powerFault : y.powerFaultLine = x.powerFaultLine
  latch : y.ctx.latch = x.ctx.latch

@[simp] theorem State.Keeps.rfl (s : State) : s.Keeps s := by constructor <;> simp

theorem State.Keeps.trans {s t u : State} (h : s.Keeps t) (k : t.Keeps u) : s.Keeps u where
  motion := k.motion.trans h.motion
  park := k.park.trans h.park
  loader := k.loader.trans h.loader
  resetAsserted := k.resetAsserted.trans h.resetAsserted
  dockLine := k.dockLine.trans h.dockLine
  handleLine := k.handleLine.trans h.handleLine
  now := k.now.trans h.now
  pending := k.pending.trans h.pending
  dock := k.dock.trans h.dock
  dockDebounce := k.dockDebounce.trans h.dockDebounce
  ctrlWaiting := k.ctrlWaiting.trans h.ctrlWaiting
  waiting i := (k.waiting i).elim (fun e => (h.waiting i).imp e.trans e.trans) .inr
  present i := (k.present i).trans (h.present i)
  powerFault i := (k.powerFault i).trans (h.powerFault i)
  latch i := (k.latch i).trans (h.latch i)

theorem State.Keeps.profile {s t : State} (h : s.Keeps t) : t.profile = s.profile := by
  simp [State.profile, h.loader]

theorem State.Keeps.lock {s t : State} (h : s.Keeps t) : t.lock = s.lock := by
  simp [State.lock, h.park]

/-- No operation adds a waiting frame. -/
theorem State.Keeps.waitingCount {s t : State} (h : s.Keeps t) : t.waitingCount ≤ s.waitingCount := by
  unfold State.waitingCount
  rw [h.ctrlWaiting]
  refine Nat.add_le_add_left (List.sum_le_sum fun i _ => ?_) _
  rcases h.waiting i with e | e <;> simp [e]

/-! ## One slot, one bank, the queue -/

theorem State.Keeps.modSlot {s t : State} (h : s.Keeps t) (i : SlotId) (f : Slot → Slot)
    (hf : ∀ x : Slot, x.Keeps (f x)) : s.Keeps (t.modSlot i f) := by
  refine h.trans ?_
  constructor <;> (try simp) <;> intro j <;> by_cases hj : j = i
  all_goals
    first
    | (subst hj
       simp [(hf _).present, (hf _).powerFault, (hf _).latch]
       done)
    | (subst hj
       simpa using (hf (t.slot j)).waiting)
    | simp [hj]

@[simp] theorem State.Keeps.setQueue {s t : State} (h : s.Keeps t) (q : List AdmEntry) :
    s.Keeps (t.setQueue q) := by
  refine h.trans ?_; constructor <;> simp [State.setQueue, State.slot]

@[simp] theorem State.Keeps.withdraw {s t : State} (h : s.Keeps t) (i : SlotId) :
    s.Keeps (t.withdraw i) := h.setQueue _

@[simp] theorem State.Keeps.modBank {s t : State} (h : s.Keeps t) (b : BankId) (f : Bank → Bank) :
    s.Keeps (t.modBank b f) := by
  refine h.trans ?_; constructor <;> simp [State.modBank, State.slot]

@[simp] theorem Slot.touchIdle_keeps (p : Profile) (n : Nat) (x : Slot) : x.Keeps (x.touchIdle p n) :=
  ⟨.inl (Eq.refl _), Eq.refl _, Eq.refl _, Eq.refl _⟩

@[simp] theorem Slot.act_keeps (p : Profile) (n : Nat) (x : Slot) : x.Keeps (x.act p n) :=
  ⟨.inl (Eq.refl _), Eq.refl _, Eq.refl _, Eq.refl _⟩

@[simp] theorem Slot.enter_keeps (p : Profile) (n : Nat) (st : SlotSt) (r k : Bool) (x : Slot) :
    x.Keeps (x.enter p n st r k) := by
  refine ⟨?_, Eq.refl _, Eq.refl _, Eq.refl _⟩
  cases h : st.powered <;> simp [Slot.enter, Slot.touchIdle, h]

@[simp] theorem State.Keeps.active {s t : State} (h : s.Keeps t) (i : SlotId) : s.Keeps (t.active i) :=
  h.modSlot i _ (fun _ => by simp)

@[simp] theorem State.Keeps.touchIdle {s t : State} (h : s.Keeps t) (i : SlotId) :
    s.Keeps (t.touchIdle i) := h.modSlot i _ (fun _ => by simp)

@[simp] theorem State.Keeps.enter {s t : State} (h : s.Keeps t) (i : SlotId) (st : SlotSt) (r k : Bool) :
    s.Keeps (t.enter i st r k) := (h.withdraw i).modSlot i _ (fun _ => by simp)

theorem State.Keeps.modCtx {s t : State} (h : s.Keeps t) (i : SlotId) (f : SlotContext → SlotContext)
    (hf : ∀ c, (f c).latch = c.latch) : s.Keeps (t.modCtx i f) :=
  h.modSlot i _ (fun x => ⟨.inl (Eq.refl _), Eq.refl _, Eq.refl _, hf x.ctx⟩)

@[simp] theorem State.Keeps.modPass {s t : State} (h : s.Keeps t) (i : SlotId) (f : Passage → Passage) :
    s.Keeps (t.modPass i f) := h.modSlot i _ (fun _ => ⟨.inl (Eq.refl _), Eq.refl _, Eq.refl _, Eq.refl _⟩)

@[simp] theorem State.Keeps.modPort {s t : State} (h : s.Keeps t) (i : SlotId) (f : Port → Port) :
    s.Keeps (t.modPort i f) := h.modSlot i _ (fun _ => ⟨.inl (Eq.refl _), Eq.refl _, Eq.refl _, Eq.refl _⟩)

@[simp] theorem State.Keeps.submit {s t : State} (h : s.Keeps t) (i : SlotId) (code : SenseCode)
    (tag : Option Tag) (n : Option Nat) (st : SlotSt) (held : Nat) :
    s.Keeps (t.submit i code tag n st held) :=
  h.modSlot i _ (fun _ => ⟨.inl (Eq.refl _), Eq.refl _, Eq.refl _, Eq.refl _⟩)

/-! ## The controller link -/

/-- A change of the controller link port that leaves the waiting frames. -/
theorem State.Keeps.setCtrl {s t : State} (h : s.Keeps t) (c : CtrlPort)
    (hc : c.waiting = t.ctrl.waiting) : s.Keeps { t with ctrl := c } := by
  refine h.trans ?_; constructor <;> simp [State.slot, hc]

@[simp] theorem State.Keeps.raiseMotion {s t : State} (h : s.Keeps t) : s.Keeps t.raiseMotion :=
  h.setCtrl _ (Eq.refl _)

@[simp] theorem State.Keeps.raiseProfile {s t : State} (h : s.Keeps t) : s.Keeps t.raiseProfile :=
  h.setCtrl _ (Eq.refl _)

@[simp] theorem State.Keeps.setUpstreamAt {s t : State} (h : s.Keeps t) (p : Fin 11) (q : List UpFrame) :
    s.Keeps (t.setUpstreamAt p q) := by
  unfold State.setUpstreamAt
  split
  · exact h.modSlot _ _ (fun _ => ⟨.inl (Eq.refl _), Eq.refl _, Eq.refl _, Eq.refl _⟩)
  · exact h.setCtrl _ (Eq.refl _)

@[simp] theorem State.Keeps.beginUpstream {s t : State} (h : s.Keeps t) (f : UpFrame) :
    s.Keeps (t.beginUpstream f) := by
  unfold State.beginUpstream
  split <;> exact h.setCtrl _ (Eq.refl _)

@[simp] theorem State.Keeps.pickUpstream {s t : State} (h : s.Keeps t) : s.Keeps t.pickUpstream := by
  unfold State.pickUpstream
  split
  · exact h
  · split
    · exact h
    · split
      · exact h
      · refine State.Keeps.beginUpstream (State.Keeps.setCtrl (h.setUpstreamAt _ _) _ ?_) _
        simp

@[simp] theorem State.Keeps.handUp {s t : State} (h : s.Keeps t) (i : SlotId) (f : UpFrame) :
    s.Keeps (t.handUp i f) := by
  unfold State.handUp
  exact State.Keeps.pickUpstream
    (State.Keeps.modSlot h i _ (fun _ => ⟨.inl (Eq.refl _), Eq.refl _, Eq.refl _, Eq.refl _⟩))

@[simp] theorem State.Keeps.complete {s t : State} (h : s.Keeps t) (i : SlotId) (c : Cmd) (code : Byte) :
    s.Keeps (t.complete i c code) := (h.handUp _ _).active i

@[simp] theorem State.Keeps.completeSensed {s t : State} (h : s.Keeps t) (i : SlotId) (c : Cmd)
    (code : Byte) (k : SenseCode) : s.Keeps (t.completeSensed i c code k) :=
  (h.complete i c code).submit _ _ _ _ _ _

@[simp] theorem State.Keeps.completeAll {s t : State} (h : s.Keeps t) (i : SlotId) (code : Byte)
    (l : List Cmd) : s.Keeps (State.completeAll i code l t) := by
  induction l generalizing t with
  | nil => exact h
  | cons c rest ih => exact ih (h.complete i c code)

/-! ## Emptying a slot and the slot map -/

@[simp] theorem State.Keeps.leavingFault {s t : State} (h : s.Keeps t) (was : SlotSt) (i : SlotId) :
    s.Keeps (State.leavingFault was i t) := by
  unfold State.leavingFault
  split
  · exact h.active i
  · exact h

@[simp] theorem State.Keeps.enterDown {s t : State} (h : s.Keeps t) (i : SlotId) (st : SlotSt)
    (code : Byte) : s.Keeps (t.enterDown i st code) :=
  ((((h.enter i st false false).modPass i _).modCtx i _ (by simp)).completeAll _ _ _).leavingFault _ _

@[simp] theorem State.Keeps.takeMap {s t : State} (h : s.Keeps t) (i : SlotId) : s.Keeps (t.takeMap i) := by
  have h1 := fun q (m : SlotMap) => (h.setQueue q).modCtx i (fun c => { c with map := m }) (by simp)
  unfold State.takeMap
  simp only
  split
  · split
    · exact (h1 _ _).modCtx i _ (by simp)
    · exact h1 _ _
  · split
    · exact (h1 _ _).modCtx i _ (by simp)
    · exact (h1 _ _).enterDown _ _ _

@[simp] theorem State.Keeps.enterOff {s t : State} (h : s.Keeps t) (i : SlotId) : s.Keeps (t.enterOff i) :=
  (((h.enter i _ _ _).modPass i _).completeAll _ _ _).takeMap i

/-! ## The admission unit -/

@[simp] theorem State.Keeps.orderDown {s t : State} (h : s.Keeps t) (i : SlotId) : s.Keeps (t.orderDown i) := by
  unfold State.orderDown
  split <;> simp (maxDischargeDepth := 12) [h]

@[simp] theorem State.Keeps.startStagger {s t : State} (h : s.Keeps t) (b : BankId) :
    s.Keeps (t.startStagger b) := by
  unfold State.startStagger
  split <;> simp (maxDischargeDepth := 12) [h]

@[simp] theorem State.Keeps.grant {s t : State} (h : s.Keeps t) (e : AdmEntry) : s.Keeps (t.grant e) := by
  unfold State.grant
  simp only
  split <;> simp (maxDischargeDepth := 12) [h]

@[simp] theorem State.Keeps.scanOver {s t : State} (h : s.Keeps t) (q : List AdmEntry) (m : Marks) :
    s.Keeps (State.scanOver q m t) := by
  induction q generalizing t m with
  | nil => exact h
  | cons e rest ih =>
    unfold State.scanOver
    repeat' split
    all_goals first | exact ih h _ | exact ih (h.grant e) _

@[simp] theorem State.Keeps.scan {s t : State} (h : s.Keeps t) : s.Keeps t.scan := by
  unfold State.scan
  split <;> simp (maxDischargeDepth := 12) [h]

@[simp] theorem State.Keeps.shedRounds {s t : State} (h : s.Keeps t) (n : Nat) (b : BankId) :
    s.Keeps (State.shedRounds n b t) := by
  induction n generalizing t with
  | zero => exact h
  | succ n ih =>
    unfold State.shedRounds
    split
    · split
      · exact h
      · exact ih (h.orderDown _)
    · exact h

@[simp] theorem State.Keeps.clearIfFits {s t : State} (h : s.Keeps t) (b : BankId) :
    s.Keeps (t.clearIfFits b) := by
  unfold State.clearIfFits
  split
  · exact (h.modBank b _).scan
  · exact h

@[simp] theorem State.Keeps.shed {s t : State} (h : s.Keeps t) (b : BankId) : s.Keeps (t.shed b) := by
  unfold State.shed
  split
  · exact (h.shedRounds _ _).clearIfFits b
  · exact h

@[simp] theorem State.Keeps.evaluate {s t : State} (h : s.Keeps t) (b : BankId) : s.Keeps (t.evaluate b) := by
  unfold State.evaluate
  split <;> simp (maxDischargeDepth := 12) [h]

@[simp] theorem State.Keeps.sumFell {s t : State} (h : s.Keeps t) (b : BankId) : s.Keeps (t.sumFell b) := by
  unfold State.sumFell
  split <;> simp (maxDischargeDepth := 12) [h]

@[simp] theorem State.Keeps.react {s t : State} (h : s.Keeps t) (was : Slot) (i : SlotId) :
    s.Keeps (State.react was i t) := by
  unfold State.react
  simp only
  repeat' split
  all_goals simp (maxDischargeDepth := 12) [h]

@[simp] theorem State.Keeps.lower {s t : State} (h : s.Keeps t) (i : SlotId) : s.Keeps (t.lower i) :=
  (h.orderDown i).react _ i

@[simp] theorem State.Keeps.place {s t : State} (h : s.Keeps t) (i : SlotId) (k : Kind) (r : Bool) :
    s.Keeps (t.place i k r) := by
  unfold State.place
  split
  · exact h
  · exact (h.setQueue _).scan

@[simp] theorem State.Keeps.selectBudget {s t : State} (h : s.Keeps t) (b : BankId) :
    s.Keeps (t.selectBudget b) := h.modBank b _

@[simp] theorem State.Keeps.selectBudgets {s t : State} (h : s.Keeps t) : s.Keeps t.selectBudgets :=
  ((((h.selectBudget 0).selectBudget 1).shed 0).shed 1).scan

/-! ## The command passage -/

@[simp] theorem State.Keeps.forward {s t : State} (h : s.Keeps t) (i : SlotId) (c : Cmd) (q : Seq)
    (r : Nat) : s.Keeps (t.forward i c q r) := ((h.modPass i _).modPort i _).active i

@[simp] theorem State.Keeps.forwardNew {s t : State} (h : s.Keeps t) (i : SlotId) (c : Cmd) :
    s.Keeps (t.forwardNew i c) := (h.modPass i _).forward i c _ _

@[simp] theorem State.Keeps.forwardHeld {s t : State} (h : s.Keeps t) (i : SlotId) (e : HoldEntry) :
    s.Keeps (t.forwardHeld i e) := by
  unfold State.forwardHeld
  simp only
  split <;> simp (maxDischargeDepth := 12) [h]

@[simp] theorem State.Keeps.finishHeld {s t : State} (h : s.Keeps t) (i : SlotId) (e : HoldEntry) :
    s.Keeps (t.finishHeld i e) := (h.modPass i _).complete _ _ _

@[simp] theorem State.Keeps.hold {s t : State} (h : s.Keeps t) (i : SlotId) (c : Cmd) :
    s.Keeps (t.hold i c) := (h.modPass i _).touchIdle i

@[simp] theorem State.Keeps.beginHead {s t : State} (h : s.Keeps t) (i : SlotId) :
    s.Keeps (t.beginHead i) := h.modPass i _

@[simp] theorem State.Keeps.reportDemand {s t : State} (h : s.Keeps t) (i : SlotId) :
    s.Keeps (t.reportDemand i) := h.modPass i _

@[simp] theorem State.Keeps.compare {s t : State} (h : s.Keeps t) (i : SlotId) : s.Keeps (t.compare i) := by
  unfold State.compare
  repeat' split
  all_goals simp (maxDischargeDepth := 12) [h]

@[simp] theorem State.Keeps.report {s t : State} (h : s.Keeps t) (i : SlotId) : s.Keeps (t.report i) :=
  (h.reportDemand i).compare i

@[simp] theorem State.Keeps.serveRounds {s t : State} (h : s.Keeps t) (n : Nat) (i : SlotId) :
    s.Keeps (State.serveRounds n i t) := by
  induction n generalizing t with
  | zero => exact h
  | succ n ih =>
    unfold State.serveRounds
    repeat' split
    all_goals simp (maxDischargeDepth := 12) [h, ih]

@[simp] theorem State.Keeps.serve {s t : State} (h : s.Keeps t) (i : SlotId) : s.Keeps (t.serve i) :=
  h.serveRounds _ i

@[simp] theorem State.Keeps.parkTest {s t : State} (h : s.Keeps t) (i : SlotId) : s.Keeps (t.parkTest i) := by
  unfold State.parkTest
  split <;> simp (maxDischargeDepth := 12) [h]

@[simp] theorem State.Keeps.reportAndServe {s t : State} (h : s.Keeps t) (i : SlotId) :
    s.Keeps (t.reportAndServe i) := (h.report i).serve i

@[simp] theorem State.Keeps.settleEnd {s t : State} (h : s.Keeps t) (i : SlotId) :
    s.Keeps (State.settleEnd i t) := (h.reportAndServe i).shed _

@[simp] theorem State.Keeps.settle {s t : State} (h : s.Keeps t) (i : SlotId) :
    s.Keeps (State.settle i t) := ((h.reportAndServe i).parkTest i).settleEnd i

@[simp] theorem State.Keeps.refuse {s t : State} (h : s.Keeps t) (i : SlotId) (c : Cmd) (code : Byte)
    (k : SenseCode) : s.Keeps (t.refuse i c code k) := h.completeSensed i c code k

@[simp] theorem State.Keeps.admitCommand {s t : State} (h : s.Keeps t) (i : SlotId) (c : Cmd) :
    s.Keeps (t.admitCommand i c) := by
  unfold State.admitCommand
  split
  · simp (maxDischargeDepth := 12) [h]
  · split
    · simp (maxDischargeDepth := 12) [h]
    · split
      all_goals (try split)
      all_goals exact State.Keeps.settle (by simp (maxDischargeDepth := 12) [h]) _

@[simp] theorem State.Keeps.leaveFault {s t : State} (h : s.Keeps t) (i : SlotId) :
    s.Keeps (t.leaveFault i) := ((h.enterOff i).modCtx i _ (by simp)).active i

@[simp] theorem State.Keeps.atFault {s t : State} (h : s.Keeps t) (i : SlotId) (c : Cmd) :
    s.Keeps (t.atFault i c) := by
  unfold State.atFault
  repeat' split
  all_goals simp (maxDischargeDepth := 12) [h]

@[simp] theorem State.Keeps.arriveChecked {s t : State} (h : s.Keeps t) (i : SlotId) (c : Cmd) :
    s.Keeps (t.arriveChecked i c) := by
  unfold State.arriveChecked
  repeat' split
  all_goals simp (maxDischargeDepth := 12) [h]

@[simp] theorem State.Keeps.answerSense {s t : State} (h : s.Keeps t) (i : SlotId) (c : Cmd)
    (r : SenseRecord) : s.Keeps (t.answerSense i c r) :=
  ((h.handUp _ _).complete _ _ _).modSlot i _ (fun _ => ⟨.inl (Eq.refl _), Eq.refl _, Eq.refl _, Eq.refl _⟩)

@[simp] theorem State.Keeps.answerNone {s t : State} (h : s.Keeps t) (i : SlotId) (c : Cmd) :
    s.Keeps (t.answerNone i c) := (h.handUp _ _).complete _ _ _

@[simp] theorem State.Keeps.arriveSense {s t : State} (h : s.Keeps t) (i : SlotId) (c : Cmd) :
    s.Keeps (t.arriveSense i c) := by
  unfold State.arriveSense
  repeat' split
  all_goals simp (maxDischargeDepth := 12) [h]

@[simp] theorem State.Keeps.abortHeld {s t : State} (h : s.Keeps t) (i : SlotId) (c : Cmd)
    (e : HoldEntry) : s.Keeps (t.abortHeld i c e) :=
  (((h.modPass i _).completeSensed _ _ _ _).complete _ _ _).settle _

@[simp] theorem State.Keeps.abortInFlight {s t : State} (h : s.Keeps t) (i : SlotId) (c : Cmd) :
    s.Keeps (t.abortInFlight i c) := ((h.modPass i _).modPort i _).active i

@[simp] theorem State.Keeps.arriveAbort {s t : State} (h : s.Keeps t) (i : SlotId) (c : Cmd) :
    s.Keeps (t.arriveAbort i c) := by
  unfold State.arriveAbort
  repeat' split
  all_goals simp (maxDischargeDepth := 12) [h]

@[simp] theorem State.Keeps.arriveCommand {s t : State} (h : s.Keeps t) (i : SlotId) (c : Cmd) :
    s.Keeps (t.arriveCommand i c) := by
  unfold State.arriveCommand
  split <;> simp (maxDischargeDepth := 12) [h]

@[simp] theorem State.Keeps.badSlot {s t : State} (h : s.Keeps t) (c : Cmd) : s.Keeps (t.badSlot c) := by
  unfold State.badSlot
  exact State.Keeps.pickUpstream (State.Keeps.setCtrl h _ (Eq.refl _))

@[simp] theorem State.Keeps.takeCommand {s t : State} (h : s.Keeps t) (c : Cmd) :
    s.Keeps (t.takeCommand c) := by
  unfold State.takeCommand
  split <;> simp (maxDischargeDepth := 12) [h]

@[simp] theorem State.Keeps.removeFlight {s t : State} (h : s.Keeps t) (i : SlotId) (g : Tag) :
    s.Keeps (t.removeFlight i g) := (h.modPass i _).modPort i _

@[simp] theorem State.Keeps.requeue {s t : State} (h : s.Keeps t) (i : SlotId) (r : InFlight) :
    s.Keeps (t.requeue i r) := ((h.removeFlight i _).modPass i _).touchIdle i

@[simp] theorem State.Keeps.sweepEntry {s t : State} (h : s.Keeps t) (i : SlotId) (e : HoldEntry) :
    s.Keeps (t.sweepEntry i e) := (h.modPass i _).completeSensed _ _ _ _

/-! ## The slot engine -/

@[simp] theorem State.Keeps.reactDown {s t : State} (h : s.Keeps t) (was : Slot) (i : SlotId) :
    s.Keeps (State.reactDown was i t) := (h.react _ _).shed _

@[simp] theorem State.Keeps.enterFault {s t : State} (h : s.Keeps t) (i : SlotId) (k : SenseCode) :
    s.Keeps (t.enterFault i k) :=
  ((((h.submit _ _ _ _ _ _).enterDown _ _ _).modCtx i _ (by simp)).takeMap i).reactDown _ _

@[simp] theorem State.Keeps.enterRemoved {s t : State} (h : s.Keeps t) (i : SlotId) :
    s.Keeps (t.enterRemoved i) :=
  (((h.submit _ _ _ _ _ _).enterDown _ _ _).takeMap i).reactDown _ _

@[simp] theorem State.Keeps.selfUnload {s t : State} (h : s.Keeps t) (i : SlotId) :
    s.Keeps (t.selfUnload i) := by
  unfold State.selfUnload
  split
  all_goals
    first
    | exact h
    | exact (((h.submit _ _ _ _ _ _).enter _ _ _ _).modCtx i _ (by simp)).react _ _

@[simp] theorem State.Keeps.spinFails {s t : State} (h : s.Keeps t) (i : SlotId) (w : SpinFailure) :
    s.Keeps (t.spinFails i w) :=
  (((h.enter _ _ _ _).modCtx i _ (by simp)).react _ _).settle _

@[simp] theorem State.Keeps.retrySpin {s t : State} (h : s.Keeps t) (i : SlotId) :
    s.Keeps (t.retrySpin i) := by
  unfold State.retrySpin
  simp only
  repeat' split
  · exact (h.modCtx i _ (by simp)).place _ _ _
  · exact h.modCtx i _ (by simp)
  · exact h.enterFault _ _

@[simp] theorem State.Keeps.stopped {s t : State} (h : s.Keeps t) (i : SlotId) : s.Keeps (t.stopped i) := by
  have h1 := (h.enter i .idle false (t.slot i).ctx.spinMark).active i
  unfold State.stopped
  simp only
  split
  · exact (((h1.modCtx i _ (by simp)).retrySpin i).react _ _).settle _
  · exact (h1.react _ _).settle _

@[simp] theorem State.Keeps.loadFails {s t : State} (h : s.Keeps t) (i : SlotId) :
    s.Keeps (t.loadFails i) := by
  have h1 := h.enter i .spun false true
  unfold State.loadFails
  simp only
  repeat' split
  · exact (((h1.modCtx i _ (by simp)).place _ _ _).react _ _).settle _
  · exact ((h1.modCtx i _ (by simp)).react _ _).settle _
  · exact h.enterFault _ _

@[simp] theorem State.Keeps.stepEnds {s t : State} (h : s.Keeps t) (i : SlotId) (st : SlotSt) :
    s.Keeps (t.stepEnds i st) := (((h.enter _ _ _ _).active i).react _ _).settle _

@[simp] theorem State.Keeps.unloadDone {s t : State} (h : s.Keeps t) (i : SlotId) :
    s.Keeps (t.unloadDone i) := by
  unfold State.unloadDone
  simp only
  split
  · exact (((((h.submit _ _ _ _ _ _).modCtx i _ (by simp)).enter _ _ _ _).active i).react _ _).settle _
  · exact (((h.enter _ _ _ _).active i).react _ _).settle _

@[simp] theorem State.Keeps.foundTurning {s t : State} (h : s.Keeps t) (i : SlotId) :
    s.Keeps (t.foundTurning i) := by
  unfold State.foundTurning
  split
  · exact ((((h.enter _ _ _ _).modCtx i _ (by simp)).active i).react _ _).settle _
  · exact (((h.enterOff i).active i).react _ _).settle _

@[simp] theorem State.Keeps.replyToStep {s t : State} (h : s.Keeps t) (i : SlotId) (op : ControlOp)
    (a : Answer) : s.Keeps (t.replyToStep i op a) := by
  unfold State.replyToStep
  split <;> simp (maxDischargeDepth := 12) [h]

@[simp] theorem State.Keeps.cancelConfirmed {s t : State} (h : s.Keeps t) (i : SlotId) :
    s.Keeps (t.cancelConfirmed i) := by
  have h1 := State.Keeps.modSlot h i
    (fun x => { x with fence := false, port := { x.port with cancelPending := false, cancelMiss := 0 } })
    (fun _ => ⟨.inl (Eq.refl _), Eq.refl _, Eq.refl _, Eq.refl _⟩)
  unfold State.cancelConfirmed
  exact h1.settle _

@[simp] theorem State.Keeps.takeControlReply {s t : State} (h : s.Keeps t) (i : SlotId) (a b : Byte) :
    s.Keeps (t.takeControlReply i a b) := by
  unfold State.takeControlReply
  repeat' split
  all_goals simp (maxDischargeDepth := 12) [h]

@[simp] theorem State.Keeps.replyByState {s t : State} (h : s.Keeps t) (i : SlotId) (r : Byte) :
    s.Keeps (t.replyByState i r) := by
  unfold State.replyByState
  repeat' split
  all_goals simp (maxDischargeDepth := 12) [h]

@[simp] theorem State.Keeps.takeStateReply {s t : State} (h : s.Keeps t) (i : SlotId) (r : Byte) :
    s.Keeps (t.takeStateReply i r) := by
  have h1 := h.modCtx i (fun c => { c with queryPending := false, missed := 0 }) (by simp)
  unfold State.takeStateReply
  simp only
  repeat' split
  all_goals simp (maxDischargeDepth := 12) [h, h1]

@[simp] theorem State.Keeps.takeSelfUnload {s t : State} (h : s.Keeps t) (i : SlotId) :
    s.Keeps (t.takeSelfUnload i) := by
  unfold State.takeSelfUnload
  split <;> simp (maxDischargeDepth := 12) [h]

@[simp] theorem State.Keeps.takeFaultAlert {s t : State} (h : s.Keeps t) (i : SlotId) :
    s.Keeps (t.takeFaultAlert i) := by
  unfold State.takeFaultAlert
  split <;> simp (maxDischargeDepth := 12) [h]

@[simp] theorem State.Keeps.passUp {s t : State} (h : s.Keeps t) (i : SlotId) (r : DriveReport) :
    s.Keeps (t.passUp i r) := (h.handUp _ _).active i

@[simp] theorem State.Keeps.reportNotLoaded {s t : State} (h : s.Keeps t) (i : SlotId)
    (r : DriveReport) : s.Keeps (t.reportNotLoaded i r) := by
  unfold State.reportNotLoaded
  split <;> simp (maxDischargeDepth := 12) [h]

@[simp] theorem State.Keeps.sweepRequeued {s t : State} (h : s.Keeps t) (i : SlotId) (e : HoldEntry) :
    s.Keeps (t.sweepRequeued i e) := by
  unfold State.sweepRequeued
  split <;> simp (maxDischargeDepth := 12) [h]

theorem Slot.countRequeue_keeps (x : Slot) : x.Keeps x.countRequeue := by
  unfold Slot.countRequeue
  split <;> exact ⟨.inl (Eq.refl _), Eq.refl _, Eq.refl _, Eq.refl _⟩

@[simp] theorem State.Keeps.unloadAborted {s t : State} (h : s.Keeps t) (i : SlotId) (r : DriveReport)
    (f : InFlight) : s.Keeps (t.unloadAborted i r f) := by
  unfold State.unloadAborted
  simp only
  repeat' split
  · simp (maxDischargeDepth := 12) [h]
  · exact State.Keeps.settle (State.Keeps.reportNotLoaded (State.Keeps.sweepRequeued
      ((h.requeue i f).modSlot i _ Slot.countRequeue_keeps) _ _) _ _) _
  · simp (maxDischargeDepth := 12) [h]

@[simp] theorem State.Keeps.takeAbortAnswer {s t : State} (h : s.Keeps t) (i : SlotId)
    (r : DriveReport) : s.Keeps (t.takeAbortAnswer i r) := by
  unfold State.takeAbortAnswer
  split <;> simp (maxDischargeDepth := 12) [h]

@[simp] theorem State.Keeps.takeCompletion {s t : State} (h : s.Keeps t) (i : SlotId) (r : DriveReport) :
    s.Keeps (t.takeCompletion i r) := by
  unfold State.takeCompletion
  repeat' split
  all_goals simp (maxDischargeDepth := 12) [h]

@[simp] theorem State.Keeps.takeDriveData {s t : State} (h : s.Keeps t) (i : SlotId) (d : DataBody) :
    s.Keeps (t.takeDriveData i d) := by
  unfold State.takeDriveData
  split <;> simp (maxDischargeDepth := 12) [h]

@[simp] theorem State.Keeps.takeDataRequest {s t : State} (h : s.Keeps t) (i : SlotId)
    (r : RequestBody) : s.Keeps (t.takeDataRequest i r) := by
  unfold State.takeDataRequest
  split <;> simp (maxDischargeDepth := 12) [h]

@[simp] theorem State.Keeps.takeCtrlData {s t : State} (h : s.Keeps t) (f : SlotField) (d : DataBody) :
    s.Keeps (t.takeCtrlData f d) := by
  unfold State.takeCtrlData
  repeat' split
  all_goals simp (maxDischargeDepth := 12) [h]

/-! ## Park control's orders, and the frames of the links -/

theorem Slot.markEmergency_keeps (x : Slot) : x.Keeps x.markEmergency :=
  ⟨.inl (Eq.refl _), Eq.refl _, Eq.refl _, Eq.refl _⟩

@[simp] theorem State.Keeps.unloadOrder {s t : State} (h : s.Keeps t) (e : Bool) (i : SlotId) :
    s.Keeps (State.unloadOrder e t i) := by
  unfold State.unloadOrder
  repeat' split
  · exact ((h.lower i).modSlot i _ Slot.markEmergency_keeps).settle _
  · simp (maxDischargeDepth := 12) [h]
  · exact h

/-- What every round of a fold keeps, the fold keeps. -/
theorem State.Keeps.foldl {s t : State} (f : State → SlotId → State)
    (hf : ∀ u i, s.Keeps u → s.Keeps (f u i)) (l : List SlotId) (h : s.Keeps t) :
    s.Keeps (l.foldl f t) := by
  induction l generalizing t with
  | nil => exact h
  | cons i rest ih => exact ih (hf t i h)

@[simp] theorem State.Keeps.unloadAll {s t : State} (h : s.Keeps t) (e : Bool) :
    s.Keeps (t.unloadAll e) :=
  State.Keeps.foldl _ (fun _ i hu => hu.unloadOrder e i) _ h

@[simp] theorem State.Keeps.sweepAll {s t : State} (h : s.Keeps t) (i : SlotId) (l : List HoldEntry) :
    s.Keeps (State.sweepAll i l t) := by
  induction l generalizing t with
  | nil => exact h
  | cons e rest ih => exact ih (h.sweepEntry i e)

@[simp] theorem State.Keeps.sweepSlot {s t : State} (h : s.Keeps t) (i : SlotId) :
    s.Keeps (t.sweepSlot i) := by
  unfold State.sweepSlot
  split <;> simp (maxDischargeDepth := 12) [h]

@[simp] theorem State.Keeps.sweep {s t : State} (h : s.Keeps t) : s.Keeps t.sweep :=
  State.Keeps.foldl _ (fun _ i hu => hu.sweepSlot i) allSlots h

@[simp] theorem State.Keeps.testSlot {s t : State} (h : s.Keeps t) (i : SlotId) :
    s.Keeps (t.testSlot i) := by
  unfold State.testSlot
  split <;> simp (maxDischargeDepth := 12) [h]

@[simp] theorem State.Keeps.testAll {s t : State} (h : s.Keeps t) : s.Keeps t.testAll :=
  State.Keeps.foldl _ (fun _ i hu => hu.testSlot i) allSlots h

@[simp] theorem State.Keeps.parkProfile {s t : State} (h : s.Keeps t) : s.Keeps t.parkProfile := by
  unfold State.parkProfile
  split <;> simp (maxDischargeDepth := 12) [h]

@[simp] theorem State.Keeps.offerMap {s t : State} (h : s.Keeps t) (i : SlotId) :
    s.Keeps (t.offerMap i) := by
  unfold State.offerMap
  split <;> simp (maxDischargeDepth := 12) [h]

theorem State.Keeps.modLoader {s t : State} (h : s.Keeps t) (f : Loader → Loader) :
    (s.modLoader f).Keeps (t.modLoader f) :=
  { h with loader := congrArg f h.loader }

/-- A profile's taking effect ends the read and keeps the rest of what every operation keeps. -/
theorem State.Keeps.takeEffect {s t : State} (h : s.Keeps t) :
    (s.modLoader Loader.ended).Keeps t.takeEffect :=
  ((State.Keeps.foldl _ (fun _ i hu => hu.offerMap i) allSlots h).parkProfile.modLoader _).selectBudgets

@[simp] theorem State.Keeps.motionChanged {s t : State} (h : s.Keeps t) (m : MotionSt) :
    s.Keeps (State.motionChanged m t) := by
  unfold State.motionChanged
  simp only
  repeat' split
  all_goals simp (maxDischargeDepth := 12) [h]

theorem Slot.linkReset_keeps (p : Profile) (n : Nat) (x : Slot) : x.Keeps (x.linkReset p n) :=
  ⟨.inl (Eq.refl _), Eq.refl _, Eq.refl _, Eq.refl _⟩

@[simp] theorem State.Keeps.linkResetTaken {s t : State} (h : s.Keeps t) : s.Keeps t.linkResetTaken := by
  refine State.Keeps.shed (State.Keeps.shed (State.Keeps.testAll (h.trans ?_)) 0) 1
  constructor <;> simp [State.slot] <;> intro i
  · exact (Slot.linkReset_keeps _ _ _).waiting
  · exact (Slot.linkReset_keeps _ _ _).present
  · exact (Slot.linkReset_keeps _ _ _).powerFault
  · exact (Slot.linkReset_keeps _ _ _).latch

@[simp] theorem State.Keeps.takeCtrl {s t : State} (h : s.Keeps t) (f : CtrlFrame) :
    s.Keeps (t.takeCtrl f) := by
  unfold State.takeCtrl
  split <;> simp (maxDischargeDepth := 12) [h]

@[simp] theorem State.Keeps.takeDrive {s t : State} (h : s.Keeps t) (i : SlotId) (f : DriveFrame) :
    s.Keeps (t.takeDrive i f) := by
  unfold State.takeDrive
  split <;> simp (maxDischargeDepth := 12) [h]

end Sys2Proof.Machine
end

