-- ==== Sys2Proof/Laws/Links.lean ====
section
/-! SUPPORT. What an event does in a calm state: with nothing waiting on a link, an event is exactly itself, and a frame
that its link can take is exactly taken. -/

namespace Sys2Proof.Machine

/-- Every slot stands in the list of slots. -/
theorem mem_allSlots (i : SlotId) : i ∈ allSlots := by revert i; decide

/-- With no frame waiting anywhere, the controller link has none. -/
theorem State.ctrlWaiting_of_calm {s : State} (h : s.Calm) : s.ctrl.waiting = [] := by
  have h2 := h.2
  unfold State.waitingCount at h2
  exact List.eq_nil_of_length_eq_zero (by omega)

/-- With no frame waiting anywhere, no drive link has one. -/
theorem State.waiting_of_calm {s : State} (h : s.Calm) (i : SlotId) : (s.slot i).waiting = [] := by
  have h2 := h.2
  unfold State.waitingCount at h2
  have h3 : ∀ n ∈ allSlots.map (fun i => (s.slot i).waiting.length), n = 0 :=
    List.sum_eq_zero_iff.mp (by omega)
  have hm := mem_allSlots i
  exact List.eq_nil_of_length_eq_zero (h3 _ (List.mem_map.mpr ⟨i, hm, rfl⟩))

/-- An event in a calm state is exactly itself. -/
theorem State.live_calm {s : State} (h : s.Calm) (ev : State → State) : State.live ev s = ev s := by
  unfold State.live
  simp [h.1, h.2, State.drain]

/-- Under RESET an event does nothing. -/
theorem State.live_reset {s : State} (h : s.resetAsserted = true) (ev : State → State) :
    State.live ev s = s := by
  unfold State.live
  simp [h]

/-- A line event in a calm state, whose record of the level leaves it calm, is record and event. -/
theorem State.lineEvent_calm {s : State} (record event : State → State) (h : (record s).Calm) :
    State.lineEvent record event s = event (record s) := State.live_calm h event

theorem State.setCtrlWaiting_nil {s : State} (h : s.ctrl.waiting = []) : s.setCtrlWaiting [] = s := by
  cases s with
  | mk sl a m p l c r d hl n q => cases c; simp_all [State.setCtrlWaiting]

/-- A controller frame that arrives in a calm state and can be taken is taken at once. -/
theorem State.arriveCtrl_calm {s : State} (h : s.Calm) (f : CtrlFrame) (hf : s.canTakeCtrl f = true) :
    s.arriveCtrl f = s.takeCtrl f := by
  have hw := State.ctrlWaiting_of_calm h
  have hc : (s.setCtrlWaiting [f]).canTakeCtrl f = s.canTakeCtrl f := rfl
  have he : (s.setCtrlWaiting [f]).setCtrlWaiting [] = s := State.setCtrlWaiting_nil hw
  unfold State.arriveCtrl
  rw [h.2, hw]
  simp only [List.nil_append, State.drain, State.drainOnce]
  have hq : (s.setCtrlWaiting [f]).ctrl.waiting = [f] := rfl
  simp only [hq, hc, hf, if_true, he]

/-- The conditions of R143 hold for every frame but DATA in a ready state. -/
theorem State.canTakeCtrl_ready {s : State} (h : s.CtrlReady) (f : CtrlFrame)
    (hf : ∀ slot d, f ≠ .data slot d) : s.canTakeCtrl f = true := by
  obtain ⟨hc, hu, hb⟩ := h
  have ha : allSlots.all (fun i => hasRoom Config.upstreamPlaces Config.ctrlReserve (s.slot i).upstream)
      = true := by
    rw [List.all_eq_true]
    intro i _
    simpa [hasRoom, Config.upstreamPlaces, Config.ctrlReserve] using hu i
  unfold State.canTakeCtrl
  rw [hc.1, ha]
  cases f with
  | data slot d => exact absurd rfl (hf slot d)
  | command c => simpa [hasRoom, Config.badSlotPlaces] using hb
  | linkReset => simpa [hasRoom, Config.badSlotPlaces] using hb
  | discarded => simpa [hasRoom, Config.badSlotPlaces] using hb

/-- A COMMAND frame in a ready state is taken at once (R143). -/
theorem State.arriveOp_ready {s : State} (h : s.CtrlReady) (op : Op) (c : CmdArgs) :
    s.arriveOp op c = s.takeCommand { op := op, args := c } :=
  State.arriveCtrl_calm h.1 _ (State.canTakeCtrl_ready h _ (by simp))

/-- A LINK_RESET in a ready state is taken at once (R150). -/
theorem State.arriveLinkReset_ready {s : State} (h : s.CtrlReady) :
    s.arriveCtrl .linkReset = s.linkResetTaken :=
  State.arriveCtrl_calm h.1 _ (State.canTakeCtrl_ready h _ (by simp))

theorem State.setWaiting_nil {s : State} (i : SlotId) (h : (s.slot i).waiting = []) :
    s.setWaiting i [] = s := by
  apply State.ext_slots <;> try simp
  intro j
  by_cases hj : j = i
  · subst hj
    simp only [State.setWaiting, State.slot_modSlot_self]
    cases hx : s.slot j; simp_all
  · simp [State.setWaiting, hj]

/-- The drive links before the one that has a frame give none. -/
theorem State.drainDrives_only {s : State} {i : SlotId} {f : DriveFrame}
    (hi : (s.slot i).waiting = [f]) (ho : ∀ j, j ≠ i → (s.slot j).waiting = [])
    (hf : s.canTakeDrive i f = true) (l : List SlotId) (hl : i ∈ l) :
    s.drainDrives l = some ((s.setWaiting i []).takeDrive i f) := by
  induction l with
  | nil => cases hl
  | cons j rest ih =>
    by_cases hj : j = i
    · subst hj; simp [State.drainDrives, hi, hf]
    · have hr : i ∈ rest := by
        cases hl with
        | head => exact absurd rfl hj
        | tail _ h => exact h
      simp [State.drainDrives, ho j hj, ih hr]

/-- A drive frame that arrives in a calm state and can be taken is taken at once. -/
theorem State.arriveDrive_calm {s : State} (h : s.Calm) (i : SlotId) (f : DriveFrame)
    (hf : s.canTakeDrive i f = true) : s.arriveDrive i f = s.takeDrive i f := by
  have hw := State.ctrlWaiting_of_calm h
  have hi := State.waiting_of_calm h i
  have hc : ∀ q, (s.setWaiting i q).canTakeDrive i f = s.canTakeDrive i f := by
    intro q; simp [State.canTakeDrive, State.setWaiting]
  have he : (s.setWaiting i [f]).setWaiting i [] = s := by
    have : (s.setWaiting i [f]).setWaiting i [] = s.setWaiting i [] := by
      apply State.ext_slots <;> try simp
      intro j
      by_cases hj : j = i
      · subst hj; simp [State.setWaiting]
      · simp [State.setWaiting, hj]
    rw [this, State.setWaiting_nil i hi]
  have hd : (s.setWaiting i [f]).drainDrives allSlots = some (s.takeDrive i f) := by
    have hm := mem_allSlots i
    rw [State.drainDrives_only (i := i) (f := f) (by simp [State.setWaiting]) ?_ (by rw [hc, hf]) _ hm,
      he]
    intro j hj
    simp [State.setWaiting, hj, State.waiting_of_calm h j]
  unfold State.arriveDrive
  simp only [h.1, h.2, hi, List.nil_append, State.drain, State.drainOnce,
    State.setWaiting_ctrl, hw, hd]
  simp

/-- The condition of R144 holds in a ready state. -/
theorem State.canTakeDrive_ready {s : State} {i : SlotId} (h : s.DriveReady i) (f : DriveFrame) :
    s.canTakeDrive i f = true := by
  obtain ⟨hc, hu⟩ := h
  have hr : hasRoom Config.upstreamPlaces Config.driveReserve (s.slot i).upstream = true := by
    simpa [hasRoom, Config.upstreamPlaces, Config.driveReserve] using hu
  simp [State.canTakeDrive, hc.1, hr]

/-- A drive frame in a ready state is taken at once (R144). -/
theorem State.arriveDrive_ready {s : State} {i : SlotId} (h : s.DriveReady i) (f : DriveFrame) :
    s.arriveDrive i f = s.takeDrive i f :=
  State.arriveDrive_calm h.1 i f (State.canTakeDrive_ready h f)

end Sys2Proof.Machine
end

