-- ==== Sys2Proof/Laws/Slots.lean ====
section
/-! SUPPORT. What entering a state leaves in each field of a slot, what a frame handed upstream leaves in the slots, and
where the operations on one slot leave the others. -/

namespace Sys2Proof.Machine

/-! ## Entering a state -/

section enter

variable (p : Profile) (n : Nat) (st : SlotSt) (r k : Bool) (x : Slot)

@[simp] theorem Slot.enter_state : (x.enter p n st r k).ctx.state = st := rfl
@[simp] theorem Slot.enter_map : (x.enter p n st r k).ctx.map = x.ctx.map := rfl
@[simp] theorem Slot.enter_outstanding : (x.enter p n st r k).ctx.outstanding = st.outstanding := rfl
@[simp] theorem Slot.enter_deadline :
    (x.enter p n st r k).ctx.stepDeadline = classDeadline (x.classIn p) n st := rfl
@[simp] theorem Slot.enter_retry : (x.enter p n st r k).ctx.retry = if k then x.ctx.retry else 0 := rfl
@[simp] theorem Slot.enter_latch : (x.enter p n st r k).ctx.latch = x.ctx.latch := rfl
@[simp] theorem Slot.enter_emergency : (x.enter p n st r k).ctx.emergency = x.ctx.emergency := rfl
@[simp] theorem Slot.enter_spinMark : (x.enter p n st r k).ctx.spinMark = x.ctx.spinMark := rfl
@[simp] theorem Slot.enter_lastActivity :
    (x.enter p n st r k).ctx.lastActivity = x.ctx.lastActivity := rfl
@[simp] theorem Slot.enter_charge : (x.enter p n st r k).charge = x.chargeOn p st r := rfl
@[simp] theorem Slot.enter_fence : (x.enter p n st r k).fence = (x.fence && st.powered) := rfl
@[simp] theorem Slot.enter_port : (x.enter p n st r k).port = x.port.enter p n st := rfl
@[simp] theorem Slot.enter_pass : (x.enter p n st r k).pass = x.pass := rfl
@[simp] theorem Slot.enter_record : (x.enter p n st r k).record = x.record := rfl
@[simp] theorem Slot.enter_notice : (x.enter p n st r k).notice = x.notice := rfl
@[simp] theorem Slot.enter_upstream : (x.enter p n st r k).upstream = x.upstream := rfl
@[simp] theorem Slot.enter_requeues : (x.enter p n st r k).requeues = x.requeues := rfl

end enter

/-- A slot that enters an unpowered state is charged nothing and its port is as after reset (R32, R135). -/
theorem Slot.enter_unpowered (p : Profile) (n : Nat) (st : SlotSt) (r k : Bool) (x : Slot)
    (h : st.powered = false) :
    (x.enter p n st r k).charge = 0 ∧ (x.enter p n st r k).port = Port.reset := by
  simp [Slot.chargeOn, Port.enter, h, Port.powerDown]

/-- A transition that is not raising never raises the charge (R32). -/
theorem Slot.chargeOn_lowering (p : Profile) (x : Slot) (st : SlotSt) :
    x.chargeOn p st false ≤ x.charge := by
  unfold Slot.chargeOn
  split <;> simp

/-- A raising transition never lowers the charge (R32). -/
theorem Slot.chargeOn_raising (p : Profile) (x : Slot) (st : SlotSt) (h : st.powered = true) :
    x.charge ≤ x.chargeOn p st true := by
  simp [Slot.chargeOn, h]

/-- Activity touches the last-activity time and the idle timer alone. -/
theorem Slot.act_eq (p : Profile) (n : Nat) (x : Slot) :
    x.act p n = { x with ctx := { x.ctx with lastActivity := n, idleTimer := (x.act p n).ctx.idleTimer } } :=
  rfl

@[simp] theorem Slot.act_state (p : Profile) (n : Nat) (x : Slot) :
    (x.act p n).ctx.state = x.ctx.state := rfl
@[simp] theorem Slot.act_pass (p : Profile) (n : Nat) (x : Slot) : (x.act p n).pass = x.pass := rfl
@[simp] theorem Slot.act_port (p : Profile) (n : Nat) (x : Slot) : (x.act p n).port = x.port := rfl
@[simp] theorem Slot.act_charge (p : Profile) (n : Nat) (x : Slot) : (x.act p n).charge = x.charge := rfl
@[simp] theorem Slot.touchIdle_state (p : Profile) (n : Nat) (x : Slot) :
    (x.touchIdle p n).ctx.state = x.ctx.state := rfl
@[simp] theorem Slot.touchIdle_pass (p : Profile) (n : Nat) (x : Slot) :
    (x.touchIdle p n).pass = x.pass := rfl
@[simp] theorem Slot.touchIdle_port (p : Profile) (n : Nat) (x : Slot) :
    (x.touchIdle p n).port = x.port := rfl

/-! ## Frames handed upstream -/

/-- y is x but for the frames that wait upstream. -/
def Slot.SameWork (x y : Slot) : Prop := y = { x with upstream := y.upstream }

theorem Slot.SameWork.rfl (x : Slot) : x.SameWork x := Eq.refl _

theorem Slot.SameWork.trans {x y z : Slot} (h : x.SameWork y) (k : y.SameWork z) : x.SameWork z := by
  unfold Slot.SameWork at *
  rw [k, h]

@[simp] theorem State.beginUpstream_slot (s : State) (f : UpFrame) (j : SlotId) :
    (s.beginUpstream f).slot j = s.slot j := by
  unfold State.beginUpstream
  split <;> rfl

theorem State.setUpstreamAt_slot (s : State) (p : Fin 11) (q : List UpFrame) (j : SlotId) :
    (s.slot j).SameWork ((s.setUpstreamAt p q).slot j) := by
  unfold State.setUpstreamAt
  split
  · rw [State.slot_modSlot]
    split <;> exact Eq.refl _
  · exact Eq.refl _

/-- The upstream arbiter changes nothing of a slot but the frames that wait (R145). -/
theorem State.pickUpstream_slot (s : State) (j : SlotId) :
    (s.slot j).SameWork (s.pickUpstream.slot j) := by
  unfold State.pickUpstream
  split
  · exact Slot.SameWork.rfl _
  · split
    · exact Slot.SameWork.rfl _
    · split
      · exact Slot.SameWork.rfl _
      · rw [State.beginUpstream_slot]
        exact State.setUpstreamAt_slot s _ _ j

/-- A frame handed upstream changes nothing of a slot but the frames that wait (R144, R145). -/
theorem State.handUp_slot (s : State) (i : SlotId) (f : UpFrame) (j : SlotId) :
    (s.slot j).SameWork ((s.handUp i f).slot j) := by
  unfold State.handUp
  refine Slot.SameWork.trans ?_ (State.pickUpstream_slot _ j)
  rw [State.slot_modSlot]
  split <;> exact Eq.refl _

end Sys2Proof.Machine
end

