-- ==== Sys2Proof/Tests/Slice0.lean ====
section
/-! SUPPORT. Tests: ill-formed commands are refused; frames written out byte by byte from chapter 10 are read as what
they stand for; worked figures of the spec; and for every statement with hypotheses a state and operands
that meet them. -/

namespace Sys2Proof.Machine.Tests

open Sys2Proof

/-! ## States for the tests -/

/-- Command fields with a slot field and a tag, count 1. -/
def cmd (slot tag : Nat) : CmdArgs :=
  { slot := BitVec.ofNat 4 slot, tag := BitVec.ofNat 3 tag, rsv := false, flags := 0, lba := 0,
    countM1 := 0 }

/-- Slot i has entered a state since reset. -/
def at' (i : SlotId) (st : SlotSt) : State := State.reset.enter i st true false

/-- Slot 0 has entered a state since reset. -/
def at0 (st : SlotSt) : State := at' 0 st

/-- A READ of slot 0, tag 5, in flight with a re-issue count and one data request. -/
def record (reissue : Nat) (aborted : Bool) : InFlight :=
  { cmd := { op := .read, args := cmd 0 5 }, seq := 7, reissue := reissue, abortForwarded := aborted,
    requests := [{ offset := 0, lenM1 := 3 }] }

/-- Slot 0 in a state with that record in flight. -/
def flying (st : SlotSt) (reissue : Nat) (aborted : Bool) : State :=
  (at0 st).modPass 0 (fun p => { p with flight := [record reissue aborted], nextSeq := 8 })

/-- A READ of slot 0, tag 5, held with a deadline. -/
def entry : HoldEntry :=
  { cmd := { op := .read, args := cmd 0 5 }, origin := .new, seq := none, reissue := 0,
    deadline := some 60000, inProgress := false }

/-- Slot 0 in a state with that entry held. -/
def holding (st : SlotSt) : State := (at0 st).modPass 0 (fun p => { p with hold := [entry] })

/-- A frame in transmission to the case controller. -/
def onLink : UpSending := { frame := .dataRequest 0 { tag := 0, rsv := false, offset := 0, lenM1 := 0, lenRsv := 0 }, word := none }

/-- The state with the controller link busy. -/
def busy (s : State) : State := { s with ctrl := { s.ctrl with sending := some onLink } }

/-- The state with HANDLE recognized. -/
def locked (s : State) : State := { s with park := { s.park with handle := true } }

/-- The state with the marks of slot 0 changed. -/
def marked (f : SlotContext → SlotContext) (st : SlotSt) : State := (at0 st).modCtx 0 f

/-- A DATA body of a tag, offset 0, length 4. -/
def dataOf (tag : Tag) : DataBody :=
  { tag := tag, rsv := false, offset := 0, lenM1 := 3, lenRsv := 0, payload := [0xAB] }

/-! ## Ill-formed commands -/

theorem test_namedOp_is_no_other : (Instr.otherAttached 0x01 (cmd 0 0)).wellFormed = false := by decide
theorem test_abortOp_is_no_other : (Instr.otherAttached 0x3F (cmd 0 0)).wellFormed = false := by decide
theorem test_unnamedOp_is_other : (Instr.otherAttached 0x77 (cmd 0 0)).wellFormed = true := by decide
theorem test_linkReset_is_not_discarded :
    (Instr.frameDiscarded .controller [0x03]).wellFormed = false := by decide
theorem test_alert_is_not_discarded :
    (Instr.frameDiscarded (.drive 4) [0x92, 0x02]).wellFormed = false := by decide
theorem test_shortImage_is_refused :
    (Instr.profileReadComplete (List.replicate 191 0)).wellFormed = false := by
  decide +kernel
theorem test_wholeImage_is_taken :
    (Instr.profileReadComplete (List.replicate 192 0)).wellFormed = true := by
  decide +kernel

/-! ## Frames byte by byte (R173 to R175) -/

theorem test_parse_command :
    parseCtrl [0x01, 0x59, 0x02, 0xC3, 0x01, 0x02, 0x03, 0x04, 0x05, 0x06, 0xFF, 0x01]
      = .command
          { op := .write
            args :=
              { slot := 9, tag := 5, rsv := false, flags := 0xC3, lba := 0x060504030201,
                countM1 := 0x01FF } } := by decide
theorem test_parse_other :
    parseCtrl [0x01, 0x8A, 0x21, 0, 0, 0, 0, 0, 0, 0, 0, 0]
      = .command
          { op := .other 0x21
            args := { slot := 10, tag := 0, rsv := true, flags := 0, lba := 0, countM1 := 0 } } := by
  decide
theorem test_parse_data :
    parseCtrl [0x02, 0x70, 0x34, 0x12, 0xA7, 0x99]
      = .data 0
          { tag := 7, rsv := false, offset := 0x1234, lenM1 := 7, lenRsv := 0xA, payload := [0x99] } := by
  decide
theorem test_parse_linkReset : parseCtrl [0x03, 0xFF] = .linkReset := by decide
theorem test_short_command_is_discarded :
    parseCtrl [0x01, 0, 0, 0, 0, 0, 0, 0, 0, 0, 0] = .discarded := by decide
theorem test_control_from_above_is_discarded : parseCtrl [0x10, 0x01] = .discarded := by decide
theorem test_parse_completion :
    parseDrive [0x81, 0xFF, 0x01, 0x02, 0x00, 0x00, 0x01, 0, 0, 0]
      = .completion { tag := 7, op := 0x01, code := 0x02, residual := 65536 } := by decide
theorem test_parse_dataRequest :
    parseDrive [0x83, 0x20, 0x10, 0x00, 0x0F]
      = .dataRequest { tag := 2, rsv := false, offset := 16, lenM1 := 15, lenRsv := 0 } := by decide
theorem test_parse_controlReply : parseDrive [0x90, 0x03, 0x03] = .controlReply 0x03 0x03 := by decide
theorem test_parse_stateReply : parseDrive [0x91, 0x0A] = .stateReply 0x0A := by decide
theorem test_parse_selfUnload : parseDrive [0x92, 0x01] = .alertSelfUnload := by decide
theorem test_parse_unknownAlert : parseDrive [0x92, 0x03] = .discarded := by decide
theorem test_command_from_drive_is_discarded :
    parseDrive [0x01, 0, 0x01, 0, 0, 0, 0, 0, 0, 0, 0, 0] = .discarded := by decide
theorem test_badSlot_completion_bytes :
    (Completion.bytes
      { slot := 15, tag := 1, op := 0x01, source := .interposer, code := 0x40, residual := 65536,
        hint := { state := none, held := 0 } } 0x0038)
      = [0x81, 0x9F, 0x01, 0x40, 0x00, 0x00, 0x01, 0x38, 0x00, 0x0F] := by decide
theorem test_unload_control_bytes : (DownFrame.control .unload).bytes 3 = [0x10, 0x03] := by decide

/-! ## Worked figures -/

/-- Section 11.3: the record a SENSE of slot 4 returns after the fourth strike. -/
theorem test_record_of_four_strikes :
    SenseRecord.bytes
        { code := .emergencyUnload, tag := none, slotState := .unloading, motion := .jolt, held := 3,
          requeued := some 2, overrun := 4 }
      = [0x20, 0x02, 0xFF, 0x08, 0x04, 0x03, 0x02, 0x04, 0, 0, 0, 0, 0, 0, 0, 0] := by decide

/-- The monitor of section 3.8 before the strike. -/
def kerb : Motion :=
  { Motion.reset with state := .still, seeded := true, gz := 32000, acc := 320, tLast := 6 }

/-- Section 3.8: the strike takes the monitor to JOLT at its first sample. -/
theorem test_kerb_strike :
    Motion.sample Config.defaultMotion 180 (-60) 190 kerb
      = { kerb with state := .jolt, acc := 605, tally := 1, window := 1 } := by decide

/-- Section 3.8: the second sample leaves A = 603 and no settle sample counted. -/
theorem test_kerb_second :
    (let m := Motion.sample Config.defaultMotion 20 10 130
        (Motion.sample Config.defaultMotion 180 (-60) 190 kerb)
     (m.acc, m.tally, m.settle, m.state)) = (603, 1, 0, .jolt) := by decide

/-- R60: a full accumulator keeps its greatest value, 4095 · 2^kv. -/
theorem test_accumulator_full : accumulate Config.defaultMotion 65520 4095 = 65520 := by decide

/-- R53: the low 12 bits of a value, sign-extended, whatever the upper four hold. -/
theorem test_reading_sign : reading 0x5FFF = -1 ∧ reading 0xF7FF = 2047 := by decide

/-- R166: a class that reads 50, 30, 90, 70 is taken as 50, 50, 90, 90. -/
theorem test_currents_are_raised :
    (let c := classOfImage [50, 0, 30, 0, 90, 0, 70, 0] 0
     (c.iElec, c.iRun, c.iHead, c.iSpin)) = (50, 50, 90, 90) := by decide

/-- R166: a class that reads 4500, 100 is taken as 4000, 4000, and the other two are raised to 4000. -/
theorem test_currents_are_clamped :
    (let c := classOfImage [0x94, 0x11, 100, 0] 0
     (c.iElec, c.iRun, c.iHead, c.iSpin)) = (4000, 4000, 4000, 4000) := by decide

/-- R107: with 0 next, 65535 was taken after 65534, so 65534 is the earlier. -/
theorem test_age_wraps : seqAge 0 65534 > seqAge 0 65535 := by decide

/-- Three commands held at slot 0 in IDLE, their SPIN entry ahead of slot 1's, with the profile loaded. -/
def threeHeld : State :=
  ((((at0 .idle).modLoader Loader.ended).modPass 0 (fun p =>
    { p with
      hold := [{ entry with cmd := { op := .read, args := cmd 0 0 } },
               { entry with cmd := { op := .spinDown, args := cmd 0 1 } },
               { entry with cmd := { op := .read, args := cmd 0 2 } }]
      demand := some .loaded })).modBank 0 (fun k => { k with budget := 0 })).setQueue
    [{ slot := 0, kind := .spin, bank := 0, retried := false },
     { slot := 1, kind := .power, bank := 0, retried := false }]

/-- R112, R36: the expiry of the READ at the head leaves SPIN_DOWN there, so the SPIN entry is withdrawn;
SPIN_DOWN completes and the READ behind it places a new one at the tail. -/
theorem test_expiry_withdraws_before_serving :
    ((threeHeld.holdExpires 0 0).admission.queue.map (fun e => e.slot),
      ((threeHeld.holdExpires 0 0).slot 0).pass.hold.map (fun e => e.cmd.args.tag)) = ([1, 0], [2]) := by
  decide

/-- In STILL: slot 0 LOADED at a charge that a reload has since lowered, slot 1 SPUN with a LOAD entry that
fits once that charge falls. -/
def lowered : State :=
  (((({ (at0 .loaded).enter 1 .spun true false with motion := kerb }).modLoader Loader.ended).modSlot 0
    (fun x => { x with charge := 300 })).modBank 0 (fun k => { k with budget := 200 })).setQueue
    [{ slot := 1, kind := .load, bank := 0, retried := false }]

/-- R81: the unload orders go to the slots that are LOADED or LOADING when they are given, so the LOAD that
the fall of slot 0's charge grants stands. -/
theorem test_unload_orders_are_fixed_at_the_change :
    ((lowered.unloadAll false).slot 0).ctx.state = .unloading
      ∧ ((lowered.unloadAll false).slot 1).ctx.state = .loading := by decide

/-! ## Witnesses: states and operands that meet the hypotheses of each statement -/

theorem witness_StepTakesTheFront :
    ({ State.reset with pending := [.reloadEdge, .probe (cmd 0 0)] } : State).pending
        = .reloadEdge :: [.probe (cmd 0 0)]
      ∧ State.reset.pending = [] := by decide
/-- A count of frames waiting upstream at slot 0, the link busy. -/
def crowded (n : Nat) (st : SlotSt) : State :=
  busy ((at0 st).modSlot 0 (fun x => { x with upstream := List.replicate n onLink.frame }))
/-- R143, R144: with 31 frames at slot 0 a command waits whatever its slot, and with 32 a drive's DATA. -/
theorem witness_NoFrameWaitsInVain :
    (∃ t, exec (.probe (cmd 9 0)) (crowded 31 .spun) = .next t ∧ t.ctrl.waiting ≠ [])
      ∧ (∃ t, exec (.probe (cmd 9 0)) (crowded 30 .spun) = .next t ∧ t.ctrl.waiting = [])
      ∧ (∃ t, exec (.driveData 0 (dataOf 5)) (crowded 32 .spun) = .next t ∧ (t.slot 0).waiting ≠ [])
      ∧ ∃ t, exec (.driveData 0 (dataOf 5)) (crowded 31 .spun) = .next t ∧ (t.slot 0).waiting = [] :=
  ⟨⟨_, rfl, by decide⟩, ⟨_, rfl, by decide⟩, ⟨_, rfl, by decide⟩, ⟨_, rfl, by decide⟩⟩
theorem witness_ResetDeassertStarts : State.reset.ctrl.waiting = [] := by decide
theorem witness_LinkResetEmptiesTheCommands :
    (flying .loaded 0 false).CtrlReady ∧ (∀ b, ((flying .loaded 0 false).bank b).overdraw = false)
      ∧ (flying .loaded 0 false).park.lowering = false := by decide
/-- Bank 0 in OVERDRAW of a budget of 0, its slot 0 in a state with a READ held. -/
def strained (st : SlotSt) : State :=
  (holding st).modBank 0 (fun k => { k with budget := 0, overdraw := true })
theorem witness_LinkResetEmptiesTheCommands_overdraw :
    (strained .spun).CtrlReady ∧ (strained .spun).park.lowering = false
      ∧ ((strained .spun).bank 0).overdraw = true
      ∧ ((strained .spun).slot 0).ctx.map.bank = 0 ∧ 0 < (strained .spun).bankSum 0 := by decide
/-- R51: a SPUN slot whose work LINK_RESET drops is shed. -/
theorem test_link_reset_sheds :
    ∃ t, exec .linkReset (strained .spun) = .next t ∧ (t.slot 0).ctx.state = .stopping :=
  ⟨_, rfl, by decide +kernel⟩
theorem witness_CommandsAtLevelAreForwarded :
    (at' 9 .loaded).CtrlReady ∧ (at' 9 .loaded).Working ∧ slotOfField (cmd 9 7).slot = some 9
      ∧ (Op.read).wellFormed = true ∧ (Op.read).cls = .media ∧ (Op.read).need = some .loaded
      ∧ ((at' 9 .loaded).slot 9).ctx.state.holds .loaded = true
      ∧ ((at' 9 .loaded).slot 9).pass.hold = [] ∧ ((at' 9 .loaded).slot 9).fence = false
      ∧ ((at' 9 .loaded).slot 9).pass.inUse (cmd 9 7).tag = false
      ∧ ((at' 9 .loaded).lock && (Op.read).above (at' 9 .loaded).profile.parkLevel) = false
      ∧ (at' 9 .loaded).park.lowering = false ∧ (at' 9 .loaded).overdrawn 9 = false := by decide
theorem witness_CommandsAtLevelAreForwarded_attached :
    (at0 .idle).CtrlReady ∧ (at0 .idle).Working ∧ slotOfField (cmd 0 0).slot = some 0
      ∧ (Op.other 0x21).wellFormed = true
      ∧ (Op.other 0x21).cls = .attached ∧ (Op.sense).cls = .attached ∧ (Op.sense).need = some .idle
      ∧ ((at0 .idle).slot 0).record = none ∧ (Op.other 0x21).need = some .idle
      ∧ ((at0 .idle).slot 0).ctx.state.holds .idle = true ∧ ((at0 .idle).slot 0).pass.hold = []
      ∧ ((at0 .idle).slot 0).fence = false ∧ ((at0 .idle).slot 0).pass.inUse 0 = false
      ∧ (at0 .idle).lock = false ∧ (at0 .idle).park.lowering = false := by decide
/-- The lowering phase with slot 0 SPUN, at the park level SPUN. -/
def loweringAtSpun : State :=
  { at0 .spun with
    park := { (at0 .spun).park with handle := true, lowering := true }
    loader := { (at0 .spun).loader with profile := { Config.defaults with parkLevel := .spun } } }
theorem witness_CommandsAtLevelAreForwarded_lowering :
    loweringAtSpun.CtrlReady ∧ loweringAtSpun.Working ∧ loweringAtSpun.park.lowering = true
      ∧ (loweringAtSpun.slot 0).ctx.state = .spun ∧ loweringAtSpun.profile.parkLevel = .spun
      ∧ (Op.identify).cls = .attached ∧ (Op.identify).need = some .idle
      ∧ (loweringAtSpun.slot 0).ctx.state.holds .idle = true ∧ (loweringAtSpun.slot 0).pass.hold = []
      ∧ (loweringAtSpun.slot 0).fence = false ∧ (loweringAtSpun.slot 0).pass.inUse 0 = false
      ∧ (loweringAtSpun.lock && (Op.identify).above loweringAtSpun.profile.parkLevel) = false := by decide
theorem witness_CommandsBelowLevelAreHeld :
    (at0 .off).CtrlReady ∧ slotOfField (cmd 0 0).slot = some 0 ∧ (Op.spinUp).wellFormed = true
      ∧ (Op.spinUp).need = some .spun ∧ ((at0 .off).slot 0).ctx.state ≠ .empty
      ∧ ((at0 .off).slot 0).ctx.state ≠ .fault ∧ ((at0 .off).slot 0).ctx.state.holds .spun = false
      ∧ ((at0 .off).slot 0).pass.hold = [] ∧ ((at0 .off).slot 0).pass.inUse 0 = false
      ∧ (at0 .off).lock = false ∧ (at0 .off).park.lowering = false
      ∧ (at0 .off).loader.readState = .powerOnRead ∧ (at0 .off).overdrawn 0 = false
      ∧ ((at0 .off).slot 0).ctx.state.nextKind = some .power ∧ (at0 .off).admission.queue = [] := by
  decide
/-- The state with slot 0 behind its cancel fence. -/
def fenced (s : State) : State :=
  s.modSlot 0 (fun x => { x with fence := true, port := { x.port with cancelPending := true } })

theorem witness_CommandsBelowLevelAreHeld_tail :
    (fenced (at0 .spun)).CtrlReady ∧ ((fenced (at0 .spun)).slot 0).fence = true
      ∧ ((fenced (at0 .spun)).slot 0).ctx.state = .spun ∧ ((fenced (at0 .spun)).slot 0).pass.inUse 0 = false
      ∧ (fenced (at0 .spun)).lock = false ∧ (fenced (at0 .spun)).park.lowering = false
      ∧ (Op.spinDown).wellFormed = true ∧ (Op.spinDown).cls ≠ .probe ∧ (Op.spinDown).cls ≠ .abort
      ∧ (holding .spun).CtrlReady ∧ ((holding .spun).slot 0).pass.hold = [entry]
      ∧ entry.cmd.op.need = some .loaded ∧ ((holding .spun).slot 0).ctx.state.holds .loaded = false
      ∧ ((holding .spun).slot 0).pass.inUse 0 = false ∧ ((holding .spun).slot 0).record = none
      ∧ ((holding .spun).slot 0).ctx.state.powered = true ∧ (Op.sense).cls = .attached := by decide
/-- R107: an IDENTIFY joins the tail behind a READ that waits for the heads, and does not pass it. -/
theorem test_identify_waits_behind_the_head :
    ∃ t, exec (.identify (cmd 0 1)) (holding .spun) = .next t
      ∧ (t.slot 0).pass.hold.map (fun e => e.cmd.args.tag) = [5, 1] := ⟨_, rfl, by decide⟩
theorem witness_RaisingCompletesAtLevel :
    (at0 .spun).CtrlReady ∧ slotOfField (cmd 0 0).slot = some 0 ∧ (Op.spinUp).cls = .raising .spun
      ∧ ((at0 .spun).slot 0).ctx.state.holds .spun = true ∧ ((at0 .spun).slot 0).pass.hold = []
      ∧ ((at0 .spun).slot 0).fence = false ∧ ((at0 .spun).slot 0).pass.inUse 0 = false
      ∧ (at0 .spun).lock = false ∧ (at0 .spun).park.lowering = false
      ∧ (at0 .spun).overdrawn 0 = false := by decide
theorem witness_LoweringCompletesAtTarget :
    (at0 .spun).CtrlReady ∧ slotOfField (cmd 0 0).slot = some 0
      ∧ (Op.unloadHeads).cls = .lowering .spun ∧ ((at0 .spun).slot 0).ctx.state.settled = true
      ∧ ((at0 .spun).slot 0).ctx.state.rank ≤ Level.rank .spun ∧ ((at0 .spun).slot 0).pass.hold = []
      ∧ ((at0 .spun).slot 0).pass.flight = [] ∧ ((at0 .spun).slot 0).fence = false
      ∧ ((at0 .spun).slot 0).pass.inUse 0 = false ∧ (at0 .spun).park.lowering = false
      ∧ (at0 .spun).overdrawn 0 = false := by decide
theorem witness_LoweringTakesTheFirstStep :
    (at0 .loaded).CtrlReady ∧ (at0 .spun).CtrlReady ∧ slotOfField (cmd 0 0).slot = some 0
      ∧ (Op.spinDown).cls = .lowering .idle ∧ ((at0 .loaded).slot 0).pass.hold = []
      ∧ ((at0 .loaded).slot 0).pass.flight = [] ∧ ((at0 .loaded).slot 0).fence = false
      ∧ ((at0 .loaded).slot 0).pass.inUse 0 = false ∧ ((at0 .loaded).slot 0).ctx.state = .loaded
      ∧ ((at0 .spun).slot 0).pass = ((at0 .loaded).slot 0).pass ∧ ((at0 .spun).slot 0).fence = false
      ∧ ((at0 .spun).slot 0).ctx.state = .spun ∧ Level.idle ≠ .spun := by decide
theorem witness_LoweringTakesTheFirstStep_unsettled (st : SlotSt) :
    st = .powering ∨ st = .spinningUp ∨ st = .loading ∨ st = .unloading ∨ st = .stopping →
      (at0 st).CtrlReady ∧ (at0 st).Working ∧ ((at0 st).slot 0).ctx.state = st
        ∧ ((at0 st).slot 0).pass = Passage.reset
        ∧ ((at0 st).slot 0).fence = false ∧ (at0 st).overdrawn 0 = false
        ∧ slotOfField (cmd 0 0).slot = some 0 ∧ (Op.spinDown).cls = .lowering .idle := by
  rintro (rfl | rfl | rfl | rfl | rfl) <;> decide
theorem witness_LoweringTakesTheFirstStep_barrier :
    (flying .loaded 0 false).CtrlReady ∧ (flying .loaded 0 false).Working
      ∧ ((flying .loaded 0 false).slot 0).pass.flight ≠ []
      ∧ ((flying .loaded 0 false).slot 0).pass.hold = []
      ∧ ((flying .loaded 0 false).slot 0).pass.inUse 0 = false
      ∧ (flying .loaded 0 false).park.lowering = false
      ∧ ((flying .loaded 0 false).slot 0).ctx.state = .loaded := by decide
theorem witness_PowerOffFromIdle :
    (at0 .idle).CtrlReady ∧ slotOfField (cmd 0 0).slot = some 0 ∧ ((at0 .idle).slot 0).ctx.state = .idle
      ∧ ((at0 .idle).slot 0).pass.hold = [] ∧ ((at0 .idle).slot 0).pass.flight = []
      ∧ ((at0 .idle).slot 0).pass.aborts = [] ∧ ((at0 .idle).slot 0).fence = false
      ∧ ((at0 .idle).profile.slots[(0 : SlotId)]).enabled = true ∧ (at0 .idle).overdrawn 0 = false := by
  decide
/-- The state with a profile in force that disables slot 0. -/
def disabling (s : State) : State :=
  s.modLoader (fun l =>
    { l with
      profile :=
        { l.profile with
          slots := l.profile.slots.set 0 { l.profile.slots[(0 : SlotId)] with enabled := false } } })
theorem witness_PowerOffFromIdle_disabled :
    (disabling (at0 .idle)).CtrlReady ∧ ((disabling (at0 .idle)).slot 0).ctx.state = .idle
      ∧ ((disabling (at0 .idle)).profile.slots[(0 : SlotId)]).enabled = false
      ∧ ((disabling (at0 .idle)).slot 0).pass = Passage.reset
      ∧ (disabling (at0 .idle)).overdrawn 0 = false := by decide
/-- Slot 0 in a state with nothing in flight and an ABORT of tag 5 still listed. -/
def listed (st : SlotSt) : State :=
  (at0 st).modPass 0 (fun p => { p with aborts := [{ op := .abort, args := cmd 0 5 }] })
theorem witness_PowerOffFromIdle_listed :
    (listed .idle).CtrlReady ∧ ((listed .idle).slot 0).ctx.state = .idle
      ∧ ((listed .idle).slot 0).pass.hold = [] ∧ ((listed .idle).slot 0).pass.flight = []
      ∧ ((listed .idle).slot 0).pass.aborts ≠ []
      ∧ (∀ a ∈ ((listed .idle).slot 0).pass.aborts,
          a.args.slot = (cmd 0 0).slot ∧ a.args.tag ≠ (cmd 0 0).tag)
      ∧ ((listed .idle).slot 0).fence = false ∧ (listed .idle).overdrawn 0 = false := by decide
theorem witness_ProbeIsAnswered : State.reset.CtrlReady ∧ slotOfField (cmd 9 0).slot = some 9 := by decide
/-- R27: an answered PROBE restarts the idle timer of a LOADED slot, 30 s in class 0. -/
theorem test_probe_restarts_the_idle_timer :
    ∃ t, exec (.probe (cmd 0 1)) { at0 .loaded with now := 7 } = .next t
      ∧ (t.slot 0).ctx.idleTimer = some 30007 := ⟨_, rfl, by decide⟩
/-- A sense record of a tag refused in OFF. -/
def kept : SenseRecord :=
  { code := .tagInUse, tag := some 3, slotState := .off, motion := .settling, held := 1, requeued := none,
    overrun := 15 }
theorem witness_SenseReadsTheRecord :
    ((at0 .fault).modSlot 0 (fun x => { x with record := some kept })).CtrlReady
      ∧ slotOfField (cmd 0 0).slot = some 0
      ∧ (((at0 .fault).modSlot 0 (fun x => { x with record := some kept })).slot 0).record = some kept := by
  decide
theorem witness_SenseFindsNoRecord :
    State.reset.CtrlReady ∧ slotOfField (cmd 0 0).slot = some 0 ∧ (State.reset.slot 0).record = none
      ∧ (State.reset.slot 0).ctx.state.powered = false := by decide
theorem witness_AbortOfHeldEndsIt :
    (busy (holding .spun)).CtrlReady ∧ slotOfField (cmd 0 5).slot = some 0
      ∧ ((busy (holding .spun)).slot 0).pass.held? 5 = some entry
      ∧ entry.cmd.args.slot = (cmd 0 5).slot ∧ (busy (holding .spun)).ctrl.sending ≠ none := by decide
theorem witness_AbortOfInFlightIsForwarded :
    (flying .loaded 0 false).CtrlReady ∧ slotOfField (cmd 0 5).slot = some 0
      ∧ ((flying .loaded 0 false).slot 0).pass.held? 5 = none
      ∧ ((flying .loaded 0 false).slot 0).pass.aborting 5 = false
      ∧ ((flying .loaded 0 false).slot 0).pass.flight? 5 = some (record 0 false) := by decide
theorem witness_ArrivalsAreRefused_badSlot :
    State.reset.CtrlReady ∧ (Op.read).wellFormed = true ∧ slotOfField (cmd 10 0).slot = none
      ∧ slotOfField (cmd 15 0).slot = none := by decide
theorem witness_ArrivalsAreRefused_empty :
    (at' 9 .empty).CtrlReady ∧ slotOfField (cmd 9 0).slot = some 9
      ∧ ((at' 9 .empty).slot 9).ctx.state = .empty := by decide
theorem witness_ArrivalsAreRefused_tagInUse :
    (flying .loaded 0 false).CtrlReady ∧ ((flying .loaded 0 false).slot 0).ctx.state = .loaded
      ∧ ((flying .loaded 0 false).slot 0).pass.inUse (cmd 0 5).tag = true := by decide
theorem witness_ArrivalsAreRefused_inTransit :
    (locked (at0 .idle)).CtrlReady ∧ ((locked (at0 .idle)).slot 0).ctx.state = .idle
      ∧ ((locked (at0 .idle)).slot 0).pass.inUse 0 = false ∧ (locked (at0 .idle)).lock = true
      ∧ (Op.spinUp).need = some .spun
      ∧ (locked (at0 .idle)).profile.parkLevel.rank < Level.rank .spun := by decide
theorem witness_ArrivalsAreRefused_sense :
    ((flying .loaded 0 false).slot 0).record = none
      ∧ ((flying .loaded 0 false).slot 0).ctx.state.powered = true
      ∧ ((flying .loaded 0 false).slot 0).pass.inUse 5 = true
      ∧ (Op.sense).need = some .idle
      ∧ { Config.defaults with parkLevel := .off }.parkLevel.rank < Level.rank .idle := by decide
theorem witness_ArrivalsAreRefused_tagUnknown :
    (State.reset.slot 0).pass.held? 0 = none ∧ (State.reset.slot 0).pass.aborting 0 = false
      ∧ (State.reset.slot 0).pass.flight? 0 = none := by decide
/-- Slot 0 in an acknowledged FAULT. -/
def acknowledged : State := marked (fun c => { c with faultAck := true }) .fault
theorem witness_ArrivalsAreRefused_fault :
    (at0 .fault).CtrlReady ∧ ((at0 .fault).slot 0).ctx.state = .fault
      ∧ ((at0 .fault).slot 0).ctx.faultAck = false ∧ (Op.spinDown) ≠ .powerOff ∧ acknowledged.CtrlReady
      ∧ (acknowledged.slot 0).ctx.state = .fault ∧ (acknowledged.slot 0).ctx.faultAck = true
      ∧ (acknowledged.slot 0).ctx.latch = false
      ∧ (acknowledged.profile.slots[(0 : SlotId)]).enabled = true
      ∧ (acknowledged.slot 0).pass.hold = [] ∧ (acknowledged.slot 0).pass.aborts = []
      ∧ (Op.spinUp).cls = .raising .spun ∧ (acknowledged.slot 0).pass.inUse 0 = false
      ∧ acknowledged.lock = false ∧ acknowledged.loader.readState = .powerOnRead
      ∧ acknowledged.Working := by decide
theorem witness_ArrivalsAreRefused_fault_locked :
    (locked acknowledged).CtrlReady ∧ ((locked acknowledged).slot 0).ctx.faultAck = true
      ∧ (locked acknowledged).lock = true
      ∧ (locked acknowledged).profile.parkLevel.rank < Level.rank .spun := by decide
theorem witness_DataAnswersItsRequest :
    (flying .loaded 0 false).CtrlReady ∧ slotOfField 0 = some 0
      ∧ ((flying .loaded 0 false).slot 0).port.data.length < 64
      ∧ ((flying .loaded 0 false).slot 0).pass.flight? (dataOf 5).tag = some (record 0 false)
      ∧ ({ offset := (dataOf 5).offset, lenM1 := (dataOf 5).lenM1 } : DataRequest)
          ∈ (record 0 false).requests
      ∧ ((flying .loaded 0 false).slot 0).pass.flight? (dataOf 4).tag = none
      ∧ ({ offset := 1, lenM1 := 3 } : DataRequest) ∉ (record 0 false).requests := by decide
theorem witness_DataAnswersItsRequest_badSlot :
    State.reset.CtrlReady ∧ slotOfField 10 = none ∧ slotOfField 15 = none := by decide
theorem witness_DiscardedFramesChangeNothing :
    frameIsDiscarded .controller [0x10, 0x01] = true ∧ frameIsDiscarded (.drive 9) [0x92, 0x03] = true
      ∧ State.reset.CtrlReady ∧ State.reset.Calm := by decide
theorem witness_CompletionsPassUp :
    (flying .loaded 0 false).DriveReady 0 ∧ ((flying .loaded 0 false).slot 0).ctx.state.powered = true
      ∧ ((flying .loaded 0 false).slot 0).port.cancelPending = false
      ∧ ((flying .loaded 0 false).slot 0).pass.flight? 5 = some (record 0 false)
      ∧ ((flying .loaded 0 false).slot 0).pass.hold = [] ∧ (flying .loaded 0 false).park.lowering = false
      ∧ (flying .loaded 0 false).overdrawn 0 = false := by decide
/-- Slot 0 in a state with the record in flight and a command of an operation held, tag 1. -/
def barred (st : SlotSt) (op : Op) : State :=
  (flying st 0 false).modPass 0 (fun p =>
    { p with hold := [{ entry with cmd := { op := op, args := cmd 0 1 } }] })
theorem witness_CompletionsPassUp_barrier :
    (∀ st, st = SlotSt.loaded ∨ st = .spun ∨ st = .idle →
      (barred st .powerOff).DriveReady 0 ∧ ((barred st .powerOff).slot 0).ctx.state = st
        ∧ ((barred st .powerOff).slot 0).ctx.state.powered = true
        ∧ ((barred st .powerOff).slot 0).port.cancelPending = false
        ∧ ((barred st .powerOff).slot 0).pass.flight = [record 0 false]
        ∧ ((barred st .powerOff).slot 0).fence = false ∧ (barred st .powerOff).overdrawn 0 = false
        ∧ ((barred st .powerOff).slot 0).pass.aborts = []
        ∧ ((barred st .powerOff).profile.slots[(0 : SlotId)]).enabled = true)
      ∧ (record 0 false).cmd.args.tag = 5 ∧ (Op.powerOff).cls = .lowering .off
      ∧ (cmd 0 1).slot = fieldOfSlot 0 ∧ (Op.unloadHeads).cls = .lowering .spun
      ∧ ((barred .spun .unloadHeads).slot 0).ctx.state.settled = true
      ∧ ((barred .spun .unloadHeads).slot 0).ctx.state.rank ≤ Level.rank .spun
      ∧ (barred .spun .unloadHeads).park.lowering = false := by
  refine ⟨?_, by decide, by decide, by decide, by decide, by decide, by decide, by decide⟩
  rintro st (rfl | rfl | rfl) <;> decide
/-- Slot 0 IDLE with the record in flight in the lowering phase, at the park level OFF. -/
def lastInFlight : State :=
  { flying .idle 0 false with
    park := { (flying .idle 0 false).park with handle := true, lowering := true }
    loader := { (flying .idle 0 false).loader with profile := { Config.defaults with parkLevel := .off } } }
theorem witness_CompletionsPassUp_lowering :
    lastInFlight.DriveReady 0 ∧ (lastInFlight.slot 0).ctx.state = .idle
      ∧ (lastInFlight.slot 0).port.cancelPending = false
      ∧ (lastInFlight.slot 0).pass.flight = [record 0 false] ∧ (lastInFlight.slot 0).pass.hold = []
      ∧ (lastInFlight.slot 0).pass.aborts = [] ∧ lastInFlight.park.lowering = true
      ∧ lastInFlight.profile.parkLevel = .off
      ∧ (lastInFlight.profile.slots[(0 : SlotId)]).enabled = true := by decide
/-- Slot 0 LOADED with the record in flight and its ABORT forwarded. -/
def aborting : State :=
  (flying .loaded 0 true).modPass 0 (fun p => { p with aborts := [{ op := .abort, args := cmd 0 5 }] })
theorem witness_CompletionsPassUp_abort :
    aborting.DriveReady 0 ∧ (aborting.slot 0).ctx.state.powered = true
      ∧ (aborting.slot 0).port.cancelPending = false
      ∧ (∃ c ∈ (aborting.slot 0).pass.aborts, c.args.tag = 5)
      ∧ (∀ c ∈ (aborting.slot 0).pass.aborts, c.args.tag ≠ 4)
      ∧ (aborting.slot 0).pass.flight? 4 = none ∧ State.reset.DriveReady 0
      ∧ (State.reset.slot 0).ctx.state.powered = false := by decide
theorem witness_ArrivalsAreRefused_secondAbort :
    aborting.CtrlReady ∧ (aborting.slot 0).pass.held? 5 = none
      ∧ (aborting.slot 0).pass.aborting 5 = true := by decide
theorem witness_UnloadAbortsAreRequeued :
    (flying .unloading 2 false).DriveReady 0 ∧ (flying .unloading 2 false).Working ∧ ((flying .unloading 2 false).slot 0).ctx.state = .unloading
      ∧ ((flying .unloading 2 false).slot 0).port.cancelPending = false
      ∧ ((flying .unloading 2 false).slot 0).pass.flight? 5 = some (record 2 false)
      ∧ (record 2 false).cmd.op.cls = .media ∧ (record 2 false).abortForwarded = false
      ∧ (record 2 false).reissue < 3 ∧ ((flying .unloading 2 false).slot 0).pass.hold = []
      ∧ (flying .unloading 2 false).lock = false := by decide
theorem witness_UnloadAbortsAreRequeued_selfUnload :
    (flying .loaded 2 false).DriveReady 0 ∧ (flying .loaded 2 false).Working
      ∧ ((flying .loaded 2 false).slot 0).ctx.state = .loaded
      ∧ ((flying .loaded 2 false).slot 0).pass.flight? 5 = some (record 2 false)
      ∧ (flying .loaded 2 false).park.lowering = false
      ∧ (∀ e ∈ (flying .loaded 2 false).admission.queue, e.slot ≠ 0) := by decide
theorem witness_UnloadAbortsAreRequeued_lock :
    (busy (locked (flying .loaded 2 false))).DriveReady 0
      ∧ ((busy (locked (flying .loaded 2 false))).slot 0).ctx.state = .loaded
      ∧ ((busy (locked (flying .loaded 2 false))).slot 0).pass.flight? 5 = some (record 2 false)
      ∧ (record 2 false).cmd.op.need = some .loaded ∧ (busy (locked (flying .loaded 2 false))).lock = true
      ∧ (busy (locked (flying .loaded 2 false))).profile.parkLevel.rank < Level.rank .loaded
      ∧ (busy (locked (flying .loaded 2 false))).park.lowering = false
      ∧ (busy (locked (flying .loaded 2 false))).overdrawn 0 = false
      ∧ (busy (locked (flying .unloading 2 false))).DriveReady 0
      ∧ ((busy (locked (flying .unloading 2 false))).slot 0).ctx.state = .unloading := by decide
theorem witness_RequeueKeepsTheOrder :
    ({ entry with origin := .requeued, seq := some 6 } : HoldEntry).origin = .requeued
      ∧ RequeuedFirst 8 [{ entry with origin := .requeued, seq := some 5 }, entry] := by
  refine ⟨rfl, ?_⟩
  simp [RequeuedFirst, entry]
theorem witness_ReissueLimitEndsTheCommand :
    (busy (flying .unloading 3 false)).DriveReady 0
      ∧ ((busy (flying .unloading 3 false)).slot 0).ctx.state = .unloading
      ∧ ((busy (flying .unloading 3 false)).slot 0).port.cancelPending = false
      ∧ ((busy (flying .unloading 3 false)).slot 0).pass.flight? 5 = some (record 3 false)
      ∧ (record 3 false).reissue = 3 ∧ ((flying .unloading 0 true).slot 0).pass.flight? 5 = some (record 0 true)
      ∧ (record 0 true).abortForwarded = true ∧ (record 3 false).cmd.args.slot = fieldOfSlot 0
      ∧ ((busy (flying .unloading 3 false)).slot 0).pass.hold = []
      ∧ (busy (flying .unloading 3 false)).park.lowering = false
      ∧ (busy (flying .unloading 3 false)).overdrawn 0 = false
      ∧ (busy (flying .loaded 3 false)).DriveReady 0
      ∧ ((busy (flying .loaded 3 false)).slot 0).ctx.state = .loaded := by decide
theorem witness_DriveDataPassesUp :
    (flying .loaded 0 false).DriveReady 0 ∧ ((flying .loaded 0 false).slot 0).ctx.state.powered = true
      ∧ ((flying .loaded 0 false).slot 0).port.cancelPending = false
      ∧ ((flying .loaded 0 false).slot 0).pass.flight? (dataOf 5).tag = some (record 0 false)
      ∧ ((flying .loaded 0 false).slot 0).pass.flight? (dataOf 4).tag = none := by decide
theorem witness_LoadDoneLoads :
    (at0 .loading).DriveReady 0 ∧ ((at0 .loading).slot 0).ctx.state = .loading
      ∧ ((at0 .loading).slot 0).ctx.outstanding = .load ∧ ((at0 .loading).slot 0).pass.hold = []
      ∧ (at0 .unloading).DriveReady 0 ∧ ((at0 .unloading).slot 0).ctx.outstanding ≠ .load := by decide
theorem witness_LoadDoneLoads_notAwaited :
    ((at0 .loading).slot 0).ctx.state.powered = true
      ∧ ¬ (((0x05 : Byte) = 0x01 ∧ (0x03 : Byte) = 0x02 ∧ ((at0 .loading).slot 0).ctx.outstanding = .spin)
        ∨ ((0x05 : Byte) = 0x02 ∧ ((0x03 : Byte) = 0x03 ∨ (0x03 : Byte) = 0x04)
          ∧ ((at0 .loading).slot 0).ctx.outstanding = .load)
        ∨ ((0x05 : Byte) = 0x03 ∧ ((0x03 : Byte) = 0x03 ∨ (0x03 : Byte) = 0x04)
          ∧ ((at0 .loading).slot 0).ctx.outstanding = .unload)
        ∨ ((0x05 : Byte) = 0x06 ∧ (0x03 : Byte) = 0x03
          ∧ ((at0 .loading).slot 0).port.cancelPending = true)) := by decide
/-- Slot 0 LOADING with a READ requeued and an IDENTIFY held behind it. -/
def loadingHeld : State :=
  (at0 .loading).modPass 0 (fun p =>
    { p with
      hold := [{ entry with origin := .requeued, seq := some 3, reissue := 1 },
               { entry with cmd := { op := .identify, args := cmd 0 2 } }]
      nextSeq := 8 })
theorem witness_LoadDoneLoads_held :
    loadingHeld.DriveReady 0 ∧ loadingHeld.Working ∧ (loadingHeld.slot 0).ctx.state = .loading
      ∧ (loadingHeld.slot 0).ctx.outstanding = .load ∧ (loadingHeld.slot 0).fence = false
      ∧ (∀ e ∈ (loadingHeld.slot 0).pass.hold, e.cmd.op.cls = .media ∨ e.cmd.op.cls = .attached)
      ∧ ((loadingHeld.slot 0).pass.hold.map (fun e => e.cmd.args.tag)).Nodup := by decide
theorem witness_LoadDoneLoads_raising :
    ((at0 .loading).modPass 0 (fun p =>
      { p with hold := [{ entry with cmd := { op := .loadHeads, args := cmd 0 1 } }] })).DriveReady 0
      ∧ ((at0 .loading).slot 0).ctx.outstanding = .load ∧ ((at0 .loading).slot 0).fence = false
      ∧ (Op.loadHeads).cls = .raising .loaded ∧ (cmd 0 1).slot = fieldOfSlot 0 := by decide
/-- R113: the REQUEUED entry keeps sequence 3, the NEW one takes 8. -/
theorem test_load_done_forwards_in_order :
    ∃ t, exec (.controlReply 0 0x02 0x03) loadingHeld = .next t
      ∧ (t.slot 0).pass.flight.map (fun r => (r.cmd.args.tag, r.seq, r.reissue)) = [(5, 3, 1), (2, 8, 0)]
      ∧ (t.slot 0).pass.nextSeq = 9 := ⟨_, rfl, by decide, by decide⟩
theorem witness_LoadDoneLoads_cancel :
    (fenced (at0 .spun)).DriveReady 0 ∧ ((fenced (at0 .spun)).slot 0).ctx.state.powered = true
      ∧ ((fenced (at0 .spun)).slot 0).port.cancelPending = true
      ∧ ((fenced (at0 .spun)).slot 0).pass.hold = [] ∧ (fenced (at0 .spun)).park.lowering = false
      ∧ (fenced (at0 .spun)).overdrawn 0 = false ∧ (fenced (holding .loaded)).DriveReady 0
      ∧ ((fenced (holding .loaded)).slot 0).ctx.state = .loaded
      ∧ ((fenced (holding .loaded)).slot 0).port.cancelPending = true
      ∧ ((fenced (holding .loaded)).slot 0).pass.hold = [entry] ∧ entry.cmd.op.cls = .media
      ∧ entry.seq = none ∧ ((at0 .spun).slot 0).port.cancelPending = false := by decide
theorem witness_UnloadDoneReports :
    (marked (fun c => { c with emergency := true }) .unloading).DriveReady 0
      ∧ ((marked (fun c => { c with emergency := true }) .unloading).slot 0).ctx.state = .unloading
      ∧ ((marked (fun c => { c with emergency := true }) .unloading).slot 0).ctx.outstanding = .unload
      ∧ ((marked (fun c => { c with emergency := true }) .unloading).slot 0).pass.hold = []
      ∧ (marked (fun c => { c with emergency := true }) .unloading).park.lowering = false
      ∧ (marked (fun c => { c with emergency := true }) .unloading).overdrawn 0 = false := by decide
/-- An IDENTIFY of slot 0, tag 2, held as a NEW entry. -/
def identified : HoldEntry := { entry with cmd := { op := .identify, args := cmd 0 2 } }
/-- Slot 0 in a state with that IDENTIFY held ahead of the READ. -/
def queued (st : SlotSt) : State := (at0 st).modPass 0 (fun p => { p with hold := [identified, entry] })
theorem witness_HeldAs_spun (st : SlotSt) :
    ((queued st).slot 0).HeldAs .spun [identified] [entry] := by
  refine ⟨by cases st <;> rfl, by cases st <;> decide, by cases st <;> rfl, by cases st <;> decide,
    by decide, ?_⟩
  rintro h ⟨⟩
  exact ⟨rfl, .loaded, rfl, by decide⟩
theorem witness_HeldAs_idle (st : SlotSt) :
    ((queued st).slot 0).HeldAs .idle [identified] [entry] := by
  refine ⟨by cases st <;> rfl, by cases st <;> decide, by cases st <;> rfl, by cases st <;> decide,
    by decide, ?_⟩
  rintro h ⟨⟩
  exact ⟨rfl, .loaded, rfl, by decide⟩
theorem witness_UnloadDoneReports_held :
    (queued .unloading).DriveReady 0 ∧ ((queued .unloading).slot 0).ctx.state = .unloading
      ∧ ((queued .unloading).slot 0).ctx.outstanding = .unload
      ∧ (queued .unloading).park.lowering = false := by decide
/-- A lowering command of slot 0, tag 1, in progress. -/
def descending (op : Op) : HoldEntry :=
  { entry with cmd := { op := op, args := cmd 0 1 }, deadline := none, inProgress := true }
/-- Slot 0 in a state with a lowering command in progress and a rest behind it. -/
def descent (st : SlotSt) (op : Op) (rest : List HoldEntry) : State :=
  (at0 st).modPass 0 (fun p => { p with hold := descending op :: rest })
theorem witness_PerformsHead (st : SlotSt) :
    ((descent st .unloadHeads [entry]).slot 0).PerformsHead (descending .unloadHeads) [entry] .spun
      ∧ ((descent st .spinDown []).slot 0).PerformsHead (descending .spinDown) [] .idle
      ∧ ((descent st .powerOff []).slot 0).PerformsHead (descending .powerOff) [] .off := by
  cases st <;> decide
theorem witness_PerformsHead_events (st : SlotSt) :
    (descent st .spinDown []).DriveReady 0 ∧ (descent st .spinDown []).park.lowering = false
      ∧ (descent st .spinDown []).overdrawn 0 = false
      ∧ ((descent st .spinDown []).slot 0).ctx.state = st
      ∧ ((descent st .spinDown []).slot 0).ctx.outstanding = st.outstanding
      ∧ ((descent st .spinDown []).slot 0).ctx.spinMark = false
      ∧ ((descent st .spinDown []).slot 0).pass.demand = none
      ∧ (Op.unloadHeads).cls = .lowering .spun ∧ entry.inProgress = false
      ∧ entry.cmd.op.need = some .loaded ∧ Kind.load.source.rank < Level.rank .loaded := by
  cases st <;> decide
theorem witness_PerformedOff :
    (busy (descent .stopping .powerOff [])).ctrl.sending ≠ none
      ∧ ∀ c ∈ ((busy (descent .stopping .powerOff [])).slot 0).pass.commands,
          c.args.slot = fieldOfSlot 0 := by decide
/-- R110: the end of the unload completes UNLOAD_HEADS, and the READ behind it asks for the heads again. -/
theorem test_unload_done_completes_unload_heads :
    ∃ t, exec (.controlReply 0 0x03 0x03) (descent .unloading .unloadHeads [entry]) = .next t
      ∧ (t.slot 0).pass.hold = [entry] ∧ (t.slot 0).ctx.state = .spun := ⟨_, rfl, by decide, by decide⟩
/-- R110: the end of the stop takes POWER_OFF on to OFF. -/
theorem test_stopped_takes_power_off_on :
    ∃ t, exec (.stateReply 0 0x00) (descent .stopping .powerOff []) = .next t
      ∧ (t.slot 0).pass.hold = [] ∧ (t.slot 0).ctx.state = .off := ⟨_, rfl, by decide, by decide⟩
theorem witness_UnloadDoneReports_flying :
    (flying .unloading 0 false).DriveReady 0
      ∧ ((flying .unloading 0 false).slot 0).ctx.state = .unloading
      ∧ ((flying .unloading 0 false).slot 0).pass.hold = []
      ∧ ((flying .unloading 0 false).slot 0).pass.flight ≠ []
      ∧ ((flying .unloading 0 false).slot 0).ctx.outstanding = .unload := by decide
theorem witness_StateRepliesEndSteps_flying :
    (flying .stopping 0 false).DriveReady 0 ∧ ((flying .stopping 0 false).slot 0).ctx.state = .stopping
      ∧ ((flying .stopping 0 false).slot 0).ctx.spinMark = false
      ∧ ((flying .stopping 0 false).slot 0).pass.hold = []
      ∧ ((flying .stopping 0 false).slot 0).pass.flight ≠ []
      ∧ (flying .stopping 0 false).park.lowering = false := by decide
/-- Slot 0 in POWERING with a READ held, in a bank of a budget of 0. -/
def unfed : State := strained .powering
theorem witness_StateRepliesEndSteps_unfed :
    unfed.DriveReady 0 ∧ (unfed.slot 0).ctx.state = .powering ∧ unfed.overdrawn 0 = true
      ∧ (unfed.slot 0).pass.hold = [entry] ∧ entry.cmd.op.need = some .loaded
      ∧ (unfed.profile.slots[(0 : SlotId)]).enabled = true
      ∧ ((disabling unfed).profile.slots[(0 : SlotId)]).enabled = false
      ∧ ((disabling unfed).slot 0).pass.hold = [entry] := by decide
theorem witness_FaultedWith_disabled :
    (disabling (at0 .loaded)).DriveReady 0 ∧ ((disabling (at0 .loaded)).slot 0).ctx.state.powered = true
      ∧ ((disabling (at0 .loaded)).profile.slots[(0 : SlotId)]).enabled = false := by decide
/-- R5, R25: a FAULT under a disabling slot map ends in EMPTY, its DRIVE entry the one in the record. -/
theorem test_fault_of_a_disabled_slot :
    ∃ t, exec (.driveAlertFault 0) (disabling (at0 .loaded)) = .next t
      ∧ (t.slot 0).ctx.state = .empty ∧ (t.slot 0).record.map (fun r => (r.code, r.overrun))
        = some (.driveFault, 0) := ⟨_, rfl, by decide, by decide⟩
theorem witness_StateRepliesEndSteps_held :
    (∀ st, st = SlotSt.powering ∨ st = .stopping ∨ st = .spinningUp ∨ st = .loaded →
      (queued st).DriveReady 0 ∧ ((queued st).slot 0).ctx.state = st
        ∧ ((queued st).slot 0).ctx.spinMark = false ∧ (queued st).park.lowering = false)
      ∧ ((at0 .spinningUp).modPass 0 (fun p =>
        { p with hold := [{ entry with cmd := { op := .spinUp, args := cmd 0 1 } }] })).DriveReady 0
      ∧ ((at0 .spinningUp).slot 0).fence = false ∧ (at0 .spinningUp).overdrawn 0 = false := by
  refine ⟨?_, by decide, by decide, by decide⟩
  rintro st (rfl | rfl | rfl | rfl) <;> decide
/-- R29, R109: the first report from POWERING forwards the IDENTIFY and places the SPIN entry for the READ. -/
theorem test_power_up_serves_and_asks_on :
    ∃ t, exec (.stateReply 0 0x00) (queued .powering) = .next t
      ∧ (t.slot 0).pass.flight.map (fun r => r.cmd.args.tag) = [2]
      ∧ t.admission.queue.map (fun e => (e.slot, e.kind)) = [(0, .spin)] :=
  ⟨_, rfl, by decide, by decide⟩
theorem witness_StateRepliesEndSteps :
    (∀ st, st = SlotSt.powering ∨ st = .stopping ∨ st = .spinningUp →
      (at0 st).DriveReady 0 ∧ ((at0 st).slot 0).ctx.state = st ∧ ((at0 st).slot 0).pass.hold = []
        ∧ ((at0 st).slot 0).pass.flight = [] ∧ ((at0 st).slot 0).ctx.spinMark = false
        ∧ (at0 st).park.lowering = false ∧ (at0 st).overdrawn 0 = false) := by
  rintro st (rfl | rfl | rfl) <;> decide
theorem witness_StateRepliesEndSteps_reports :
    (0xCC : Byte).extractLsb' 4 2 = 0 ∧ (0xCC : Byte).extractLsb' 0 2 = 0
      ∧ (0x86 : Byte).extractLsb' 4 2 = 0 ∧ (0x86 : Byte).extractLsb' 0 2 = 2
      ∧ (0x41 : Byte).extractLsb' 4 2 = 0 ∧ (0x41 : Byte).extractLsb' 0 2 ≠ 0
      ∧ (0x41 : Byte).extractLsb' 2 2 = 0 ∧ (0x0A : Byte).extractLsb' 2 2 ≠ 0 := by decide
theorem witness_StateRepliesEndSteps_turning :
    (at0 .powering).DriveReady 0 ∧ ((at0 .powering).slot 0).ctx.state = .powering
      ∧ (at0 .powering).overdrawn 0 = false
      ∧ (at0 .powering).bankSum 0 + (max ((at0 .powering).slot 0).charge 60
          - ((at0 .powering).slot 0).charge) ≤ ((at0 .powering).bank 0).budget
      ∧ (((at0 .powering).slot 0).classIn (at0 .powering).profile).iRun = 60
      ∧ ((at0 .powering).modBank 0 (fun k => { k with overdraw := true })).DriveReady 0
      ∧ ((at0 .powering).modBank 0 (fun k => { k with overdraw := true })).overdrawn 0 = true
      ∧ ((at0 .powering).profile.slots[(0 : SlotId)]).enabled = true := by decide
theorem witness_StateRepliesEndSteps_settled :
    (at0 .loaded).DriveReady 0 ∧ ((at0 .loaded).slot 0).ctx.state = .loaded
      ∧ ((at0 .loaded).slot 0).pass.hold = [] ∧ (at0 .loaded).park.lowering = false
      ∧ (at0 .loaded).overdrawn 0 = false ∧ ((at0 .idle).slot 0).ctx.state = .idle
      ∧ (at0 .idle).DriveReady 0 ∧ State.reset.DriveReady 0
      ∧ (State.reset.slot 0).ctx.state.powered = false := by decide
/-- R11: a drive found turning in POWERING is stopped, its STOP on the link. -/
theorem test_turning_drive_is_stopped :
    ∃ t, exec (.stateReply 0 0x41) (at0 .powering) = .next t
      ∧ (t.slot 0).ctx.state = .stopping ∧ (t.slot 0).port.sending = some (.control .stop) :=
  ⟨_, rfl, by decide, by decide⟩
theorem witness_DriveFaultsLeadToFault :
    (at0 .unloading).DriveReady 0 ∧ ((at0 .unloading).slot 0).ctx.state.powered = true
      ∧ ((at0 .unloading).profile.slots[(0 : SlotId)]).enabled = true
      ∧ (0x10 : Byte).extractLsb' 4 2 = 1 ∧ (0x20 : Byte).extractLsb' 4 2 = 2
      ∧ (0x30 : Byte).extractLsb' 4 2 = 3 ∧ ((at0 .unloading).slot 0).ctx.state = .unloading
      ∧ ((at0 .unloading).slot 0).ctx.outstanding = .unload ∧ State.reset.DriveReady 0
      ∧ (State.reset.slot 0).ctx.state.powered = false ∧ (at0 .spinningUp).DriveReady 0
      ∧ ((at0 .spinningUp).slot 0).ctx.state = .spinningUp
      ∧ ((at0 .spinningUp).slot 0).ctx.outstanding = .spin := by decide
/-- Slot 0 in a state with a command held, two in flight out of the order of their forwarding and an ABORT
listed, the controller link busy. -/
def laden (st : SlotSt) : State :=
  busy ((at0 st).modPass 0 (fun _ =>
    { hold := [{ entry with cmd := { op := .write, args := cmd 0 1 } }]
      flight := [record 0 true, { record 0 false with cmd := { op := .read, args := cmd 0 2 }, seq := 6 }]
      aborts := [{ op := .abort, args := cmd 0 5 }], nextSeq := 8, demand := none }))
theorem witness_DriveFaultsLeadToFault_answers :
    (laden .unloading).DriveReady 0 ∧ (laden .unloading).ctrl.sending ≠ none
      ∧ (∀ c ∈ ((laden .unloading).slot 0).pass.commands, c.args.slot = fieldOfSlot 0)
      ∧ ((laden .unloading).slot 0).ctx.state = .unloading := by decide
/-- R117: held entries first, then those in flight by forward sequence, then the ABORT, all SLOT_FAULT. -/
theorem test_fault_answers_in_order :
    ∃ t, exec (.driveAlertFault 0) (laden .unloading) = .next t
      ∧ (t.slot 0).upstream.map (fun f => match f with
          | .completion r => (r.tag, r.op, r.code)
          | _ => (0, 0, 0))
        = [(1, 0x02, 0x42), (2, 0x01, 0x42), (5, 0x01, 0x42), (5, 0x3F, 0x42)] := ⟨_, rfl, by decide⟩
theorem witness_SelfUnloadLeadsToSpun :
    (at0 .loaded).DriveReady 0 ∧ ((at0 .loaded).slot 0).ctx.state = .loaded
      ∧ ((at0 .loaded).slot 0).pass.hold = [] ∧ (at0 .loaded).park.lowering = false
      ∧ (at0 .loaded).overdrawn 0 = false ∧ (at0 .spun).DriveReady 0
      ∧ ((at0 .spun).slot 0).ctx.state = .spun := by decide
theorem witness_SelfUnloadLeadsToSpun_held :
    (queued .loaded).DriveReady 0 ∧ ((queued .loaded).slot 0).ctx.state = .loaded
      ∧ (queued .loaded).park.lowering = false := by decide
theorem witness_PresentSeatsAndRemoves :
    State.reset.Calm ∧ (State.reset.slot 0).ctx.state ≠ .empty
      ∧ (marked (fun c => { c with presentDebounce := some 20, latch := true }) .empty).Calm
      ∧ ((marked (fun c => { c with presentDebounce := some 20, latch := true }) .empty).slot 0).ctx.state
          = .empty
      ∧ ((marked (fun c => { c with presentDebounce := some 20, latch := true }) .empty).slot
          0).ctx.map.enabled = true
      ∧ ((marked (fun c => { c with presentDebounce := some 20, latch := true }) .empty).slot
          0).ctx.presentDebounce = some 20
      ∧ ((marked (fun c => { c with presentDebounce := some 20, latch := true }) .empty).profile.slots[
          (0 : SlotId)]).enabled = true := by decide
theorem witness_PresentSeatsAndRemoves_disabled :
    (disabling (marked (fun c => { c with presentDebounce := some 0 }) .empty)).Calm
      ∧ ((disabling (marked (fun c => { c with presentDebounce := some 0 }) .empty)).slot 0).ctx.state
          = .empty
      ∧ ((disabling (marked (fun c => { c with presentDebounce := some 0 }) .empty)).slot
          0).ctx.presentDebounce = some 0
      ∧ ((disabling State.reset).profile.slots[(0 : SlotId)]).enabled = false := by decide
theorem witness_PresentSeatsAndRemoves_answers :
    (laden .loaded).Calm ∧ ((laden .loaded).slot 0).ctx.state ≠ .empty
      ∧ (laden .loaded).ctrl.sending ≠ none
      ∧ (∀ c ∈ ((laden .loaded).slot 0).pass.commands, c.args.slot = fieldOfSlot 0)
      ∧ (at0 .fault).Calm ∧ ((at0 .fault).slot 0).ctx.state = .fault := by decide
/-- R26, R27: removal from FAULT is a leaving of FAULT, which sets the last-activity time. -/
theorem test_removal_from_fault_is_activity :
    ∃ t, exec (.presentDeasserted 0) { at0 .fault with now := 77 } = .next t
      ∧ (t.slot 0).ctx.state = .empty ∧ (t.slot 0).ctx.lastActivity = 77 := ⟨_, rfl, by decide, by decide⟩
theorem witness_PowerFaultTrips :
    (at0 .spun).Calm ∧ ((at0 .spun).slot 0).ctx.state = .spun
      ∧ ((at0 .spun).profile.slots[(0 : SlotId)]).enabled = true ∧ (at0 .fault).Calm
      ∧ ((at0 .fault).slot 0).ctx.state = .fault ∧ (at0 .empty).Calm
      ∧ ((at0 .empty).slot 0).ctx.state = .empty := by decide
theorem witness_DockSelectsTheBudgets :
    ({ State.reset with
        dockLine := false, admission := { State.reset.admission with dockDebounce := some 0 } } : State).Calm
      ∧ ({ State.reset with
        dockLine := false, admission := { State.reset.admission with dockDebounce := some 0 } } : State).QueueOk := by
  decide
/-- Slots 0 and 1 SPUN and slot 2 IDLE, charged 160, and DOCK about to be recognized deasserted with a
battery budget of 130 for their bank. -/
def overBudget : State :=
  let s := ((at0 .spun).enter 1 .spun true false).enter 2 .idle true false
  { s with
    dockLine := false, admission := { s.admission with dockDebounce := some 0 }
    loader := { s.loader with profile := { s.loader.profile with battery := #v[130, 400] } } }
theorem witness_DockSelectsTheBudgets_shed :
    overBudget.Calm ∧ overBudget.QueueOk ∧ overBudget.bankSum 0 = 160
      ∧ overBudget.ShedCandidate 0 0 ∧ overBudget.ShedReaches 0 130 0
      ∧ overBudget.ShedCandidate 0 1 ∧ overBudget.ShedReaches 0 130 1
      ∧ overBudget.ShedCandidate 0 2 ∧ ¬ overBudget.ShedReaches 0 130 2 := by decide
/-- R46 to R48: 160, less 20 for each SPUN slot stopped, is within 130, so the IDLE slot stands. -/
theorem test_shed_stops_at_the_budget :
    ∃ t, exec .dockDebounceComplete overBudget = .next t
      ∧ (t.slot 0).ctx.state = .stopping ∧ (t.slot 1).ctx.state = .stopping
      ∧ (t.slot 2).ctx.state = .idle ∧ (t.bank 0).overdraw = true := by
  refine ⟨_, rfl, by decide, by decide, by decide, by decide⟩
theorem witness_HandleLocksAndReleases :
    ({ at0 .loaded with
        handleLine := true, park := { (at0 .loaded).park with handleDebounce := some 0 } } : State).Calm
      ∧ ({ at0 .loaded with
        handleLine := true, park := { (at0 .loaded).park with handleDebounce := some 0 } } : State).QueueOk
      ∧ ((at0 .loaded).slot 0).ctx.state = .loaded
      ∧ ({ locked (at0 .idle) with
        handleLine := false, park := { (locked (at0 .idle)).park with handleDebounce := some 0 } } : State).Calm := by
  decide
/-- HANDLE about to be recognized, the controller link busy, slot 0 LOADING for a held READ. -/
def grasped : State :=
  { busy (holding .loading) with
    handleLine := true, park := { (holding .loading).park with handleDebounce := some 0 } }
theorem witness_HandleLocksAndReleases_sweep :
    grasped.Calm ∧ grasped.QueueOk ∧ (grasped.slot 0).pass.hold = [entry]
      ∧ entry.cmd.op.need = some .loaded ∧ grasped.profile.parkLevel.rank < Level.rank .loaded
      ∧ entry.cmd.args.slot = fieldOfSlot 0 ∧ (grasped.slot 0).ctx.state.holds .loaded = false
      ∧ (grasped.slot 0).ctx.state = .loading ∧ grasped.ctrl.sending ≠ none := by decide
theorem witness_ReloadEdgesStartOrMark :
    State.reset.Calm ∧ State.reset.loader.readState = .powerOnRead
      ∧ (State.reset.modLoader Loader.ended).Calm
      ∧ (State.reset.modLoader Loader.ended).loader.readState = .idle := by decide
/-- The part with the sensor lost. -/
def lost : State := { State.reset with motion := State.reset.motion.lose }
theorem witness_SensorEdgesAndLoss :
    State.reset.Calm ∧ State.reset.motion.state ≠ .sensorLost ∧ State.reset.motion.lossTimer = some 10
      ∧ lost.Calm ∧ lost.motion.state = .sensorLost ∧ lost.motion.lossTimer = none
      ∧ lost.QueueOk ∧ (at0 .loaded).Calm ∧ (at0 .loaded).QueueOk
      ∧ (at0 .loaded).motion.lossTimer = some 10 ∧ ((at0 .loaded).slot 0).ctx.state = .loaded
      ∧ (permitRow (at0 .loaded).profile .sensorLost).unloadOnEntry = true
      ∧ (permitRow lost.profile .still).unloadOnEntry = false := by decide
theorem witness_SamplesAreProcessed :
    lost.Calm ∧ lost.motion.state = .sensorLost ∧ State.reset.Calm
      ∧ State.reset.motion.state ≠ .sensorLost
      ∧ (Motion.sample State.reset.profile.motion 0 0 125 State.reset.motion).state
          = State.reset.motion.state := by decide
theorem witness_SampleArithmetic :
    1 ≤ Config.defaultMotion.dsettle ∧ kerb.seeded = true ∧ kerb.state ≠ .jolt
      ∧ Config.defaultMotion.tjolt ≤ kerb.score 180 (-60) 190
      ∧ kerb.score 20 10 130 < Config.defaultMotion.tjolt ∧ kerb.window + 1 < 800
      ∧ ({ kerb with window := 799 } : Motion).window + 1 = 800 ∧ Motion.reset.seeded = false
      ∧ Motion.reset.shockPending = false := by decide
theorem witness_SampleArithmetic_seeding :
    Motion.reset.state ≠ .jolt ∧ (0 : Nat) < Config.defaultMotion.tjolt
      ∧ kerb.state ≠ .jolt ∧ kerb.window + 1 < 800 := by decide
/-- The monitor in JOLT with 399 settle samples counted, one short of the default Dsettle. -/
def settlingDown : Motion := { kerb with state := .jolt, settle := 399 }
theorem witness_SampleArithmetic_jolt :
    settlingDown.state = .jolt ∧ settlingDown.score 0 0 125 < Config.defaultMotion.tjolt
      ∧ vibration Config.defaultMotion (Motion.sample Config.defaultMotion 0 0 125 settlingDown).acc
          < Config.defaultMotion.tsettle
      ∧ settlingDown.settle + 1 = Config.defaultMotion.dsettle := by decide
theorem witness_WindowEndEvaluates_sample :
    ({ kerb with window := 799 } : Motion).window = 799 ∧ kerb.state ≠ .jolt
      ∧ (({ kerb with window := 799 } : Motion).seed 0 0 125).score 0 0 125
          < Config.defaultMotion.tjolt := by decide
theorem witness_WindowEndEvaluates :
    (95 : Int) < Config.defaultMotion.ttilt ∧ Config.defaultMotion.ttilt ≤ 96
      ∧ Config.defaultMotion.nroll ≤ ({ kerb with tLast := 80 } : Motion).tLast
      ∧ ({ kerb with tLast := 79 } : Motion).tLast < Config.defaultMotion.nroll
      ∧ Config.defaultMotion.wquiet ≤ ({ kerb with state := .rolling, quiet := 2 } : Motion).quiet + 1
      ∧ ({ kerb with state := .rolling, quiet := 1 } : Motion).quiet + 1 < Config.defaultMotion.wquiet := by
  decide
theorem witness_JoltUnloadsEverySlot :
    ({ at0 .loaded with motion := kerb } : State).Calm ∧ ({ at0 .loaded with motion := kerb } : State).QueueOk
      ∧ kerb.state ≠ .sensorLost ∧ kerb.state ≠ .jolt
      ∧ (Motion.sample Config.defaults.motion ((180 : BitVec 16).setWidth 12).toInt
          ((0 : BitVec 16).setWidth 12).toInt ((195 : BitVec 16).setWidth 12).toInt kerb).state = .jolt
      ∧ ((at0 .loaded).slot 0).ctx.state = .loaded ∧ Config.defaults.edges.jolt ≠ .none := by decide
/-- A monitor in STILL at the end of its window, its z axis about to be found below Ttilt. -/
def tipping : Motion := { kerb with state := .still, window := 799, gz := 256 * 50 }
theorem witness_JoltUnloadsEverySlot_tilted :
    ({ at0 .loaded with motion := tipping } : State).Calm
      ∧ ({ at0 .loaded with motion := tipping } : State).QueueOk ∧ tipping.state ≠ .sensorLost
      ∧ tipping.state ≠ .tilted
      ∧ (Motion.sample Config.defaults.motion ((0 : BitVec 16).setWidth 12).toInt
          ((0 : BitVec 16).setWidth 12).toInt ((50 : BitVec 16).setWidth 12).toInt tipping).state = .tilted
      ∧ (permitRow Config.defaults .tilted).unloadOnEntry = true
      ∧ edgePolicy Config.defaults .tilted = .entry := by decide
theorem witness_JoltUnloadsEverySlot_tilted_exec :
    ∃ t, exec (.sample 0 0 50) { at0 .loaded with motion := tipping } = .next t
      ∧ (t.slot 0).ctx.state = .unloading ∧ (t.slot 0).ctx.emergency = false
      ∧ t.ctrl.causeMotion = true := ⟨_, rfl, by decide, by decide, by decide⟩
theorem witness_DeadlinesLeadToFault :
    (at0 .powering).Calm ∧ ((at0 .powering).slot 0).ctx.stepDeadline = some 3000 ∧ (at0 .unloading).Calm
      ∧ ((at0 .unloading).slot 0).ctx.stepDeadline = some 500 ∧ (at0 .stopping).Calm
      ∧ ((at0 .stopping).slot 0).ctx.stepDeadline = some 20000
      ∧ (marked (fun c => { c with retry := 2 }) .loading).Calm
      ∧ ((marked (fun c => { c with retry := 2 }) .loading).slot 0).ctx.stepDeadline = some 800
      ∧ (marked (fun c => { c with retry := 2 }) .loading).profile.retryLimit ≤ 2
      ∧ ((at0 .powering).profile.slots[(0 : SlotId)]).enabled = true := by decide
theorem witness_DeadlinesThatAreRetried :
    (at0 .spinningUp).Calm ∧ ((at0 .spinningUp).slot 0).ctx.stepDeadline = some 15000
      ∧ ((at0 .spinningUp).slot 0).ctx.state = .spinningUp
      ∧ (marked (fun c => { c with retry := 1 }) .loading).Calm
      ∧ ((marked (fun c => { c with retry := 1 }) .loading).slot 0).ctx.stepDeadline = some 800
      ∧ 1 < (marked (fun c => { c with retry := 1 }) .loading).profile.retryLimit
      ∧ ((marked (fun c => { c with retry := 1 }) .loading).slot 0).pass.demand ≠ some .loaded
      ∧ ((marked (fun c => { c with retry := 1 }) .loading).slot 0).pass.hold = []
      ∧ (marked (fun c => { c with retry := 1 }) .loading).park.lowering = false
      ∧ (marked (fun c => { c with retry := 1 }) .loading).overdrawn 0 = false := by decide
/-- Slot 0 LOADING for a held READ, with its demand and a retry count of 1. -/
def loadingAgain : State :=
  ((holding .loading).modPass 0 (fun p => { p with demand := some .loaded })).modCtx 0
    (fun c => { c with retry := 1 })
/-- Slot 0 in a marked STOPPING with a retry count. -/
def spinFailed (retry : Nat) : State :=
  (at0 .stopping).modCtx 0 (fun c => { c with spinMark := true, retry := retry })
theorem witness_DeadlinesThatAreRetried_load :
    loadingAgain.Calm ∧ (loadingAgain.slot 0).ctx.stepDeadline = some 800
      ∧ (loadingAgain.slot 0).ctx.state = .loading
      ∧ (loadingAgain.slot 0).ctx.retry < loadingAgain.profile.retryLimit
      ∧ (loadingAgain.slot 0).pass.demand = some .loaded
      ∧ demandOf (loadingAgain.slot 0).pass.hold = some .loaded
      ∧ loadingAgain.park.lowering = false := by decide
theorem witness_LoadFailsBy_reply :
    loadingAgain.LoadFailsBy 0 (.controlReply 0 0x02 0x04) 0
      ∧ (marked (fun c => { c with retry := 1 }) .loading).LoadFailsBy 0 (.controlReply 0 0x02 0x04) 0
      ∧ (marked (fun c => { c with retry := 2 }) .loading).LoadFailsBy 0 (.controlReply 0 0x02 0x04) 0 := by
  refine ⟨⟨by decide, by decide, .inr (by decide)⟩, ⟨by decide, by decide, .inr (by decide)⟩,
    ⟨by decide, by decide, .inr (by decide)⟩⟩
theorem witness_LoadFailsBy_expiry :
    (marked (fun c => { c with retry := 2 }) .loading).LoadFailsBy 0 (.loadDeadlineExpiry 0) 800 :=
  ⟨by decide, by decide, .inl ⟨rfl, 800, by decide, by decide⟩⟩
theorem witness_DeadlinesThatAreRetried_stop :
    (spinFailed 2).DriveReady 0 ∧ ((spinFailed 2).slot 0).ctx.state = .stopping
      ∧ ((spinFailed 2).slot 0).ctx.spinMark = true ∧ (spinFailed 2).park.lowering = false
      ∧ (spinFailed 2).profile.retryLimit ≤ ((spinFailed 2).slot 0).ctx.retry
      ∧ ((spinFailed 2).profile.slots[(0 : SlotId)]).enabled = true
      ∧ ((spinFailed 1).slot 0).ctx.retry < (spinFailed 1).profile.retryLimit
      ∧ ((spinFailed 1).slot 0).pass.demand = none ∧ ((spinFailed 1).slot 0).pass.hold = []
      ∧ (spinFailed 1).overdrawn 0 = false := by decide
theorem witness_DeadlinesThatAreRetried_report :
    (0xCC : Byte).extractLsb' 4 2 = 0 ∧ (0xCC : Byte).extractLsb' 0 2 = 0 := by decide
theorem witness_DeadlinesThatAreRetried_performs :
    (descent .loading .spinDown []).LoadFailsBy 0 (.controlReply 0 0x02 0x04) 0
      ∧ ((descent .loading .spinDown []).slot 0).ctx.retry
          < (descent .loading .spinDown []).profile.retryLimit
      ∧ ((descent .loading .spinDown []).slot 0).pass.demand ≠ some .loaded :=
  ⟨⟨by decide, by decide, .inr (by decide)⟩, by decide, by decide⟩
/-- The same with a READ held and its demand reported. -/
def spinFailedHeld : State :=
  (spinFailed 1).modPass 0 (fun p => { p with hold := [entry], demand := some .loaded })
theorem witness_DeadlinesThatAreRetried_respin :
    spinFailedHeld.DriveReady 0 ∧ (spinFailedHeld.slot 0).ctx.state = .stopping
      ∧ (spinFailedHeld.slot 0).ctx.spinMark = true ∧ spinFailedHeld.park.lowering = false
      ∧ (spinFailedHeld.slot 0).ctx.retry < spinFailedHeld.profile.retryLimit
      ∧ (spinFailedHeld.slot 0).pass.demand = demandOf (spinFailedHeld.slot 0).pass.hold
      ∧ (spinFailedHeld.slot 0).pass.demand = some .loaded := by decide
theorem witness_QueriesAreCounted :
    (at0 .powering).Calm ∧ ((at0 .powering).slot 0).port.query = some { expiry := 50, interval := 50 }
      ∧ (marked (fun c => { c with queryPending := true, missed := 1 }) .spun).Calm
      ∧ ((marked (fun c => { c with queryPending := true, missed := 1 }) .spun).slot 0).port.query
          = some { expiry := 1000, interval := 1000 }
      ∧ (marked (fun c => { c with queryPending := true, missed := 2 }) .spun).Calm
      ∧ ((marked (fun c => { c with queryPending := true, missed := 2 }) .spun).slot 0).ctx.missed = 2
      ∧ ((at0 .spun).modPort 0 (fun p => { p with cancelPending := true, cancelMiss := 2 })).Calm
      ∧ (((at0 .spun).modPort 0 (fun p => { p with cancelPending := true, cancelMiss := 2 })).slot
          0).port.query = some { expiry := 1000, interval := 1000 }
      ∧ ((at0 .spun).profile.slots[(0 : SlotId)]).enabled = true := by decide
theorem witness_IdleDecayLowers :
    (at0 .loaded).Calm ∧ ((at0 .loaded).slot 0).ctx.idleTimer = some 30000 ∧ (at0 .spun).Calm
      ∧ ((at0 .spun).slot 0).ctx.idleTimer = some 600000
      ∧ (marked (fun c => { c with idleTimer := some 9 }) .idle).Calm
      ∧ ((marked (fun c => { c with idleTimer := some 9 }) .idle).slot 0).ctx.idleTimer = some 9
      ∧ ((marked (fun c => { c with idleTimer := some 9 }) .idle).slot 0).pass = Passage.reset
      ∧ ((at0 .loaded).slot 0).pass = Passage.reset ∧ ((at0 .spun).slot 0).pass = Passage.reset
      ∧ ((at0 .loaded).profile.slots[(0 : SlotId)]).enabled = true := by decide
theorem witness_IdleDecayLowers_listed :
    (busy ((listed .idle).modCtx 0 (fun c => { c with idleTimer := some 9 }))).Calm
      ∧ ((listed .idle).slot 0).pass.hold = [] ∧ ((listed .idle).slot 0).pass.flight = []
      ∧ ((listed .idle).slot 0).ctx.state = .idle
      ∧ (∀ a ∈ ((listed .idle).slot 0).pass.aborts, a.args.slot = fieldOfSlot 0) := by decide
/-- The lock standing with the transit timer running and slot 0 SPUN. -/
def lockedSpun : State :=
  { at0 .spun with park := { (at0 .spun).park with handle := true, transitTimer := some 5000 } }
theorem witness_StaggerAndTransitTimers :
    ((at0 .spun).startStagger 0).Calm ∧ (((at0 .spun).startStagger 0).bank 0).stagger = some 1500
      ∧ lockedSpun.Calm ∧ lockedSpun.park.transitTimer = some 5000 ∧ lockedSpun.lock = true
      ∧ lockedSpun.QueueOk ∧ (lockedSpun.slot 0).ctx.state = .spun
      ∧ lockedSpun.profile.parkLevel = .idle := by decide
/-- An admission entry of bank 0. -/
def ask (i : SlotId) (k : Kind) : AdmEntry := { slot := i, kind := k, bank := 0, retried := false }
/-- Slots 0 and 1 in states of bank 0, the stagger timer of a bank run down, the first profile in force,
the budget of bank 0 and the admission queue as given. -/
def scanned (b : BankId) (st st' : SlotSt) (budget : Nat) (q : List AdmEntry) : State :=
  (((((at0 st).enter 1 st' true false).modLoader Loader.ended).modBank b
    (fun k => { k with stagger := some 9 })).modBank 0 (fun k => { k with budget := budget })).setQueue q
/-- The state a scan at the expiry of bank b's stagger timer starts from. -/
def expired (b : BankId) (s : State) : State :=
  { s with now := max s.now 9 }.modBank b (fun k => { k with stagger := none })
theorem witness_StaggerAndTransitTimers_one :
    (scanned 0 .idle .idle 400 [ask 0 .spin]).Calm
      ∧ ((scanned 0 .idle .idle 400 [ask 0 .spin]).bank 0).stagger = some 9
      ∧ (scanned 0 .idle .idle 400 [ask 0 .spin]).loader.readState ≠ .powerOnRead
      ∧ (expired 0 (scanned 0 .idle .idle 400 [ask 0 .spin])).Fits (ask 0 .spin)
      ∧ (expired 0 (scanned 0 .idle .idle 400 [ask 0 .spin])).SpinFree 0
      ∧ ¬ (expired 0 (scanned 0 .idle .idle 90 [ask 0 .spin])).Fits (ask 0 .spin) := by decide
theorem witness_StaggerAndTransitTimers_grantable :
    (expired 0 (scanned 0 .idle .idle 400 [ask 0 .power, ask 1 .power])).Grantable (ask 0 .power) :=
  ⟨.inl (by decide), by decide, by decide, by decide⟩
theorem witness_StaggerAndTransitTimers_deferred :
    ¬ (expired 0 (scanned 0 .spun .off 400 [ask 0 .load, ask 1 .power])).Permitted .load
      ∧ (scanned 0 .spun .off 400 [ask 0 .load, ask 1 .power]).admission.queue
          = [ask 0 .load, ask 1 .power]
      ∧ (expired 0 (scanned 0 .spun .off 400 [ask 0 .load, ask 1 .power])).Fits (ask 1 .power) := by
  refine ⟨?_, by decide, by decide⟩
  simp only [State.Permitted]
  decide
theorem witness_StaggerAndTransitTimers_spinLimits :
    (expired 1 ((scanned 1 .idle .off 400 [ask 0 .spin, ask 1 .power]).startStagger 0)).Fits (ask 0 .spin)
      ∧ ¬ (expired 1 ((scanned 1 .idle .off 400 [ask 0 .spin, ask 1 .power]).startStagger 0)).SpinFree 0
      ∧ (scanned 0 .idle .idle 400 [ask 0 .spin, ask 1 .spin]).profile.staggerMs ≠ 0 := by decide
/-- R135: with the power of a slot go the frames that wait on its drive link. -/
theorem test_power_off_drops_waiting_frames :
    (((at0 .loaded).setWaiting 0 [.alertFault, .stateReply 0]).enter 0 .fault false false).slot 0
      = ((at0 .loaded).enter 0 .fault false false).slot 0 := by decide
theorem witness_HoldDeadlinesExpire :
    (busy (holding .spun)).Calm ∧ ((busy (holding .spun)).slot 0).pass.held? 5 = some entry
      ∧ entry.deadline = some 60000 ∧ entry.cmd.args.slot = fieldOfSlot 0
      ∧ (busy (holding .spun)).ctrl.sending ≠ none := by decide
/-- An image that passes: version 1, every other setting 0, and word 95 making the sum 0x4E50. -/
def image : List Byte := [1, 0] ++ List.replicate 188 0 ++ [0x4F, 0x4E]
theorem witness_PassingImagesTakeEffect :
    State.reset.Calm ∧ State.reset.loader.readState ≠ .idle ∧ image.length = 192
      ∧ imageWord image 0 % 256 = 1
      ∧ ((List.range 96).map (fun n => (image.getD (2 * n) 0).toNat
          + 256 * (image.getD (2 * n + 1) 0).toNat)).sum % 65536 = 0x4E50 := by
  refine ⟨by decide, by decide, by decide +kernel, by decide, by decide +kernel⟩
theorem witness_PassingImagesTakeEffect_sound :
    State.reset.Controlled ∧ State.reset.QueueOk ∧ State.reset.LatchOk
      ∧ State.reset.lock = false := by decide
theorem witness_PassingImagesTakeEffect_quiet : ∀ i : SlotId, (State.reset.slot i).Quiet := by decide
theorem witness_PassingImagesTakeEffect_reload :
    (State.reset.modLoader (Loader.startReload 0)).Calm
      ∧ (State.reset.modLoader (Loader.startReload 0)).loader.readState = .reloadRead
      ∧ State.reset.loader.readState = .powerOnRead := by decide
/-- The lock standing in the lowering phase with slot 0 SPUN, during the power-on load. -/
theorem witness_PassingImagesTakeEffect_lock :
    loweringAtSpun.Calm ∧ loweringAtSpun.loader.readState ≠ .idle ∧ loweringAtSpun.lock = true
      ∧ loweringAtSpun.park.lowering = true ∧ (profileOfImage image).parkLevel = .off := by decide
theorem witness_MapsTaken :
    ((profileOfImage image).slots[(0 : SlotId)]).enabled = false
      ∧ (holding .off).Calm ∧ (holding .off).loader.readState = .powerOnRead
      ∧ ((holding .off).slot 0).ctx.state = .off ∧ (at0 .fault).loader.readState = .powerOnRead
      ∧ ((at0 .fault).slot 0).ctx.state = .fault ∧ (at0 .fault).QueueOk
      ∧ (at' 9 .empty).QueueOk ∧ ((at' 9 .empty).slot 9).ctx.state = .empty := by decide
/-- R5, R117: an image that disables the slot takes it from OFF to EMPTY, its held READ answered and nothing
recorded. -/
theorem test_disabling_image :
    ∃ t, exec (.profileReadComplete image) (busy (holding .off)) = .next t
      ∧ (t.slot 0).ctx.state = .empty ∧ (t.slot 0).record = none
      ∧ (t.slot 0).upstream = [interposerAnswer entry.cmd 0x41 1 .empty 0] :=
  ⟨_, rfl, by decide +kernel, by decide +kernel, by decide +kernel⟩
/-- Slots 0 and 1 of bank 0 under the lock in the lowering phase at the park level IDLE, which a profile has
just put in force: slot 0 SPUN behind its fence at a charge that the profile has lowered, slot 1 OFF with a
POWER entry that fits once that charge falls, both holding SPIN_UP. -/
def reswept : State :=
  let held (i : SlotId) (tag : Nat) (s : State) : State :=
    s.modPass i (fun p =>
      { p with
        hold := [{ entry with cmd := { op := .spinUp, args := cmd i.val tag } }], demand := some .spun })
  let s := (fenced (at0 .spun)).modSlot 0 (fun x => { x with charge := 300 })
  ((({ held 0 1 (held 1 2 s) with
    park := { s.park with handle := true, lowering := true } } : State).modLoader Loader.ended).modBank 0
      (fun k => { k with budget := 310 })).setQueue [ask 1 .power]
/-- R93: the sweep of every queue comes before the test of any slot, so that the fall of slot 0's charge
finds slot 1's POWER entry withdrawn. -/
theorem test_sweep_is_whole_before_the_test :
    (reswept.parkProfile.slot 0).ctx.state = .stopping ∧ (reswept.parkProfile.slot 1).ctx.state = .off
      ∧ reswept.parkProfile.admission.queue = [] := by decide +kernel
/-- An image that enables every slot in the built-in banks and class, every other setting 0. -/
def imageOn : List Byte :=
  [1, 0, 1, 0, 1, 0, 1, 0, 1, 0, 1, 0, 3, 0, 3, 0, 3, 0, 3, 0, 3, 0] ++ List.replicate 168 0
    ++ [0x3B, 0x4E]
/-- A POWER entry waits for slot 0, in OFF, during the power-on load. -/
def asking : State := State.reset.setQueue [ask 0 .power]
theorem witness_ScannedAfter :
    asking.Calm ∧ asking.loader.readState = .powerOnRead ∧ asking.lock = false
      ∧ asking.admission.queue = [ask 0 .power]
      ∧ (ask 0 .power).bank = (asking.slot 0).ctx.map.bank := by decide
theorem witness_ScannedAfter_slots :
    ∀ i : SlotId, (asking.slot i).ctx.state.powered = false ∧ (asking.slot i).charge = 0
      ∧ (asking.slot i).ctx.map = asking.profile.slots[i]
      ∧ (asking.profile.slots[i]).enabled = true := by decide
theorem witness_ScannedAfter_image :
    imageOn.length = 192 ∧ imageWord imageOn 0 % 256 = 1
      ∧ ((List.range 96).map (fun n => (imageOn.getD (2 * n) 0).toNat
          + 256 * (imageOn.getD (2 * n + 1) 0).toNat)).sum % 65536 = 0x4E50
      ∧ (profileOfImage imageOn).slots = Config.defaults.slots := by
  refine ⟨by decide +kernel, by decide, by decide +kernel, by decide +kernel⟩
/-- R168: a failed power-on read starts the first scan, which grants the entry. -/
theorem test_failed_power_on_read_scans :
    ∃ t, exec .readLimitExpiry asking = .next t ∧ (t.slot 0).ctx.state = .powering :=
  ⟨_, rfl, by decide⟩
theorem witness_FailedReadsKeepTheProfile :
    (State.reset.modLoader (Loader.startReload 0)).Calm ∧ (0 :: image.tail).length = 192
      ∧ imageWord (0 :: image.tail) 0 % 256 ≠ 1
      ∧ (State.reset.modLoader (Loader.startReload 0)).loader.readState = .reloadRead
      ∧ (State.reset.modLoader (Loader.startReload 0)).loader.readLimit = some 100
      ∧ State.reset.loader.readState = .powerOnRead ∧ State.reset.loader.readLimit = some 100 := by
  refine ⟨by decide, by decide +kernel, by decide, by decide, by decide, by decide, by decide⟩
theorem witness_FailedReadsKeepTheProfile_clamped :
    State.reset.Calm ∧ State.reset.profile.Clamped ∧ loweringAtSpun.profile.Clamped
      ∧ (loweringAtSpun.slot 0).ctx.state = .spun ∧ loweringAtSpun.park.lowering = true
      ∧ loweringAtSpun.loader.readState = .powerOnRead ∧ loweringAtSpun.loader.readLimit = some 100 := by
  refine ⟨by decide, by decide, by decide, by decide, by decide, by decide, by decide⟩
theorem witness_DriveLinkArbiter :
    (at0 .unloading).Calm ∧ ((at0 .unloading).slot 0).port.sending = some (.control .unload) := by decide
/-- Two frames wait upstream at slot 9, the link busy. -/
def upstream9 : State :=
  busy (State.reset.modSlot 9 (fun x => { x with upstream := [onLink.frame, onLink.frame] }))
theorem witness_UpstreamArbiter :
    (busy State.reset).Calm ∧ (busy State.reset).ctrl.sending = some onLink
      ∧ (∀ q, (busy State.reset).upstreamAt q = []) ∧ upstream9.Calm ∧ upstream9.ctrl.sending = some onLink
      ∧ (∀ d < 10, upstream9.upstreamAt (Fin.ofNat 11 (upstream9.ctrl.lastServed.val + 1 + d))
          = if d = 9 then [onLink.frame, onLink.frame] else []) := by decide
theorem witness_RoundTrips :
    (Op.other 0xFF).wellFormed = true ∧ DriveFrame.alertFault ≠ .discarded := by decide
/-- A command in flight at a LOADED slot, a command waiting in the queue, in a still case. -/
def running : State :=
  { (flying .loaded 1 false).modCtx 0 (fun c => { c with idleTimer := none }) with pending := [.reloadEdge] }
theorem witness_step_answers : ∃ t, step running = .next t := ⟨_, rfl⟩
theorem witness_JoltUnloadsEverySlot_exec :
    ∃ t, exec (.sample 180 0 195) { at0 .loaded with motion := kerb } = .next t := ⟨_, rfl⟩
theorem witness_RangesAreKept :
    running.motion.InRange ∧ running.park.Ok ∧ running.profile.Clamped := by
  refine ⟨by decide, by decide, by decide⟩
theorem witness_SoundnessIsKept : running.Controlled ∧ running.QueueOk ∧ running.LatchOk := by decide
theorem witness_SoundnessIsKept_quiet : ∀ i : SlotId, (running.slot i).Quiet := by decide
theorem witness_SoundnessIsKept_emptied : running.MapsOk ∧ ∀ i : SlotId, (running.slot i).Emptied := by
  decide
theorem witness_NoHeadsOnMediaUnderShock : running.Controlled ∧ running.HeadsOk := by decide
theorem witness_SumsStayWithinBudgets :
    running.SumsOk ∧ running.MarksOk ∧ running.bankSum 0 = 80 := by decide
/-- The same with bank 0 in OVERDRAW, of a budget of 70, its LOADED slot being no candidate. -/
def overdrawn : State := running.modBank 0 (fun k => { k with budget := 70, overdraw := true })
theorem witness_SumsStayWithinBudgets_overdraw :
    overdrawn.Controlled ∧ overdrawn.QueueOk ∧ overdrawn.LatchOk ∧ overdrawn.SumsOk ∧ overdrawn.MarksOk
      ∧ (overdrawn.bank 0).overdraw = true := by decide
theorem witness_SumsStayWithinBudgets_quiet : ∀ i : SlotId, (overdrawn.slot i).Quiet := by decide
theorem witness_SumsStayWithinBudgets_step :
    ∃ t, step overdrawn = .next t ∧ (t.bank 0).overdraw = true := ⟨_, rfl, by decide⟩
theorem witness_TagsStayDistinct :
    (∀ i : SlotId, (running.slot i).pass.TagsOk) ∧ (running.slot 0).pass.tags = [5] := by decide
theorem witness_LinksAreNeverIdleInVain : running.Working := by decide

end Sys2Proof.Machine.Tests
end

section
/-! PROOFS. Reading a slot without its upstream queue, and the upstream queue alone: what each shared operation leaves
in the one and in the other. -/

namespace Sys2Proof.Machine

/-! ## A slot apart from its upstream queue -/

/-- Slot i without the frames that wait upstream. -/
def State.work (s : State) (i : SlotId) : Slot := { s.slot i with upstream := [] }

/-- The frames of slot i that wait upstream. -/
def State.up (s : State) (i : SlotId) : List UpFrame := (s.slot i).upstream

theorem State.slot_eq_work (s : State) (i : SlotId) :
    s.slot i = { s.work i with upstream := s.up i } := rfl

theorem State.slot_ctx (s : State) (i : SlotId) : (s.slot i).ctx = (s.work i).ctx := rfl
theorem State.slot_pass (s : State) (i : SlotId) : (s.slot i).pass = (s.work i).pass := rfl
theorem State.slot_port (s : State) (i : SlotId) : (s.slot i).port = (s.work i).port := rfl
theorem State.slot_record (s : State) (i : SlotId) : (s.slot i).record = (s.work i).record := rfl
theorem State.slot_notice (s : State) (i : SlotId) : (s.slot i).notice = (s.work i).notice := rfl
theorem State.slot_fence (s : State) (i : SlotId) : (s.slot i).fence = (s.work i).fence := rfl
theorem State.slot_charge (s : State) (i : SlotId) : (s.slot i).charge = (s.work i).charge := rfl
theorem State.slot_requeues (s : State) (i : SlotId) : (s.slot i).requeues = (s.work i).requeues := rfl
theorem State.slot_presentLine (s : State) (i : SlotId) :
    (s.slot i).presentLine = (s.work i).presentLine := rfl
theorem State.slot_powerFaultLine (s : State) (i : SlotId) :
    (s.slot i).powerFaultLine = (s.work i).powerFaultLine := rfl
theorem State.slot_waiting (s : State) (i : SlotId) : (s.slot i).waiting = (s.work i).waiting := rfl
theorem State.slot_upstream (s : State) (i : SlotId) : (s.slot i).upstream = s.up i := rfl

theorem Slot.sameWork_iff {s t : State} {i : SlotId} :
    (s.slot i).SameWork (t.slot i) ↔ t.work i = s.work i := by
  constructor
  · intro h
    unfold State.work
    rw [h]
  · intro h
    exact (State.slot_eq_work t i).trans (by rw [h]; rfl)

theorem State.work_eq_of_slot_eq {s t : State} {i : SlotId} (h : t.slot i = s.slot i) :
    t.work i = s.work i := by simp [State.work, h]

theorem State.up_eq_of_slot_eq {s t : State} {i : SlotId} (h : t.slot i = s.slot i) :
    t.up i = s.up i := by simp [State.up, h]

/-! ### After a change of one slot -/

theorem State.work_modSlot (s : State) (i : SlotId) (f : Slot → Slot)
    (hf : ∀ x : Slot, { f x with upstream := [] } = f { x with upstream := [] }) :
    (s.modSlot i f).work i = f (s.work i) := by
  simp only [State.work, State.slot_modSlot_self]
  exact hf _

@[simp] theorem State.work_modSlot_ne (s : State) {i j : SlotId} (f : Slot → Slot) (h : j ≠ i) :
    (s.modSlot i f).work j = s.work j := State.work_eq_of_slot_eq (by simp [h])

@[simp] theorem State.up_modSlot_ne (s : State) {i j : SlotId} (f : Slot → Slot) (h : j ≠ i) :
    (s.modSlot i f).up j = s.up j := State.up_eq_of_slot_eq (by simp [h])

@[simp] theorem State.work_modCtx (s : State) (i : SlotId) (f : SlotContext → SlotContext) :
    (s.modCtx i f).work i = { s.work i with ctx := f (s.work i).ctx } :=
  State.work_modSlot s i _ fun _ => rfl
@[simp] theorem State.work_modPass (s : State) (i : SlotId) (f : Passage → Passage) :
    (s.modPass i f).work i = { s.work i with pass := f (s.work i).pass } :=
  State.work_modSlot s i _ fun _ => rfl
@[simp] theorem State.work_modPort (s : State) (i : SlotId) (f : Port → Port) :
    (s.modPort i f).work i = { s.work i with port := f (s.work i).port } :=
  State.work_modSlot s i _ fun _ => rfl
@[simp] theorem State.work_active (s : State) (i : SlotId) :
    (s.active i).work i = (s.work i).act s.profile s.now := State.work_modSlot s i _ fun _ => rfl
@[simp] theorem State.work_touchIdle (s : State) (i : SlotId) :
    (s.touchIdle i).work i = (s.work i).touchIdle s.profile s.now :=
  State.work_modSlot s i _ fun _ => rfl
@[simp] theorem State.work_enter (s : State) (i : SlotId) (st : SlotSt) (r k : Bool) :
    (s.enter i st r k).work i = (s.work i).enter s.profile s.now st r k :=
  State.work_modSlot (s.withdraw i) i _ fun _ => rfl

@[simp] theorem State.work_modCtx_ne (s : State) {i j : SlotId} (f : SlotContext → SlotContext)
    (h : j ≠ i) : (s.modCtx i f).work j = s.work j := State.work_modSlot_ne s _ h
@[simp] theorem State.work_modPass_ne (s : State) {i j : SlotId} (f : Passage → Passage)
    (h : j ≠ i) : (s.modPass i f).work j = s.work j := State.work_modSlot_ne s _ h
@[simp] theorem State.work_modPort_ne (s : State) {i j : SlotId} (f : Port → Port)
    (h : j ≠ i) : (s.modPort i f).work j = s.work j := State.work_modSlot_ne s _ h
@[simp] theorem State.work_active_ne (s : State) {i j : SlotId} (h : j ≠ i) :
    (s.active i).work j = s.work j := State.work_modSlot_ne s _ h
@[simp] theorem State.work_touchIdle_ne (s : State) {i j : SlotId} (h : j ≠ i) :
    (s.touchIdle i).work j = s.work j := State.work_modSlot_ne s _ h
@[simp] theorem State.work_enter_ne (s : State) {i j : SlotId} (st : SlotSt) (r k : Bool)
    (h : j ≠ i) : (s.enter i st r k).work j = s.work j := State.work_modSlot_ne (s.withdraw i) _ h

theorem State.up_modSlot (s : State) (i j : SlotId) (f : Slot → Slot)
    (hf : ∀ x : Slot, (f x).upstream = x.upstream) : (s.modSlot i f).up j = s.up j := by
  simp only [State.up, State.slot_modSlot]
  split
  · exact hf _
  · rfl

@[simp] theorem State.up_modCtx (s : State) (i j : SlotId) (f : SlotContext → SlotContext) :
    (s.modCtx i f).up j = s.up j := State.up_modSlot s i j _ fun _ => rfl
@[simp] theorem State.up_modPass (s : State) (i j : SlotId) (f : Passage → Passage) :
    (s.modPass i f).up j = s.up j := State.up_modSlot s i j _ fun _ => rfl
@[simp] theorem State.up_modPort (s : State) (i j : SlotId) (f : Port → Port) :
    (s.modPort i f).up j = s.up j := State.up_modSlot s i j _ fun _ => rfl
@[simp] theorem State.up_active (s : State) (i j : SlotId) : (s.active i).up j = s.up j :=
  State.up_modSlot s i j _ fun _ => rfl
@[simp] theorem State.up_touchIdle (s : State) (i j : SlotId) : (s.touchIdle i).up j = s.up j :=
  State.up_modSlot s i j _ fun _ => rfl
@[simp] theorem State.up_enter (s : State) (i j : SlotId) (st : SlotSt) (r k : Bool) :
    (s.enter i st r k).up j = s.up j := State.up_modSlot (s.withdraw i) i j _ fun _ => rfl
@[simp] theorem State.up_submit (s : State) (i j : SlotId) (code : SenseCode) (tag : Option Tag)
    (n : Option Nat) (st : SlotSt) (held : Nat) : (s.submit i code tag n st held).up j = s.up j :=
  State.up_modSlot s i j _ fun _ => rfl

/-- An entry that reaches the sense store, at the record and the notice (R154, R156). -/
def Slot.noted (p : Profile) (m : MotionSt) (code : SenseCode) (tag : Option Tag) (requeued : Option Nat)
    (st : SlotSt) (held : Nat) (x : Slot) : Slot :=
  { x with
    record := recordAfter x.record code tag st m held requeued
    notice := noticeAfter p code x.notice }

theorem State.submit_eq (s : State) (i : SlotId) (code : SenseCode) (tag : Option Tag) (n : Option Nat)
    (st : SlotSt) (held : Nat) :
    s.submit i code tag n st held
      = s.modSlot i (Slot.noted s.profile s.motion.state code tag n st held) := by
  unfold State.submit Slot.noted recordAfter
  rfl

@[simp] theorem State.work_submit (s : State) (i : SlotId) (code : SenseCode) (tag : Option Tag)
    (n : Option Nat) (st : SlotSt) (held : Nat) :
    (s.submit i code tag n st held).work i
      = (s.work i).noted s.profile s.motion.state code tag n st held := by
  rw [State.submit_eq]
  exact State.work_modSlot s i _ fun _ => rfl

@[simp] theorem State.work_submit_ne (s : State) {i j : SlotId} (code : SenseCode) (tag : Option Tag)
    (n : Option Nat) (st : SlotSt) (held : Nat) (h : j ≠ i) :
    (s.submit i code tag n st held).work j = s.work j := State.work_modSlot_ne s _ h

/-! ### After a change elsewhere -/

@[simp] theorem State.work_setQueue (s : State) (q : List AdmEntry) (j : SlotId) :
    (s.setQueue q).work j = s.work j := rfl
@[simp] theorem State.work_withdraw (s : State) (i j : SlotId) : (s.withdraw i).work j = s.work j := rfl
@[simp] theorem State.work_modBank (s : State) (b : BankId) (f : Bank → Bank) (j : SlotId) :
    (s.modBank b f).work j = s.work j := rfl
@[simp] theorem State.work_reach (s : State) (t : Nat) (j : SlotId) : (s.reach t).work j = s.work j := rfl
@[simp] theorem State.up_setQueue (s : State) (q : List AdmEntry) (j : SlotId) :
    (s.setQueue q).up j = s.up j := rfl
@[simp] theorem State.up_withdraw (s : State) (i j : SlotId) : (s.withdraw i).up j = s.up j := rfl
@[simp] theorem State.up_modBank (s : State) (b : BankId) (f : Bank → Bank) (j : SlotId) :
    (s.modBank b f).up j = s.up j := rfl
@[simp] theorem State.up_reach (s : State) (t : Nat) (j : SlotId) : (s.reach t).up j = s.up j := rfl

/-! ## Frames handed upstream -/

@[simp] theorem State.setUpstreamAt_admission (s : State) (p : Fin 11) (q : List UpFrame) :
    (s.setUpstreamAt p q).admission = s.admission := by
  unfold State.setUpstreamAt
  split <;> rfl

@[simp] theorem State.beginUpstream_admission (s : State) (f : UpFrame) :
    (s.beginUpstream f).admission = s.admission := by
  unfold State.beginUpstream
  split <;> rfl

@[simp] theorem State.pickUpstream_admission (s : State) : s.pickUpstream.admission = s.admission := by
  unfold State.pickUpstream
  split
  · rfl
  · split
    · rfl
    · split
      · rfl
      · simp

section handed

variable (s : State) (i : SlotId)

@[simp] theorem State.handUp_admission (f : UpFrame) : (s.handUp i f).admission = s.admission := by
  simp [State.handUp]
@[simp] theorem State.handUp_bank (f : UpFrame) (b : BankId) : (s.handUp i f).bank b = s.bank b := by
  simp [State.bank]
@[simp] theorem State.handUp_motion (f : UpFrame) : (s.handUp i f).motion = s.motion :=
  ((State.Keeps.rfl s).handUp i f).motion
@[simp] theorem State.handUp_park (f : UpFrame) : (s.handUp i f).park = s.park :=
  ((State.Keeps.rfl s).handUp i f).park
@[simp] theorem State.handUp_loader (f : UpFrame) : (s.handUp i f).loader = s.loader :=
  ((State.Keeps.rfl s).handUp i f).loader
@[simp] theorem State.handUp_now (f : UpFrame) : (s.handUp i f).now = s.now :=
  ((State.Keeps.rfl s).handUp i f).now
@[simp] theorem State.handUp_profile (f : UpFrame) : (s.handUp i f).profile = s.profile :=
  ((State.Keeps.rfl s).handUp i f).profile
@[simp] theorem State.handUp_lock (f : UpFrame) : (s.handUp i f).lock = s.lock :=
  ((State.Keeps.rfl s).handUp i f).lock
@[simp] theorem State.work_handUp (f : UpFrame) (j : SlotId) : (s.handUp i f).work j = s.work j :=
  Slot.sameWork_iff.mp (State.handUp_slot s i f j)

@[simp] theorem State.complete_admission (c : Cmd) (code : Byte) :
    (s.complete i c code).admission = s.admission := by simp [State.complete]
@[simp] theorem State.complete_bank (c : Cmd) (code : Byte) (b : BankId) :
    (s.complete i c code).bank b = s.bank b := by simp [State.complete]
@[simp] theorem State.complete_motion (c : Cmd) (code : Byte) :
    (s.complete i c code).motion = s.motion := by simp [State.complete]
@[simp] theorem State.complete_park (c : Cmd) (code : Byte) :
    (s.complete i c code).park = s.park := by simp [State.complete]
@[simp] theorem State.complete_loader (c : Cmd) (code : Byte) :
    (s.complete i c code).loader = s.loader := by simp [State.complete]
@[simp] theorem State.complete_now (c : Cmd) (code : Byte) :
    (s.complete i c code).now = s.now := by simp [State.complete]
@[simp] theorem State.complete_profile (c : Cmd) (code : Byte) :
    (s.complete i c code).profile = s.profile := by simp [State.complete]
@[simp] theorem State.complete_lock (c : Cmd) (code : Byte) :
    (s.complete i c code).lock = s.lock := by simp [State.complete]
@[simp] theorem State.work_complete (c : Cmd) (code : Byte) :
    (s.complete i c code).work i = (s.work i).act s.profile s.now := by simp [State.complete]
@[simp] theorem State.work_complete_ne {j : SlotId} (c : Cmd) (code : Byte) (h : j ≠ i) :
    (s.complete i c code).work j = s.work j := by simp [State.complete, h]

@[simp] theorem State.completeSensed_admission (c : Cmd) (code : Byte) (k : SenseCode) :
    (s.completeSensed i c code k).admission = s.admission := by simp [State.completeSensed]
@[simp] theorem State.completeSensed_bank (c : Cmd) (code : Byte) (k : SenseCode) (b : BankId) :
    (s.completeSensed i c code k).bank b = s.bank b := by simp [State.completeSensed]
@[simp] theorem State.completeSensed_motion (c : Cmd) (code : Byte) (k : SenseCode) :
    (s.completeSensed i c code k).motion = s.motion := by simp [State.completeSensed]
@[simp] theorem State.completeSensed_park (c : Cmd) (code : Byte) (k : SenseCode) :
    (s.completeSensed i c code k).park = s.park := by simp [State.completeSensed]
@[simp] theorem State.completeSensed_loader (c : Cmd) (code : Byte) (k : SenseCode) :
    (s.completeSensed i c code k).loader = s.loader := by simp [State.completeSensed]
@[simp] theorem State.completeSensed_now (c : Cmd) (code : Byte) (k : SenseCode) :
    (s.completeSensed i c code k).now = s.now := by simp [State.completeSensed]
@[simp] theorem State.completeSensed_profile (c : Cmd) (code : Byte) (k : SenseCode) :
    (s.completeSensed i c code k).profile = s.profile := by simp [State.completeSensed]
@[simp] theorem State.completeSensed_lock (c : Cmd) (code : Byte) (k : SenseCode) :
    (s.completeSensed i c code k).lock = s.lock := by simp [State.completeSensed]
@[simp] theorem State.work_completeSensed (c : Cmd) (code : Byte) (k : SenseCode) :
    (s.completeSensed i c code k).work i
      = ((s.work i).act s.profile s.now).noted s.profile s.motion.state k (some c.args.tag) none
          (s.slot i).ctx.state (s.slot i).pass.hold.length := by simp [State.completeSensed]
@[simp] theorem State.work_completeSensed_ne {j : SlotId} (c : Cmd) (code : Byte) (k : SenseCode)
    (h : j ≠ i) : (s.completeSensed i c code k).work j = s.work j := by
  simp [State.completeSensed, h]

end handed

theorem State.completeAll_keeps (s : State) (i : SlotId) (code : Byte) (l : List Cmd) :
    s.Keeps (State.completeAll i code l s) := (State.Keeps.rfl s).completeAll i code l

@[simp] theorem State.completeAll_admission (i : SlotId) (code : Byte) (l : List Cmd) (s : State) :
    (State.completeAll i code l s).admission = s.admission := by
  induction l generalizing s with
  | nil => rfl
  | cons c rest ih => exact (ih _).trans (State.complete_admission s i c code)

@[simp] theorem State.completeAll_bank (i : SlotId) (code : Byte) (l : List Cmd) (s : State) (b : BankId) :
    (State.completeAll i code l s).bank b = s.bank b := by simp [State.bank]
@[simp] theorem State.completeAll_profile (i : SlotId) (code : Byte) (l : List Cmd) (s : State) :
    (State.completeAll i code l s).profile = s.profile := (State.completeAll_keeps s i code l).profile
@[simp] theorem State.completeAll_now (i : SlotId) (code : Byte) (l : List Cmd) (s : State) :
    (State.completeAll i code l s).now = s.now := (State.completeAll_keeps s i code l).now
@[simp] theorem State.completeAll_motion (i : SlotId) (code : Byte) (l : List Cmd) (s : State) :
    (State.completeAll i code l s).motion = s.motion := (State.completeAll_keeps s i code l).motion
@[simp] theorem State.completeAll_park (i : SlotId) (code : Byte) (l : List Cmd) (s : State) :
    (State.completeAll i code l s).park = s.park := (State.completeAll_keeps s i code l).park
@[simp] theorem State.completeAll_loader (i : SlotId) (code : Byte) (l : List Cmd) (s : State) :
    (State.completeAll i code l s).loader = s.loader := (State.completeAll_keeps s i code l).loader

/-- Completing commands of slot i is activity of it and changes nothing else of it but its upstream queue. -/
@[simp] theorem State.work_completeAll (i : SlotId) (code : Byte) (l : List Cmd) (s : State) :
    (State.completeAll i code l s).work i = if l = [] then s.work i else (s.work i).act s.profile s.now := by
  induction l generalizing s with
  | nil => rfl
  | cons c rest ih =>
    simp only [State.completeAll, ih, State.work_complete, State.complete_profile, State.complete_now,
      reduceCtorEq, if_false]
    split
    · rfl
    · rfl

@[simp] theorem State.work_completeAll_ne {i j : SlotId} (code : Byte) (l : List Cmd) (s : State)
    (h : j ≠ i) : (State.completeAll i code l s).work j = s.work j := by
  induction l generalizing s with
  | nil => rfl
  | cons c rest ih => exact (ih _).trans (State.work_complete_ne s i c code h)

/-! ### A link in transmission -/

/-- While a frame is in transmission upstream, a frame handed up waits. -/
theorem State.pickUpstream_busy {s : State} (h : s.ctrl.sending ≠ none) : s.pickUpstream = s := by
  unfold State.pickUpstream
  split
  · rfl
  · next hn => exact absurd hn h

theorem State.handUp_busy {s : State} (h : s.ctrl.sending ≠ none) (i : SlotId) (f : UpFrame) :
    s.handUp i f = s.modSlot i (fun x => { x with upstream := x.upstream ++ [f] }) := by
  unfold State.handUp
  exact State.pickUpstream_busy (by simpa using h)

theorem State.up_handUp_busy {s : State} (h : s.ctrl.sending ≠ none) (i : SlotId) (f : UpFrame) :
    (s.handUp i f).up i = s.up i ++ [f] := by
  simp [State.handUp_busy h, State.up]

theorem State.beginUpstream_sending (s : State) (f : UpFrame) :
    (s.beginUpstream f).ctrl.sending ≠ none := by
  unfold State.beginUpstream
  split <;> simp

/-- A transmission that has begun goes on. -/
theorem State.pickUpstream_sending {s : State} (h : s.ctrl.sending ≠ none) :
    s.pickUpstream.ctrl.sending ≠ none := by rwa [State.pickUpstream_busy h]

theorem State.handUp_sending {s : State} (h : s.ctrl.sending ≠ none) (i : SlotId) (f : UpFrame) :
    (s.handUp i f).ctrl.sending ≠ none := State.pickUpstream_sending h

/-! ### A link in order -/

/-- A free controller link has no frame waiting for it upstream (R145). -/
def State.UpWorking (s : State) : Prop :=
  s.ctrl.sending = none → (∀ i : SlotId, s.up i = []) ∧ s.ctrl.badSlot = []

theorem State.UpWorking.of_busy {s : State} (h : s.ctrl.sending ≠ none) : s.UpWorking :=
  fun e => absurd e h

theorem State.Working.upWorking {s : State} (h : s.Working) : s.UpWorking := h.1

theorem mem_servedOrder (last p : Fin 11) : p ∈ servedOrder last := by
  revert last p
  decide

theorem State.firstWaiting_some {s : State} {l : List (Fin 11)} {p : Fin 11}
    (h : s.firstWaiting l = some p) : s.upstreamAt p ≠ [] := by
  induction l with
  | nil => cases h
  | cons q rest ih =>
    unfold State.firstWaiting at h
    split at h
    · exact ih h
    · next hq =>
      cases h
      simpa using hq

theorem State.firstWaiting_none {s : State} {l : List (Fin 11)} (h : s.firstWaiting l = none)
    (p : Fin 11) (hp : p ∈ l) : s.upstreamAt p = [] := by
  induction l with
  | nil => cases hp
  | cons q rest ih =>
    unfold State.firstWaiting at h
    split at h
    · next hq =>
      cases hp with
      | head => simpa using hq
      | tail _ hp => exact ih h hp
    · cases h

/-- A slot's place among the positions of the upstream arbiter. -/
def positionOf (i : SlotId) : Fin 11 := ⟨i.val, by omega⟩

theorem State.upstreamAt_positionOf (s : State) (i : SlotId) : s.upstreamAt (positionOf i) = s.up i := by
  have h : (positionOf i).val < 10 := i.isLt
  simp only [State.upstreamAt, h, dite_true]
  rfl

theorem State.setUpstreamAt_positionOf (s : State) (i : SlotId) (q : List UpFrame) :
    s.setUpstreamAt (positionOf i) q = s.modSlot i (fun x => { x with upstream := q }) := by
  have h : (positionOf i).val < 10 := i.isLt
  simp only [State.setUpstreamAt, h, dite_true]
  rfl

theorem positionOf_cases (p : Fin 11) : (∃ i, p = positionOf i) ∨ p.val = 10 := by
  by_cases h : p.val < 10
  · exact .inl ⟨⟨p.val, h⟩, rfl⟩
  · exact .inr (by omega)

theorem State.upstreamAt_badSlot (s : State) {p : Fin 11} (h : p.val = 10) :
    s.upstreamAt p = s.ctrl.badSlot := by simp [State.upstreamAt, h]

/-- With the link free and nothing waiting, a frame handed up leaves the slots as they were and its
transmission begins (R145). -/
theorem State.handUp_free {s : State} (h : s.UpWorking) (hs : s.ctrl.sending = none) (i : SlotId)
    (f : UpFrame) :
    (∀ j, (s.handUp i f).slot j = s.slot j) ∧ (s.handUp i f).ctrl.sending ≠ none := by
  obtain ⟨hup, hbad⟩ := h hs
  let u := s.modSlot i (fun x => { x with upstream := x.upstream ++ [f] })
  have hui : u.up i = [f] := by simpa [u, State.up] using hup i
  have huj : ∀ j, j ≠ i → u.up j = [] := fun j hj => by simpa [u, hj] using hup j
  have hpick : s.handUp i f = u.pickUpstream := rfl
  have hsend : u.ctrl.sending = none := hs
  rw [hpick]
  unfold State.pickUpstream
  rw [hsend]
  simp only
  split
  · next hn =>
    have := State.firstWaiting_none hn (positionOf i) (mem_servedOrder _ _)
    rw [State.upstreamAt_positionOf, hui] at this
    cases this
  · next p hp =>
    have hne := State.firstWaiting_some hp
    have hpi : p = positionOf i := by
      rcases positionOf_cases p with ⟨j, rfl⟩ | hten
      · rw [State.upstreamAt_positionOf] at hne
        by_cases hj : j = i
        · rw [hj]
        · exact absurd (huj j hj) hne
      · rw [State.upstreamAt_badSlot u hten] at hne
        exact absurd hbad hne
    subst hpi
    rw [State.upstreamAt_positionOf, hui]
    simp only [State.setUpstreamAt_positionOf]
    refine ⟨fun j => ?_, State.beginUpstream_sending _ _⟩
    rw [State.beginUpstream_slot]
    change (u.modSlot i (fun x => { x with upstream := [] })).slot j = s.slot j
    by_cases hj : j = i
    · subst hj
      have := hup j
      simp only [State.up] at this
      simp only [State.slot_modSlot_self, u]
      rw [← this]
    · simp [u, hj]

/-- A frame handed up by a slot leaves a link in order (R145). -/
theorem State.UpWorking.handUp {s : State} (h : s.UpWorking) (i : SlotId) (f : UpFrame) :
    (s.handUp i f).UpWorking := by
  by_cases hs : s.ctrl.sending = none
  · exact .of_busy (State.handUp_free h hs i f).2
  · exact .of_busy (State.handUp_sending hs i f)

/-- On a link in order, a frame handed up by a slot leaves the queues of the others as they were. -/
theorem State.up_handUp_ne {s : State} (h : s.UpWorking) {i j : SlotId} (f : UpFrame) (hj : j ≠ i) :
    (s.handUp i f).up j = s.up j := by
  by_cases hs : s.ctrl.sending = none
  · exact State.up_eq_of_slot_eq ((State.handUp_free h hs i f).1 j)
  · simp [State.handUp_busy hs, hj]

/-- A change of slots that leaves their upstream queues leaves a link in order. -/
theorem State.UpWorking.of_eq {s t : State} (h : s.UpWorking) (hc : t.ctrl = s.ctrl)
    (hu : ∀ j, t.up j = s.up j) : t.UpWorking := by
  intro hs
  rw [hc] at hs
  obtain ⟨h1, h2⟩ := h hs
  exact ⟨fun j => (hu j).trans (h1 j), by rw [hc]; exact h2⟩

end Sys2Proof.Machine
end

section
/-! PROOFS. The drive link port and the idle timer: what the arbiter leaves, what entering a state brings them, and a
slot that enters an unpowered state. -/

namespace Sys2Proof.Machine

/-! ## The drive link port -/

/-- Port q differs from p in its sources and its transmission alone. -/
def Port.SameControl (p q : Port) : Prop :=
  q.query = p.query ∧ q.cancelPending = p.cancelPending ∧ q.cancelMiss = p.cancelMiss

theorem Port.pick_sameControl (p : Port) : p.SameControl p.pick := by
  unfold Port.pick
  repeat' split
  all_goals exact ⟨rfl, rfl, rfl⟩

@[simp] theorem Port.pick_query (p : Port) : p.pick.query = p.query := p.pick_sameControl.1
@[simp] theorem Port.pick_cancelPending (p : Port) : p.pick.cancelPending = p.cancelPending :=
  p.pick_sameControl.2.1
@[simp] theorem Port.pick_cancelMiss (p : Port) : p.pick.cancelMiss = p.cancelMiss :=
  p.pick_sameControl.2.2

@[simp] theorem Port.handControl_query (op : ControlOp) (p : Port) :
    (p.handControl op).query = p.query := by cases op <;> simp [Port.handControl]
@[simp] theorem Port.handControl_cancelPending (op : ControlOp) (p : Port) :
    (p.handControl op).cancelPending = p.cancelPending := by cases op <;> simp [Port.handControl]
@[simp] theorem Port.handControl_cancelMiss (op : ControlOp) (p : Port) :
    (p.handControl op).cancelMiss = p.cancelMiss := by cases op <;> simp [Port.handControl]

@[simp] theorem Port.handCommand_query (c : Cmd) (p : Port) : (p.handCommand c).query = p.query := by
  simp [Port.handCommand]
@[simp] theorem Port.handCommand_cancelPending (c : Cmd) (p : Port) :
    (p.handCommand c).cancelPending = p.cancelPending := by simp [Port.handCommand]
@[simp] theorem Port.handCommand_cancelMiss (c : Cmd) (p : Port) :
    (p.handCommand c).cancelMiss = p.cancelMiss := by simp [Port.handCommand]

@[simp] theorem Port.handData_query (d : DataBody) (p : Port) : (p.handData d).query = p.query := by
  simp [Port.handData]
@[simp] theorem Port.handData_cancelPending (d : DataBody) (p : Port) :
    (p.handData d).cancelPending = p.cancelPending := by simp [Port.handData]
@[simp] theorem Port.handData_cancelMiss (d : DataBody) (p : Port) :
    (p.handData d).cancelMiss = p.cancelMiss := by simp [Port.handData]

@[simp] theorem Port.handQuery_query (p : Port) : p.handQuery.query = p.query := by
  unfold Port.handQuery
  split <;> simp
@[simp] theorem Port.handQuery_cancelPending (p : Port) :
    p.handQuery.cancelPending = p.cancelPending := by
  unfold Port.handQuery
  split <;> simp
@[simp] theorem Port.handQuery_cancelMiss (p : Port) : p.handQuery.cancelMiss = p.cancelMiss := by
  unfold Port.handQuery
  split <;> simp

/-- The interval of the QUERY schedule is that of the claims (R9). -/
theorem schedule_eq (p : Profile) (n : Nat) (st : SlotSt) :
    ({ expiry := n + queryInterval p st, interval := queryInterval p st } : QuerySchedule)
      = Profile.schedule p n st := by
  cases st <;> rfl

/-- A powered state starts the QUERY schedule afresh and leaves the cancel exchange (R9). -/
theorem Port.enter_powered (p : Profile) (n : Nat) {st : SlotSt} (port : Port) (h : st.powered = true) :
    (port.enter p n st).query = some (Profile.schedule p n st)
      ∧ (port.enter p n st).cancelPending = port.cancelPending
      ∧ (port.enter p n st).cancelMiss = port.cancelMiss := by
  simp only [Port.enter, h, if_true]
  split <;> simp [schedule_eq, Port.dropOperations]

theorem Port.enter_unpowered (p : Profile) (n : Nat) {st : SlotSt} (port : Port)
    (h : st.powered = false) : port.enter p n st = Port.reset := by
  simp [Port.enter, h, Port.powerDown]

/-! ## The idle timer -/

/-- The idle timer that a slot starts is that of the claims (R27). -/
theorem Slot.touchIdle_idleTimer (p : Profile) (n : Nat) (x : Slot) :
    (x.touchIdle p n).ctx.idleTimer = x.idleFrom p n x.ctx.state := by
  cases h1 : x.pass.hold <;> cases h2 : x.pass.flight <;> cases h3 : x.ctx.state <;>
    simp [Slot.touchIdle, Slot.idleFrom, classIdleMs, h1, h2, h3]

theorem Slot.act_idleTimer (p : Profile) (n : Nat) (x : Slot) :
    (x.act p n).ctx.idleTimer = x.idleFrom p n x.ctx.state :=
  Slot.touchIdle_idleTimer p n { x with ctx := { x.ctx with lastActivity := n } }

theorem Slot.enter_idleTimer (p : Profile) (n : Nat) (st : SlotSt) (r k : Bool) (x : Slot) :
    (x.enter p n st r k).ctx.idleTimer = x.idleFrom p n st := by
  unfold Slot.enter
  exact Slot.touchIdle_idleTimer p n _

/-- The idle timer runs only in IDLE, SPUN and LOADED with no work (R27). -/
def Slot.IdleOk (x : Slot) : Prop :=
  x.ctx.idleTimer.isSome = true →
    x.pass.hold = [] ∧ x.pass.flight = []
      ∧ (x.ctx.state = .idle ∨ x.ctx.state = .spun ∨ x.ctx.state = .loaded)

theorem Slot.idleFrom_isSome {x : Slot} {p : Profile} {n : Nat} {st : SlotSt}
    (h : (x.idleFrom p n st).isSome = true) :
    x.pass.hold = [] ∧ x.pass.flight = [] ∧ (st = .idle ∨ st = .spun ∨ st = .loaded) := by
  simp only [Slot.idleFrom, Option.isSome_ite] at h
  obtain ⟨hhold, hflight, hms⟩ := h
  refine ⟨hhold, hflight, ?_⟩
  cases st <;> simp at hms ⊢

theorem Slot.idleFrom_of_hold {x : Slot} (p : Profile) (n : Nat) (st : SlotSt) (h : x.pass.hold ≠ []) :
    x.idleFrom p n st = none := by simp [Slot.idleFrom, h]

theorem Slot.idleFrom_of_state {x : Slot} (p : Profile) (n : Nat) {st : SlotSt}
    (h : st ≠ .idle ∧ st ≠ .spun ∧ st ≠ .loaded) : x.idleFrom p n st = none := by
  obtain ⟨h1, h2, h3⟩ := h
  simp [Slot.idleFrom, h1, h2, h3]

theorem Slot.touchIdle_idleOk (p : Profile) (n : Nat) (x : Slot) : (x.touchIdle p n).IdleOk := by
  intro h
  rw [Slot.touchIdle_idleTimer] at h
  exact Slot.idleFrom_isSome h

theorem Slot.act_idleOk (p : Profile) (n : Nat) (x : Slot) : (x.act p n).IdleOk :=
  Slot.touchIdle_idleOk p n _

theorem SlotSt.not_idling_of_unpowered {st : SlotSt} (h : st.powered = false) :
    st ≠ .idle ∧ st ≠ .spun ∧ st ≠ .loaded := by
  cases st <;> simp_all [SlotSt.powered]

/-- Activity of an unpowered slot sets its last-activity time and no idle timer (R27). -/
theorem Slot.act_unpowered (p : Profile) (n : Nat) {x : Slot} (h : x.ctx.state.powered = false) :
    x.act p n = { x with ctx := { x.ctx with lastActivity := n, idleTimer := none } } := by
  rw [Slot.act_eq, Slot.act_idleTimer, Slot.idleFrom_of_state p n (SlotSt.not_idling_of_unpowered h)]

/-! ## Entering FAULT, EMPTY and OFF -/

/-- A slot that enters FAULT or EMPTY with its work and its marks dropped (R25). -/
def Slot.down (p : Profile) (n : Nat) (st : SlotSt) (x : Slot) : Slot :=
  let y := x.enter p n st false false
  { y with
    pass := x.pass.emptied
    ctx := { y.ctx with spinMark := false, emergency := false } }

/-- The last-activity time of a slot set. -/
def Slot.actedAt (n : Nat) (x : Slot) : Slot := { x with ctx := { x.ctx with lastActivity := n } }

theorem Slot.down_idleTimer (p : Profile) (n : Nat) {st : SlotSt} (x : Slot)
    (h : st.powered = false) : (x.down p n st).ctx.idleTimer = none :=
  (Slot.enter_idleTimer p n st false false x).trans
    (Slot.idleFrom_of_state p n (SlotSt.not_idling_of_unpowered h))

theorem Slot.act_down (p : Profile) (n : Nat) {st : SlotSt} (x : Slot) (h : st.powered = false) :
    (x.down p n st).act p n = (x.down p n st).actedAt n := by
  rw [Slot.act_unpowered p n (x := x.down p n st) h]
  unfold Slot.actedAt
  rw [← Slot.down_idleTimer p n x h]

theorem Slot.act_actedAt (p : Profile) (n m : Nat) (x : Slot) :
    (x.actedAt m).act p n = x.act p n := rfl

/-- Slot i on its entry into FAULT or EMPTY: down, and active where it had commands to complete or leaves
FAULT (R25 to R27, R117). -/
theorem State.work_enterDown (s : State) (i : SlotId) {st : SlotSt} (code : Byte)
    (h : st.powered = false) :
    (s.enterDown i st code).work i
      = ((s.work i).down s.profile s.now st).actedAt
          (if (s.slot i).pass.commands = [] ∧ (s.slot i).ctx.state ≠ .fault then
            (s.slot i).ctx.lastActivity else s.now) := by
  have hdown : (((s.enter i st false false).modPass i Passage.emptied).modCtx i
      (fun c => { c with spinMark := false, emergency := false })).work i
      = (s.work i).down s.profile s.now st := by simp [Slot.down]
  have hact := Slot.act_down s.profile s.now (s.work i) h
  unfold State.enterDown State.leavingFault
  by_cases hc : (s.slot i).pass.commands = [] <;> by_cases hf : (s.slot i).ctx.state = .fault <;>
    simp only [hc, hf, State.work_active, State.work_completeAll, hdown, if_true, if_false,
      State.completeAll_profile, State.completeAll_now, State.modCtx_profile, State.modPass_profile,
      State.enter_profile, State.modCtx_now, State.modPass_now, State.enter_now, hact,
      Slot.act_actedAt, ne_eq, not_true_eq_false, and_false, and_true, not_false_eq_true]
  rfl

end Sys2Proof.Machine
end

section
/-! PROOFS. The operations of one slot: `OnlyAt i s t` says that t differs from s in the affairs of slot i alone, and each
operation that makes no scan and no shed does. What the slot map brings to a slot. -/

namespace Sys2Proof.Machine

/-- From s to t, nothing but the affairs of slot i changed: its record of everything, its entries in the
admission queue, and what stands upstream. -/
structure State.OnlyAt (i : SlotId) (s t : State) : Prop where
  others : ∀ j, j ≠ i → t.work j = s.work j
  entries : t.admission.queue.filter (fun e => e.slot != i)
    = s.admission.queue.filter (fun e => e.slot != i)
  bank : ∀ b, t.bank b = s.bank b
  loader : t.loader = s.loader
  now : t.now = s.now
  motion : t.motion = s.motion
  park : t.park = s.park
  sending : s.ctrl.sending ≠ none → t.ctrl.sending ≠ none
  upWorking : s.UpWorking → t.UpWorking ∧ ∀ j, j ≠ i → t.up j = s.up j

/-- No entry of slot i stands in the admission queue. -/
def State.NoEntry (s : State) (i : SlotId) : Prop := ∀ e ∈ s.admission.queue, e.slot ≠ i

theorem State.OnlyAt.rfl {i : SlotId} {s : State} : s.OnlyAt i s :=
  ⟨fun _ _ => Eq.refl _, Eq.refl _, fun _ => Eq.refl _, Eq.refl _, Eq.refl _, Eq.refl _, Eq.refl _, id,
    fun h => ⟨h, fun _ _ => Eq.refl _⟩⟩

theorem State.OnlyAt.trans {i : SlotId} {s t u : State} (h : s.OnlyAt i t) (k : t.OnlyAt i u) :
    s.OnlyAt i u where
  others j hj := (k.others j hj).trans (h.others j hj)
  entries := k.entries.trans h.entries
  bank b := (k.bank b).trans (h.bank b)
  loader := k.loader.trans h.loader
  now := k.now.trans h.now
  motion := k.motion.trans h.motion
  park := k.park.trans h.park
  sending hs := k.sending (h.sending hs)
  upWorking hu := ⟨(k.upWorking (h.upWorking hu).1).1,
    fun j hj => ((k.upWorking (h.upWorking hu).1).2 j hj).trans ((h.upWorking hu).2 j hj)⟩

theorem State.OnlyAt.profile {i : SlotId} {s t : State} (h : s.OnlyAt i t) : t.profile = s.profile := by
  simp [State.profile, h.loader]

/-- A change of slot i that leaves its upstream queue. -/
theorem State.OnlyAt.modSlot {i : SlotId} {s t : State} (h : s.OnlyAt i t) (f : Slot → Slot)
    (hf : ∀ x : Slot, (f x).upstream = x.upstream) : s.OnlyAt i (t.modSlot i f) :=
  h.trans
    { others := fun _ hj => State.work_modSlot_ne t f hj
      entries := Eq.refl _, bank := fun _ => Eq.refl _, loader := Eq.refl _, now := Eq.refl _
      motion := Eq.refl _, park := Eq.refl _, sending := id
      upWorking := fun hu => ⟨hu.of_eq (Eq.refl _) fun j => State.up_modSlot t i j f hf,
        fun j _ => State.up_modSlot t i j f hf⟩ }

section slotOperations

variable {i : SlotId} {s t : State} (h : s.OnlyAt i t)
include h

theorem State.OnlyAt.modCtx (f : SlotContext → SlotContext) : s.OnlyAt i (t.modCtx i f) :=
  h.modSlot _ fun _ => Eq.refl _
theorem State.OnlyAt.modPass (f : Passage → Passage) : s.OnlyAt i (t.modPass i f) :=
  h.modSlot _ fun _ => Eq.refl _
theorem State.OnlyAt.modPort (f : Port → Port) : s.OnlyAt i (t.modPort i f) :=
  h.modSlot _ fun _ => Eq.refl _
theorem State.OnlyAt.active : s.OnlyAt i (t.active i) := h.modSlot _ fun _ => Eq.refl _
theorem State.OnlyAt.touchIdle : s.OnlyAt i (t.touchIdle i) := h.modSlot _ fun _ => Eq.refl _
theorem State.OnlyAt.submit (code : SenseCode) (tag : Option Tag) (n : Option Nat) (st : SlotSt)
    (held : Nat) : s.OnlyAt i (t.submit i code tag n st held) := h.modSlot _ fun _ => Eq.refl _

/-- A change of the entries of slot i. -/
theorem State.OnlyAt.setQueue (q : List AdmEntry)
    (hq : q.filter (fun e => e.slot != i) = t.admission.queue.filter (fun e => e.slot != i)) :
    s.OnlyAt i (t.setQueue q) :=
  h.trans
    { others := fun _ _ => Eq.refl _, entries := hq, bank := fun _ => Eq.refl _, loader := Eq.refl _
      now := Eq.refl _, motion := Eq.refl _, park := Eq.refl _, sending := id
      upWorking := fun hu => ⟨hu.of_eq (Eq.refl _) fun _ => Eq.refl _, fun _ _ => Eq.refl _⟩ }

theorem State.OnlyAt.withdraw : s.OnlyAt i (t.withdraw i) := h.setQueue _ (by simp)

theorem State.OnlyAt.enter (st : SlotSt) (r k : Bool) : s.OnlyAt i (t.enter i st r k) :=
  h.withdraw.modSlot _ fun _ => Eq.refl _

theorem State.OnlyAt.handUp (f : UpFrame) : s.OnlyAt i (t.handUp i f) :=
  h.trans
    { others := fun j _ => State.work_handUp t i f j
      entries := by simp, bank := by simp, loader := by simp, now := by simp, motion := by simp
      park := by simp, sending := fun hs => State.handUp_sending hs i f
      upWorking := fun hu => ⟨hu.handUp i f, fun j hj => State.up_handUp_ne hu f hj⟩ }

theorem State.OnlyAt.complete (c : Cmd) (code : Byte) : s.OnlyAt i (t.complete i c code) :=
  (h.handUp _).active
theorem State.OnlyAt.completeSensed (c : Cmd) (code : Byte) (k : SenseCode) :
    s.OnlyAt i (t.completeSensed i c code k) := (h.complete c code).submit _ _ _ _ _

omit h in
theorem State.OnlyAt.completeAll (h : s.OnlyAt i t) (code : Byte) (l : List Cmd) :
    s.OnlyAt i (State.completeAll i code l t) := by
  induction l generalizing t with
  | nil => exact h
  | cons c rest ih => exact ih (h.complete c code)

theorem State.OnlyAt.leavingFault (was : SlotSt) : s.OnlyAt i (State.leavingFault was i t) := by
  unfold State.leavingFault
  split
  · exact h.active
  · exact h

theorem State.OnlyAt.enterDown (st : SlotSt) (code : Byte) : s.OnlyAt i (t.enterDown i st code) :=
  ((((h.enter st false false).modPass _).modCtx _).completeAll _ _).leavingFault _

omit h in
theorem filter_map_bank (i : SlotId) (b : BankId) (q : List AdmEntry) :
    (q.map (fun e => if e.slot = i then { e with bank := b } else e)).filter (fun e => e.slot != i)
      = q.filter (fun e => e.slot != i) := by
  induction q with
  | nil => rfl
  | cons e rest ih => by_cases he : e.slot = i <;> simp [he, ih]

theorem State.OnlyAt.takeMap : s.OnlyAt i (t.takeMap i) := by
  have h1 := (h.setQueue _ (filter_map_bank i (t.profile.slots[i]).bank t.admission.queue)).modCtx
    (fun c => { c with map := t.profile.slots[i] })
  unfold State.takeMap
  simp only
  split
  · split
    · exact h1.modCtx _
    · exact h1
  · split
    · exact h1.modCtx _
    · exact h1.enterDown _ _

theorem State.OnlyAt.enterOff : s.OnlyAt i (t.enterOff i) :=
  (((h.enter _ _ _).modPass _).completeAll _ _).takeMap

theorem State.OnlyAt.orderDown : s.OnlyAt i (t.orderDown i) := by
  unfold State.orderDown
  split <;> first | exact h | exact h.enter _ _ _ | exact h.enterOff.active

theorem State.OnlyAt.forward (c : Cmd) (q : Seq) (n : Nat) : s.OnlyAt i (t.forward i c q n) :=
  ((h.modPass _).modPort _).active
theorem State.OnlyAt.forwardNew (c : Cmd) : s.OnlyAt i (t.forwardNew i c) :=
  State.OnlyAt.forward (h.modPass _) c _ _
theorem State.OnlyAt.forwardHeld (e : HoldEntry) : s.OnlyAt i (t.forwardHeld i e) := by
  unfold State.forwardHeld
  simp only
  split
  · exact State.OnlyAt.forward (h.modPass _) _ _ _
  · exact State.OnlyAt.forwardNew (h.modPass _) _
theorem State.OnlyAt.finishHeld (e : HoldEntry) : s.OnlyAt i (t.finishHeld i e) :=
  (h.modPass _).complete _ _
theorem State.OnlyAt.hold (c : Cmd) : s.OnlyAt i (t.hold i c) := (h.modPass _).touchIdle
theorem State.OnlyAt.beginHead : s.OnlyAt i (t.beginHead i) := h.modPass _
theorem State.OnlyAt.reportDemand : s.OnlyAt i (t.reportDemand i) := h.modPass _
theorem State.OnlyAt.leaveFault : s.OnlyAt i (t.leaveFault i) := (h.enterOff.modCtx _).active
theorem State.OnlyAt.removeFlight (g : Tag) : s.OnlyAt i (t.removeFlight i g) := (h.modPass _).modPort _
theorem State.OnlyAt.requeue (r : InFlight) : s.OnlyAt i (t.requeue i r) :=
  ((h.removeFlight _).modPass _).touchIdle
theorem State.OnlyAt.sweepEntry (e : HoldEntry) : s.OnlyAt i (t.sweepEntry i e) :=
  (h.modPass _).completeSensed _ _ _
theorem State.OnlyAt.sweepRequeued (e : HoldEntry) : s.OnlyAt i (t.sweepRequeued i e) := by
  unfold State.sweepRequeued
  split
  · exact h.sweepEntry e
  · exact h
theorem State.OnlyAt.passUp (r : DriveReport) : s.OnlyAt i (t.passUp i r) := (h.handUp _).active
theorem State.OnlyAt.abortInFlight (c : Cmd) : s.OnlyAt i (t.abortInFlight i c) :=
  ((h.modPass _).modPort _).active

end slotOperations

/-! ## Entries of a slot -/

theorem State.enter_noEntry (s : State) (i : SlotId) (st : SlotSt) (r k : Bool) :
    (s.enter i st r k).NoEntry i := by
  intro e he
  simp only [State.enter_queue, List.mem_filter] at he
  simpa using he.2

theorem State.NoEntry.of_queue_eq {s t : State} {i : SlotId} (h : s.NoEntry i)
    (hq : t.admission.queue = s.admission.queue) : t.NoEntry i := by rwa [State.NoEntry, hq]

/-- A state with no entry of a slot has for its queue what it has apart from that slot. -/
theorem State.NoEntry.filter_eq {s : State} {i : SlotId} (h : s.NoEntry i) :
    s.admission.queue.filter (fun e => e.slot != i) = s.admission.queue :=
  List.filter_eq_self.mpr fun e he => by simpa using h e he

theorem State.enterDown_noEntry (s : State) (i : SlotId) (st : SlotSt) (code : Byte) :
    (s.enterDown i st code).NoEntry i := by
  refine State.NoEntry.of_queue_eq (s.enter_noEntry i st false false) ?_
  unfold State.enterDown State.leavingFault
  split <;> simp

/-! ## The slot map -/

/-- A slot under a slot map entry, with a debounce (R5, R24). -/
def Slot.mapped (m : SlotMap) (debounce : Option Nat) (x : Slot) : Slot :=
  { x with ctx := { x.ctx with map := m, presentDebounce := debounce } }

/-- The debounce of a slot that takes an enabling slot map entry (R5; log entry 13). -/
def Slot.debounceUnder (now : Nat) (x : Slot) : Option Nat :=
  if x.ctx.state = .empty && !x.ctx.map.enabled && x.presentLine then some now
  else x.ctx.presentDebounce

/-- A slot that takes an enabling entry works under it from then on (R5). -/
theorem State.work_takeMap_enabled {s : State} {i : SlotId}
    (h : (s.profile.slots[i]).enabled = true) :
    (s.takeMap i).work i
      = (s.work i).mapped (s.profile.slots[i]) ((s.work i).debounceUnder s.now) := by
  have hx : ((s.work i).ctx.state = .empty && !(s.work i).ctx.map.enabled && (s.work i).presentLine)
      = ((s.slot i).ctx.state = .empty && !(s.slot i).ctx.map.enabled && (s.slot i).presentLine) := rfl
  unfold State.takeMap Slot.debounceUnder
  simp only [h, if_true, hx]
  split <;> simp [Slot.mapped]

/-- An EMPTY slot that takes a disabling entry stands under it with no debounce (R5). -/
theorem State.work_takeMap_empty {s : State} {i : SlotId}
    (h : (s.profile.slots[i]).enabled = false) (he : (s.slot i).ctx.state = .empty) :
    (s.takeMap i).work i = (s.work i).mapped (s.profile.slots[i]) none := by
  unfold State.takeMap
  simp only [h, he, Bool.false_eq_true, if_true, if_false, State.work_modCtx, State.work_setQueue]
  rfl

/-- Any other slot that takes a disabling entry goes to EMPTY (R5). -/
theorem State.work_takeMap_disabled {s : State} {i : SlotId}
    (h : (s.profile.slots[i]).enabled = false) (he : (s.slot i).ctx.state ≠ .empty) :
    (s.takeMap i).work i
      = (((s.work i).mapped (s.profile.slots[i]) (s.slot i).ctx.presentDebounce).down s.profile s.now
          .empty).actedAt
          (if (s.slot i).pass.commands = [] ∧ (s.slot i).ctx.state ≠ .fault then
            (s.slot i).ctx.lastActivity else s.now) := by
  unfold State.takeMap
  simp only [h, he, Bool.false_eq_true, if_false]
  rw [State.work_enterDown _ _ _ (by rfl)]
  simp only [State.slot_ctx, State.slot_pass, State.work_modCtx, State.work_setQueue,
    State.modCtx_profile, State.setQueue_profile, State.modCtx_now, State.setQueue_now]
  rfl

theorem State.takeMap_queue_of_noEntry {s : State} {i : SlotId} (h : s.NoEntry i) :
    (s.takeMap i).admission.queue = s.admission.queue := by
  have hmap : s.admission.queue.map
      (fun e => if e.slot = i then { e with bank := (s.profile.slots[i]).bank } else e)
      = s.admission.queue :=
    (List.map_congr_left fun e he => by simp [h e he]).trans (List.map_id _)
  unfold State.takeMap
  simp only [hmap]
  split
  · split <;> rfl
  · split
    · rfl
    · have hn : ((s.setQueue s.admission.queue).modCtx i
          (fun c => { c with map := s.profile.slots[i] })).NoEntry i := h
      have he := State.OnlyAt.enterDown (i := i) (State.OnlyAt.rfl
        (s := (s.setQueue s.admission.queue).modCtx i (fun c => { c with map := s.profile.slots[i] })))
        .empty codeSlotEmpty
      rw [← (State.enterDown_noEntry _ i _ _).filter_eq, he.entries, hn.filter_eq]
      rfl

theorem State.takeMap_noEntry {s : State} {i : SlotId} (h : s.NoEntry i) : (s.takeMap i).NoEntry i :=
  h.of_queue_eq (State.takeMap_queue_of_noEntry h)

theorem State.enterOff_noEntry (s : State) (i : SlotId) : (s.enterOff i).NoEntry i :=
  State.takeMap_noEntry ((s.enter_noEntry i .off false false).of_queue_eq (by simp))

end Sys2Proof.Machine
end

section
/-! PROOFS. Soundness, operation by operation: `State.Fit full s` says that the slots and the admission queue of s are
sound and, where `full` holds, that its slots meet the laws of the slot map and of the emptied slots as well. -/

namespace Sys2Proof.Machine

/-- A slot is sound (R6 to R9, R22, R27, R32, R135); and, where `full` holds, it has no command in EMPTY and FAULT,
its counts stay below 3, and it works under the slot map entry m in OFF, EMPTY and FAULT (R5, R9, R25, R98,
R139). -/
structure Slot.Fit (full : Prop) (m : SlotMap) (x : Slot) : Prop where
  controlled : x.Controlled
  quiet : x.Quiet
  latch : x.ctx.latch = true → x.ctx.state = .fault ∨ x.ctx.state = .empty
  emptied : full → x.Emptied
  mapped : full →
    (x.ctx.state = .off ∨ x.ctx.state = .empty ∨ x.ctx.state = .fault → x.ctx.map = m)
      ∧ (x.ctx.state = .off ∨ x.ctx.state = .fault → x.ctx.map.enabled = true)

/-- Every slot is sound and the admission queue is in order. -/
structure State.Fit (full : Prop) (s : State) : Prop where
  slots : ∀ i, (s.work i).Fit full (s.profile.slots[i])
  queue : s.QueueOk

/-- Every slot but i is sound, and so is the admission queue apart from the entries of i. -/
structure State.FitBut (full : Prop) (i : SlotId) (s : State) : Prop where
  slots : ∀ j, j ≠ i → (s.work j).Fit full (s.profile.slots[j])
  queue : (s.withdraw i).QueueOk

/-! ## Slots -/

section slot

variable {full : Prop} {m : SlotMap} {x : Slot}

/-- A slot that stands unpowered, at rest and with nothing in flight is sound. -/
theorem Slot.fit_unpowered (hp : x.ctx.state.powered = false) (ho : x.ctx.outstanding = .none)
    (hd : x.ctx.stepDeadline = none) (hc : x.charge = 0) (hq : x.port = Port.reset)
    (hf : x.fence = false) (hw : x.pass.flight = []) (hi : x.ctx.idleTimer = none)
    (hl : x.ctx.latch = true → x.ctx.state = .fault ∨ x.ctx.state = .empty)
    (hfull : full → x.ctx.missed < 3 ∧ x.ctx.map = m ∧ (x.ctx.state ≠ .empty → m.enabled = true)
      ∧ (x.ctx.state ≠ .off → x.pass.hold = [] ∧ x.pass.aborts = [])) : x.Fit full m where
  controlled := by
    have hst : x.ctx.state.outstanding = .none := by
      cases h : x.ctx.state <;> simp_all [SlotSt.powered, SlotSt.outstanding]
    simp [Slot.Controlled, ho, hd, hq, hf, hst, hp, Port.reset]
  quiet := by simp [Slot.Quiet, hc, hq, hw, hi]
  latch := hl
  emptied h := by
    obtain ⟨hm, -, -, hpass⟩ := hfull h
    refine ⟨fun hst => ?_, hm, by simp [hq, Port.reset]⟩
    obtain ⟨h1, h2⟩ := hpass (by rcases hst with e | e <;> simp [e])
    exact ⟨h1, hw, h2⟩
  mapped h := by
    obtain ⟨-, hmap, hen, -⟩ := hfull h
    refine ⟨fun _ => hmap, fun hst => ?_⟩
    rw [hmap]
    exact hen (by rcases hst with e | e <;> simp [e])

/-- A sound slot with its latch clear that enters a powered state, no command in flight where that is POWERING,
is sound (R6 to R9). -/
theorem Slot.Fit.enter {p : Profile} {n : Nat} {st : SlotSt} {r k : Bool} (h : x.Fit full m)
    (hst : st.powered = true) (hl : x.ctx.latch = false)
    (hw : st = .powering → x.pass.flight = []) : (x.enter p n st r k).Fit full m where
  controlled := by
    obtain ⟨hquery, hpend, hmiss⟩ := Port.enter_powered p n x.port hst
    obtain ⟨-, -, -, hfence, -, hle⟩ := h.controlled
    refine ⟨rfl, ?_, ?_, ?_, ?_, ?_⟩
    · cases st <;> rfl
    · simp [hquery, hst]
    · simp [hpend, hfence, hst]
    · simp [hst]
    · simpa [hmiss] using hle
  quiet := by
    refine ⟨fun hn => by simp [hst] at hn, fun hr => ?_, fun hi => ?_⟩
    · have : st = .powering := by cases st <;> simp_all [SlotSt.powered, SlotSt.rank]
      simpa using hw this
    · rw [Slot.enter_idleTimer] at hi
      simpa using Slot.idleFrom_isSome hi
  latch hx := by simp [hl] at hx
  emptied hf := by
    obtain ⟨-, hmissed, hcancel⟩ := h.emptied hf
    obtain ⟨-, -, hmiss⟩ := Port.enter_powered p n x.port hst
    refine ⟨fun he => ?_, ?_, by simpa [hmiss] using hcancel⟩
    · rcases he with e | e <;> simp only [Slot.enter_state] at e <;> simp [e, SlotSt.powered] at hst
    · change (if st == .powering || !st.powered then 0 else x.ctx.missed) < 3
      split
      · omega
      · exact hmissed
  mapped _ := by
    constructor
    · rintro (e | e | e) <;> simp only [Slot.enter_state] at e <;> simp [e, SlotSt.powered] at hst
    · rintro (e | e) <;> simp only [Slot.enter_state] at e <;> simp [e, SlotSt.powered] at hst

/-- A slot that has gone down into FAULT or EMPTY is sound, under its slot map entry where `full` asks for it. -/
theorem Slot.fit_down {p : Profile} {n a : Nat} {st : SlotSt} (hst : st = .fault ∨ st = .empty)
    (hm : full → x.ctx.map = m ∧ (st ≠ .empty → m.enabled = true)) :
    ((x.down p n st).actedAt a).Fit full m := by
  have hp : st.powered = false := by rcases hst with e | e <;> simp [e, SlotSt.powered]
  obtain ⟨hcharge, hport⟩ := Slot.enter_unpowered p n st false false x hp
  refine Slot.fit_unpowered hp ?_ ?_ hcharge hport ?_ rfl (Slot.down_idleTimer p n x hp)
    (fun _ => hst) fun hf => ⟨?_, (hm hf).1, (hm hf).2, fun _ => ⟨rfl, rfl⟩⟩
  · rcases hst with e | e <;> subst e <;> rfl
  · rcases hst with e | e <;> subst e <;> rfl
  · simp [Slot.down, Slot.actedAt, hp]
  · change (if st == .powering || !st.powered then 0 else x.ctx.missed) < 3
    simp [hp]

/-- A sound slot keeps sound under a change of what soundness does not look at: the record, the notice, the
abort list, the forward sequence, the demand, the debounce, the marks, the lines. -/
theorem Slot.Fit.of_eq {y : Slot} (h : x.Fit full m) (hstate : y.ctx.state = x.ctx.state)
    (hmap : y.ctx.map = x.ctx.map) (hout : y.ctx.outstanding = x.ctx.outstanding)
    (hdead : y.ctx.stepDeadline = x.ctx.stepDeadline) (hport : y.port = x.port)
    (hfence : y.fence = x.fence) (hcharge : y.charge = x.charge) (hlatch : y.ctx.latch = x.ctx.latch)
    (hmissed : y.ctx.missed = x.ctx.missed) (hidle : y.IdleOk)
    (hwork : x.ctx.state.rank ≤ 1 → x.pass.flight = [] → y.pass.flight = [])
    (hempty : full → x.ctx.state = .empty ∨ x.ctx.state = .fault →
      x.pass.hold = [] ∧ x.pass.flight = [] ∧ x.pass.aborts = [] →
      y.pass.hold = [] ∧ y.pass.flight = [] ∧ y.pass.aborts = []) : y.Fit full m where
  controlled := by simpa only [Slot.Controlled, hstate, hout, hdead, hport, hfence] using h.controlled
  quiet := by
    obtain ⟨h1, h2, -⟩ := h.quiet
    refine ⟨?_, ?_, hidle⟩
    · rwa [hstate, hcharge, hport]
    · rw [hstate]
      exact fun hr => hwork hr (h2 hr)
  latch := by rw [hlatch, hstate]; exact h.latch
  emptied hf := by
    obtain ⟨h1, h2, h3⟩ := h.emptied hf
    exact ⟨by rw [hstate]; exact fun hst => hempty hf hst (h1 hst), by rwa [hmissed], by rwa [hport]⟩
  mapped hf := by rw [hstate, hmap]; exact h.mapped hf

theorem Slot.Fit.idleOk (h : x.Fit full m) : x.IdleOk := h.quiet.2.2

/-- A change of the context that touches neither state, map, step, latch, count nor idle timer. -/
theorem Slot.Fit.modCtx (h : x.Fit full m) {c : SlotContext} (hstate : c.state = x.ctx.state)
    (hmap : c.map = x.ctx.map) (hout : c.outstanding = x.ctx.outstanding)
    (hdead : c.stepDeadline = x.ctx.stepDeadline) (hlatch : c.latch = x.ctx.latch)
    (hmissed : c.missed = x.ctx.missed) (hidle : c.idleTimer = x.ctx.idleTimer) :
    ({ x with ctx := c } : Slot).Fit full m :=
  h.of_eq hstate hmap hout hdead rfl rfl rfl hlatch hmissed
    (by simpa only [Slot.IdleOk, hidle, hstate] using h.idleOk) (fun _ e => e) (fun _ _ e => e)

theorem Slot.Fit.touchIdle (h : x.Fit full m) (p : Profile) (n : Nat) : (x.touchIdle p n).Fit full m :=
  h.of_eq rfl rfl rfl rfl rfl rfl rfl rfl rfl (Slot.touchIdle_idleOk p n x) (fun _ e => e) (fun _ _ e => e)

theorem Slot.Fit.act (h : x.Fit full m) (p : Profile) (n : Nat) : (x.act p n).Fit full m :=
  h.of_eq rfl rfl rfl rfl rfl rfl rfl rfl rfl (Slot.act_idleOk p n x) (fun _ e => e) (fun _ _ e => e)

theorem Slot.Fit.noted (h : x.Fit full m) (p : Profile) (k : MotionSt) (code : SenseCode)
    (tag : Option Tag) (n : Option Nat) (st : SlotSt) (held : Nat) :
    (x.noted p k code tag n st held).Fit full m :=
  h.of_eq rfl rfl rfl rfl rfl rfl rfl rfl rfl h.idleOk (fun _ e => e) (fun _ _ e => e)

/-- A change of the passage that adds nothing to the in-flight set, and nothing to the hold queue of a slot that
has none. -/
theorem Slot.Fit.lessWork (h : x.Fit full m) {p : Passage} (hh : x.pass.hold = [] → p.hold = [])
    (hf : x.pass.flight = [] → p.flight = []) (ha : x.pass.aborts = [] → p.aborts = []) :
    ({ x with pass := p } : Slot).Fit full m := by
  refine h.of_eq rfl rfl rfl rfl rfl rfl rfl rfl rfl (fun hi => ?_) (fun _ => hf)
    fun _ _ he => ⟨hh he.1, hf he.2.1, ha he.2.2⟩
  obtain ⟨h1, h2, h3⟩ := h.idleOk hi
  exact ⟨hh h1, hf h2, h3⟩

/-- A change of a powered slot's port that leaves its schedule and its cancel exchange. -/
theorem Slot.Fit.modPort (h : x.Fit full m) {q : Port} (hx : x.ctx.state.powered = true)
    (hq : x.port.SameControl q) : ({ x with port := q } : Slot).Fit full m where
  controlled := by
    obtain ⟨h1, h2, h3⟩ := hq
    simpa only [Slot.Controlled, h1, h2, h3] using h.controlled
  quiet := ⟨fun hn => by simp [hx] at hn, h.quiet.2.1, h.quiet.2.2⟩
  latch := h.latch
  emptied hf := by
    obtain ⟨h1, h2, h3⟩ := h.emptied hf
    exact ⟨h1, h2, by simpa only [hq.2.2] using h3⟩
  mapped := h.mapped

end slot

end Sys2Proof.Machine
end

section
/-! PROOFS. What the operations of the command passage make of a slot. -/

namespace Sys2Proof.Machine

/-- A slot that has forwarded a command (R113). -/
def Slot.forwarded (p : Profile) (now : Nat) (c : Cmd) (q : Seq) (reissue : Nat) (x : Slot) : Slot :=
  Slot.act p now
    { x with
      pass :=
        { x.pass with
          flight := x.pass.flight ++
            [{ cmd := c, seq := q, reissue := reissue, abortForwarded := false, requests := [] }] }
      port := x.port.handCommand c }

/-- A slot whose passage is changed. -/
def Slot.withPass (f : Passage → Passage) (x : Slot) : Slot := { x with pass := f x.pass }

/-- A slot that has forwarded one of its held entries (R113). -/
def Slot.forwardedHeld (p : Profile) (now : Nat) (e : HoldEntry) (x : Slot) : Slot :=
  let y := x.withPass (fun a => a.dropHeld e.cmd.args.tag)
  match e.seq with
  | some q => y.forwarded p now e.cmd q e.reissue
  | none =>
    (y.withPass (fun a => { a with nextSeq := a.nextSeq + 1 })).forwarded p now e.cmd x.pass.nextSeq 0

/-- The NEW entry of a command that is held at a time (R105, R111). -/
def newEntry (p : Profile) (now : Nat) (c : Cmd) : HoldEntry :=
  { cmd := c, origin := .new, seq := none, reissue := 0, deadline := some (now + p.holdMs),
    inProgress := false }

/-- The hold queue with its head entry in progress (R110). -/
def Passage.begun (a : Passage) : Passage :=
  { a with
    hold := match a.hold with
      | [] => []
      | e :: rest => e.begin :: rest }

section work

variable (s : State) (i : SlotId)

@[simp] theorem State.work_forward (c : Cmd) (q : Seq) (n : Nat) :
    (s.forward i c q n).work i = (s.work i).forwarded s.profile s.now c q n := by
  simp [State.forward, Slot.forwarded]

@[simp] theorem State.work_forwardNew (c : Cmd) :
    (s.forwardNew i c).work i
      = ((s.work i).withPass (fun a => { a with nextSeq := a.nextSeq + 1 })).forwarded s.profile s.now c
          (s.work i).pass.nextSeq 0 := by
  simp [State.forwardNew, State.takeSeq, Slot.withPass, State.slot_pass]

@[simp] theorem State.work_forwardHeld (e : HoldEntry) :
    (s.forwardHeld i e).work i = (s.work i).forwardedHeld s.profile s.now e := by
  unfold State.forwardHeld Slot.forwardedHeld
  cases e.seq <;> simp [Slot.withPass, Passage.dropHeld]

@[simp] theorem State.work_finishHeld (e : HoldEntry) :
    (s.finishHeld i e).work i
      = ((s.work i).withPass (fun a => a.dropHeld e.cmd.args.tag)).act s.profile s.now := by
  simp [State.finishHeld, Slot.withPass]

@[simp] theorem State.work_hold (c : Cmd) :
    (s.hold i c).work i
      = ((s.work i).withPass (fun a => { a with hold := a.hold ++ [newEntry s.profile s.now c] })).touchIdle
          s.profile s.now := by
  simp [State.hold, Slot.withPass, newEntry]

@[simp] theorem State.work_beginHead :
    (s.beginHead i).work i = (s.work i).withPass Passage.begun := by
  simp only [State.beginHead, State.work_modPass, Slot.withPass, Passage.begun] <;> rfl

@[simp] theorem State.work_reportDemand :
    (s.reportDemand i).work i = (s.work i).withPass (fun a => { a with demand := demandOf a.hold }) := by
  simp [State.reportDemand, Slot.withPass]

@[simp] theorem State.work_removeFlight (g : Tag) :
    (s.removeFlight i g).work i
      = { (s.work i).withPass (fun a => a.dropFlight g) with port := (s.work i).port.dropData g } := by
  simp [State.removeFlight, Slot.withPass]

@[simp] theorem State.work_passUp (r : DriveReport) :
    (s.passUp i r).work i = (s.work i).act s.profile s.now := by
  simp [State.passUp]

/-! The queue of the admission unit, and the fields of the other blocks, stand. -/

@[simp] theorem State.forward_queue (c : Cmd) (q : Seq) (n : Nat) :
    (s.forward i c q n).admission = s.admission := rfl
@[simp] theorem State.forwardNew_queue (c : Cmd) : (s.forwardNew i c).admission = s.admission := rfl
@[simp] theorem State.forwardHeld_queue (e : HoldEntry) :
    (s.forwardHeld i e).admission = s.admission := by
  unfold State.forwardHeld
  cases e.seq <;> rfl
@[simp] theorem State.finishHeld_queue (e : HoldEntry) : (s.finishHeld i e).admission = s.admission := by
  simp [State.finishHeld]
@[simp] theorem State.hold_queue (c : Cmd) : (s.hold i c).admission = s.admission := rfl
@[simp] theorem State.beginHead_queue : (s.beginHead i).admission = s.admission := rfl
@[simp] theorem State.reportDemand_queue : (s.reportDemand i).admission = s.admission := rfl
@[simp] theorem State.removeFlight_queue (g : Tag) : (s.removeFlight i g).admission = s.admission := rfl
@[simp] theorem State.passUp_queue (r : DriveReport) : (s.passUp i r).admission = s.admission := by
  simp [State.passUp]

end work

end Sys2Proof.Machine
end

section
/-! PROOFS. The entries into OFF, FAULT and EMPTY: what they make of the slot, and that they keep soundness. -/

namespace Sys2Proof.Machine

/-! ## A slot at rest -/

/-- A slot stands unpowered with no step, no charge, no command in flight and its port as after reset. -/
structure Slot.AtRest (x : Slot) : Prop where
  powered : x.ctx.state.powered = false
  outstanding : x.ctx.outstanding = .none
  deadline : x.ctx.stepDeadline = none
  charge : x.charge = 0
  port : x.port = Port.reset
  fence : x.fence = false
  flight : x.pass.flight = []
  idle : x.ctx.idleTimer = none
  missed : x.ctx.missed = 0
  query : x.ctx.queryPending = false
  retry : x.ctx.retry = 0

theorem Slot.AtRest.mapped {x : Slot} (h : x.AtRest) (m : SlotMap) (d : Option Nat) :
    (x.mapped m d).AtRest := { h with }

theorem Slot.AtRest.actedAt {x : Slot} (h : x.AtRest) (n : Nat) : (x.actedAt n).AtRest := { h with }

/-- A slot that enters an unpowered state with nothing in flight is at rest. -/
theorem Slot.enter_atRest (p : Profile) (n : Nat) {st : SlotSt} {x : Slot} (h : st.powered = false)
    (hw : x.pass.flight = []) : (x.enter p n st false false).AtRest where
  powered := h
  outstanding := by cases st <;> first | rfl | cases h
  deadline := by cases st <;> first | rfl | cases h
  charge := (Slot.enter_unpowered p n st false false x h).1
  port := (Slot.enter_unpowered p n st false false x h).2
  fence := by simp [h]
  flight := hw
  idle := (Slot.enter_idleTimer p n st false false x).trans
    (Slot.idleFrom_of_state p n (SlotSt.not_idling_of_unpowered h))
  missed := by
    change (if st == .powering || !st.powered then 0 else x.ctx.missed) = 0
    simp [h]
  query := by
    change (x.ctx.queryPending && !(st == .powering || !st.powered)) = false
    simp [h]
  retry := rfl

theorem Slot.down_atRest (p : Profile) (n : Nat) {st : SlotSt} (x : Slot) (h : st.powered = false) :
    (x.down p n st).AtRest :=
  { Slot.enter_atRest p n (x := x.withPass (fun _ => x.pass.emptied)) h rfl with
    charge := (Slot.enter_unpowered p n st false false x h).1
    idle := Slot.down_idleTimer p n x h }

theorem Slot.AtRest.fit {full : Prop} {m : SlotMap} {x : Slot} (h : x.AtRest)
    (hl : x.ctx.latch = true → x.ctx.state = .fault ∨ x.ctx.state = .empty)
    (hfull : full → x.ctx.map = m ∧ (x.ctx.state ≠ .empty → m.enabled = true)
      ∧ (x.ctx.state ≠ .off → x.pass.hold = [] ∧ x.pass.aborts = [])) : x.Fit full m :=
  Slot.fit_unpowered h.powered h.outstanding h.deadline h.charge h.port h.fence h.flight h.idle hl
    fun hf => ⟨by simp [h.missed], hfull hf⟩

/-! ## The entry into OFF -/

/-- A slot that enters OFF, with no ABORT listed any more (R120). -/
def Slot.intoOff (p : Profile) (n : Nat) (x : Slot) : Slot :=
  (x.enter p n .off false false).withPass (fun a => { a with aborts := [] })

theorem Slot.intoOff_atRest (p : Profile) (n : Nat) {x : Slot} (h : x.pass.flight = []) :
    (x.intoOff p n).AtRest := { Slot.enter_atRest p n (st := .off) rfl h with }

theorem Slot.act_intoOff (p : Profile) (n : Nat) (x : Slot) :
    (x.intoOff p n).act p n = (x.intoOff p n).actedAt n := by
  rw [Slot.act_unpowered p n (x := x.intoOff p n) rfl]
  have hi : (x.intoOff p n).ctx.idleTimer = none :=
    (Slot.enter_idleTimer p n .off false false x).trans
      (Slot.idleFrom_of_state p n ⟨by decide, by decide, by decide⟩)
  unfold Slot.actedAt
  rw [← hi]

/-- Slot i in OFF with the ABORTs that were listed completed, before it takes its slot map entry (R120). -/
def State.offAnswered (s : State) (i : SlotId) : State :=
  State.completeAll i codeOk (s.slot i).pass.aborts
    ((s.enter i .off false false).modPass i (fun p => { p with aborts := [] }))

theorem State.enterOff_eq (s : State) (i : SlotId) : s.enterOff i = (s.offAnswered i).takeMap i := rfl

@[simp] theorem State.offAnswered_profile (s : State) (i : SlotId) :
    (s.offAnswered i).profile = s.profile := by simp [State.offAnswered]

@[simp] theorem State.offAnswered_now (s : State) (i : SlotId) : (s.offAnswered i).now = s.now := by
  simp [State.offAnswered]

theorem State.work_offAnswered (s : State) (i : SlotId) :
    (s.offAnswered i).work i
      = ((s.work i).intoOff s.profile s.now).actedAt
          (if (s.slot i).pass.aborts = [] then (s.slot i).ctx.lastActivity else s.now) := by
  have hw : ((s.enter i .off false false).modPass i (fun p => { p with aborts := [] })).work i
      = (s.work i).intoOff s.profile s.now := by
    rw [State.work_modPass, State.work_enter]
    rfl
  unfold State.offAnswered
  rw [State.work_completeAll, hw]
  split
  · rfl
  · exact Slot.act_intoOff s.profile s.now (s.work i)

/-- Slot i in OFF under an entry that enables it (R5). -/
theorem State.work_enterOff_enabled {s : State} {i : SlotId}
    (h : (s.profile.slots[i]).enabled = true) :
    (s.enterOff i).work i
      = (((s.work i).intoOff s.profile s.now).actedAt
          (if (s.slot i).pass.aborts = [] then (s.slot i).ctx.lastActivity else s.now)).mapped
          (s.profile.slots[i]) (s.slot i).ctx.presentDebounce := by
  have hp := State.offAnswered_profile s i
  rw [State.enterOff_eq, State.work_takeMap_enabled (by rw [hp]; exact h), State.work_offAnswered, hp]
  rfl

/-- Slot i in EMPTY, on from OFF, under an entry that disables it (R5). -/
theorem State.work_enterOff_disabled {s : State} {i : SlotId}
    (h : (s.profile.slots[i]).enabled = false) : ∃ a,
    (s.enterOff i).work i
      = ((((s.work i).intoOff s.profile s.now).mapped (s.profile.slots[i])
          (s.slot i).ctx.presentDebounce).down s.profile s.now .empty).actedAt a := by
  have hp := State.offAnswered_profile s i
  have hw := State.work_offAnswered s i
  have hstate : ((s.offAnswered i).slot i).ctx.state = .off := by rw [State.slot_ctx, hw]; rfl
  have hmap := State.work_takeMap_disabled (s := s.offAnswered i) (by rw [hp]; exact h) (by simp [hstate])
  rw [hp, State.offAnswered_now] at hmap
  simp only [State.slot_ctx, State.slot_pass, hw] at hmap
  exact ⟨_, hmap⟩

/-! ## Soundness but for one slot -/

section fitBut

variable {full : Prop} {i : SlotId} {s t : State}

theorem State.Fit.fitBut (h : s.Fit full) (i : SlotId) : s.FitBut full i where
  slots j _ := h.slots j
  queue := by
    obtain ⟨h1, h2⟩ := h.queue
    refine ⟨fun e he => h1 e (List.mem_filter.mp he).1, ?_⟩
    exact h2.sublist ((List.filter_sublist).map _)

theorem State.FitBut.of_onlyAt (h : s.FitBut full i) (o : s.OnlyAt i t) : t.FitBut full i where
  slots j hj := by rw [o.others j hj, o.profile]; exact h.slots j hj
  queue := by
    obtain ⟨h1, h2⟩ := h.queue
    have hq : (t.withdraw i).admission.queue = (s.withdraw i).admission.queue := o.entries
    refine ⟨fun e he => ?_, by rwa [hq]⟩
    rw [hq] at he
    have hne : e.slot ≠ i := by simpa using (List.mem_filter.mp he).2
    have := h1 e he
    simpa only [State.EntryOk, State.withdraw_slot, State.slot_ctx, o.others _ hne] using this

theorem State.FitBut.fit (h : s.FitBut full i) (hx : (s.work i).Fit full (s.profile.slots[i]))
    (hn : s.NoEntry i) : s.Fit full where
  slots j := by
    by_cases hj : j = i
    · subst hj; exact hx
    · exact h.slots j hj
  queue := by
    have hq : (s.withdraw i).admission.queue = s.admission.queue := hn.filter_eq
    obtain ⟨h1, h2⟩ := h.queue
    rw [hq] at h1 h2
    exact ⟨h1, h2⟩

/-- A change of slot i's affairs that leaves its state, its map and the admission queue. -/
theorem State.Fit.change (h : s.Fit full) (o : s.OnlyAt i t)
    (hq : t.admission.queue = s.admission.queue)
    (hstate : (t.work i).ctx.state = (s.work i).ctx.state)
    (hmap : (t.work i).ctx.map = (s.work i).ctx.map)
    (hx : (t.work i).Fit full (s.profile.slots[i])) : t.Fit full where
  slots j := by
    rw [o.profile]
    by_cases hj : j = i
    · subst hj; exact hx
    · rw [o.others j hj]; exact h.slots j
  queue := by
    obtain ⟨h1, h2⟩ := h.queue
    refine ⟨fun e he => ?_, by rwa [hq]⟩
    rw [hq] at he
    have := h1 e he
    by_cases hj : e.slot = i
    · simp only [State.EntryOk, State.slot_ctx, hj, hstate, hmap] at this ⊢
      exact this
    · simpa only [State.EntryOk, State.slot_ctx, o.others _ hj] using this

/-- What has the same slots, queue and profile is as sound. -/
theorem State.Fit.of_same (h : s.Fit full) (hw : ∀ j, t.work j = s.work j)
    (hq : t.admission.queue = s.admission.queue) (hp : t.profile = s.profile) : t.Fit full where
  slots j := by rw [hp, hw]; exact h.slots j
  queue := by
    obtain ⟨h1, h2⟩ := h.queue
    refine ⟨fun e he => ?_, by rwa [hq]⟩
    rw [hq] at he
    simpa only [State.EntryOk, State.slot_ctx, hw] using h1 e he

/-- Slot i takes its slot map entry at rest in OFF, FAULT or EMPTY (R5). -/
theorem State.FitBut.takeMap (h : s.FitBut full i) (hn : s.NoEntry i) (hr : (s.work i).AtRest)
    (hl : (s.work i).ctx.latch = true → (s.work i).ctx.state ≠ .off)
    (hw : full → (s.work i).ctx.state ≠ .off → (s.work i).pass.hold = [] ∧ (s.work i).pass.aborts = []) :
    (s.takeMap i).Fit full := by
  have o : s.OnlyAt i (s.takeMap i) := State.OnlyAt.rfl.takeMap
  refine (h.of_onlyAt o).fit ?_ (State.takeMap_noEntry hn)
  have hstate : (s.work i).ctx.state ≠ .off →
      (s.work i).ctx.state = .fault ∨ (s.work i).ctx.state = .empty := by
    intro hoff
    have := hr.powered
    cases hst : (s.work i).ctx.state <;> simp_all [SlotSt.powered]
  have hlatch : (s.work i).ctx.latch = true →
      (s.work i).ctx.state = .fault ∨ (s.work i).ctx.state = .empty := fun hx => hstate (hl hx)
  rw [o.profile]
  by_cases hen : (s.profile.slots[i]).enabled = true
  · rw [State.work_takeMap_enabled hen]
    exact (hr.mapped _ _).fit hlatch fun hf => ⟨rfl, fun _ => hen, hw hf⟩
  · rw [Bool.not_eq_true] at hen
    by_cases he : (s.slot i).ctx.state = .empty
    · rw [State.work_takeMap_empty hen he]
      exact (hr.mapped _ _).fit hlatch fun hf => ⟨rfl, fun hx => absurd he hx, hw hf⟩
    · rw [State.work_takeMap_disabled hen he]
      exact Slot.fit_down (.inr rfl) fun _ => ⟨rfl, fun hx => absurd rfl hx⟩

/-- Slot i enters OFF with nothing in flight and its latch clear (R5, R7, R120). -/
theorem State.FitBut.enterOff (h : s.FitBut full i) (hw : (s.slot i).pass.flight = [])
    (hl : (s.slot i).ctx.latch = false) : (s.enterOff i).Fit full := by
  have o : s.OnlyAt i (s.offAnswered i) :=
    ((State.OnlyAt.rfl.enter .off false false).modPass _).completeAll _ _
  have hwork := State.work_offAnswered s i
  refine (h.of_onlyAt o).takeMap ((s.enter_noEntry i .off false false).of_queue_eq ?_) ?_ ?_ ?_
  · simp [State.offAnswered]
  · rw [hwork]
    exact (Slot.intoOff_atRest s.profile s.now (x := s.work i) hw).actedAt _
  · rw [hwork]
    intro hx
    exact absurd (hx.symm.trans hl) (by simp)
  · rw [hwork]
    exact fun _ hoff => absurd rfl hoff

/-- Slot i enters FAULT or EMPTY and takes its slot map entry (R5, R25). -/
theorem State.FitBut.enterDown_takeMap (h : s.FitBut full i) {st : SlotSt} (code : Byte)
    (hst : st = .fault ∨ st = .empty) (f : SlotContext → SlotContext)
    (hf : ∀ c, ∃ b, f c = { c with faultAck := b }) :
    (((s.enterDown i st code).modCtx i f).takeMap i).Fit full := by
  have hp : st.powered = false := by rcases hst with e | e <;> simp [e, SlotSt.powered]
  have o : s.OnlyAt i ((s.enterDown i st code).modCtx i f) := (State.OnlyAt.rfl.enterDown st code).modCtx f
  have hw := State.work_enterDown s i code hp
  have hr := ((Slot.down_atRest s.profile s.now (s.work i) hp).actedAt
    (if (s.slot i).pass.commands = [] ∧ (s.slot i).ctx.state ≠ .fault then
      (s.slot i).ctx.lastActivity else s.now))
  have hne : st ≠ .off := by rcases hst with e | e <;> simp [e]
  have hwork : ((s.enterDown i st code).modCtx i f).work i
      = { (s.enterDown i st code).work i with ctx := f ((s.enterDown i st code).work i).ctx } := by simp
  obtain ⟨b, hb⟩ := hf ((s.enterDown i st code).work i).ctx
  rw [hb, hw] at hwork
  have hn : ((s.enterDown i st code).modCtx i f).NoEntry i := s.enterDown_noEntry i st code
  refine (h.of_onlyAt o).takeMap hn ?_ ?_ ?_ <;> rw [hwork]
  · exact { hr with }
  · exact fun _ => hne
  · exact fun _ _ => ⟨rfl, rfl⟩

end fitBut

end Sys2Proof.Machine
end

section
/-! PROOFS. The admission unit and the command passage keep soundness. -/

namespace Sys2Proof.Machine

/-! ## Facts about the scan's and the shed's own tests -/

theorem Kind.target_powered (k : Kind) : k.target.powered = true := by cases k <;> rfl

theorem SlotSt.source_of_nextKind {st : SlotSt} {k : Kind} (h : st.nextKind = some k) : st = k.source := by
  cases st <;> cases k <;> first | rfl | cases h

/-- The slot that a shed chooses is one of those given. -/
theorem State.shedFirst_mem {s : State} {l : List SlotId} {i : SlotId} (h : s.shedFirst l = some i) :
    i ∈ l := by
  induction l generalizing i with
  | nil => cases h
  | cons j rest ih =>
    unfold State.shedFirst at h
    split at h
    · cases h; exact List.mem_cons_self
    · next k hk =>
      split at h
      · cases h; exact List.mem_cons_self
      · cases h; exact List.mem_cons_of_mem _ (ih hk)

theorem State.shedChoice_candidate {s : State} {b : BankId} {i : SlotId}
    (h : s.shedChoice b = some i) : s.candidate b i = true :=
  (List.mem_filter.mp (State.shedFirst_mem h)).2

/-- The executable test for a shed candidate is that of the claims (R47). -/
theorem State.candidate_iff {s : State} {b : BankId} {i : SlotId} :
    s.candidate b i = true ↔ s.ShedCandidate b i := by
  simp [State.candidate, State.ShedCandidate, and_assoc]

section fit

variable {full : Prop} {i : SlotId} {s : State}

/-! ## One slot -/

theorem State.Fit.modCtx (h : s.Fit full) (f : SlotContext → SlotContext)
    (hf : ∀ c, (f c).state = c.state ∧ (f c).map = c.map ∧ (f c).outstanding = c.outstanding
      ∧ (f c).stepDeadline = c.stepDeadline ∧ (f c).latch = c.latch ∧ (f c).missed = c.missed
      ∧ (f c).idleTimer = c.idleTimer) : (s.modCtx i f).Fit full := by
  obtain ⟨h1, h2, h3, h4, h5, h6, h7⟩ := hf (s.work i).ctx
  refine h.change (State.OnlyAt.rfl.modCtx f) rfl ?_ ?_ ?_ <;> rw [State.work_modCtx]
  · exact h1
  · exact h2
  · exact (h.slots i).modCtx h1 h2 h3 h4 h5 h6 h7

theorem State.Fit.active (h : s.Fit full) : (s.active i).Fit full :=
  h.change State.OnlyAt.rfl.active rfl (by simp) (by simp [Slot.act, Slot.touchIdle])
    (by simpa using (h.slots i).act _ _)

theorem State.Fit.touchIdle (h : s.Fit full) : (s.touchIdle i).Fit full :=
  h.change State.OnlyAt.rfl.touchIdle rfl (by simp) (by simp [Slot.touchIdle])
    (by simpa using (h.slots i).touchIdle _ _)

theorem State.Fit.submit (h : s.Fit full) (code : SenseCode) (tag : Option Tag) (n : Option Nat)
    (st : SlotSt) (held : Nat) : (s.submit i code tag n st held).Fit full :=
  h.change (State.OnlyAt.rfl.submit _ _ _ _ _) rfl (by simp [Slot.noted]) (by simp [Slot.noted])
    (by simpa using (h.slots i).noted _ _ _ _ _ _ _)

theorem State.Fit.handUp (h : s.Fit full) (f : UpFrame) : (s.handUp i f).Fit full :=
  h.of_same (fun j => State.work_handUp s i f j) (by simp) (by simp)

theorem State.Fit.complete (h : s.Fit full) (c : Cmd) (code : Byte) : (s.complete i c code).Fit full :=
  (h.handUp _).active

theorem State.Fit.completeSensed (h : s.Fit full) (c : Cmd) (code : Byte) (k : SenseCode) :
    (s.completeSensed i c code k).Fit full := (h.complete c code).submit _ _ _ _ _

theorem State.Fit.passUp (h : s.Fit full) (r : DriveReport) : (s.passUp i r).Fit full :=
  (h.handUp _).active

theorem State.Fit.withdraw (h : s.Fit full) : (s.withdraw i).Fit full :=
  (h.fitBut i).of_onlyAt State.OnlyAt.rfl.withdraw |>.fit (h.slots i) (fun e he => by
    simpa using (List.mem_filter.mp he).2)

theorem State.Fit.modBank (h : s.Fit full) (b : BankId) (f : Bank → Bank) : (s.modBank b f).Fit full :=
  h.of_same (fun _ => rfl) rfl rfl

/-- A change of the passage that adds nothing to the in-flight set, and nothing to the hold queue of a slot that
has none. -/
theorem State.Fit.lessWork (h : s.Fit full) (f : Passage → Passage)
    (hf : ∀ a, (a.hold = [] → (f a).hold = []) ∧ (a.flight = [] → (f a).flight = [])
      ∧ (a.aborts = [] → (f a).aborts = [])) : (s.modPass i f).Fit full := by
  obtain ⟨h1, h2, h3⟩ := hf (s.work i).pass
  exact h.change (State.OnlyAt.rfl.modPass f) rfl (by simp) (by simp)
    (by simpa using (h.slots i).lessWork h1 h2 h3)

theorem State.Fit.modPort (h : s.Fit full) (f : Port → Port)
    (hp : (s.slot i).ctx.state.powered = true) (hf : ∀ p, Port.SameControl p (f p)) :
    (s.modPort i f).Fit full :=
  h.change (State.OnlyAt.rfl.modPort f) rfl (by simp) (by simp)
    (by simpa using (h.slots i).modPort hp (hf _))

/-- Slot i enters a powered state with its latch clear, no command in flight where that is POWERING. -/
theorem State.Fit.enter (h : s.Fit full) {st : SlotSt} (r k : Bool) (hst : st.powered = true)
    (hl : (s.slot i).ctx.latch = false) (hw : st = .powering → (s.slot i).pass.flight = []) :
    (s.enter i st r k).Fit full :=
  ((h.fitBut i).of_onlyAt (State.OnlyAt.rfl.enter st r k)).fit
    (by rw [State.work_enter]; exact (h.slots i).enter hst hl hw) (s.enter_noEntry i st r k)

/-- The latch of a slot in any state but FAULT and EMPTY is clear (R21). -/
theorem State.Fit.latch_clear (h : s.Fit full) (h1 : (s.slot i).ctx.state ≠ .fault)
    (h2 : (s.slot i).ctx.state ≠ .empty) : (s.slot i).ctx.latch = false := by
  rw [← Bool.not_eq_true]
  exact fun hl => ((h.slots i).latch hl).elim h1 h2

theorem State.Fit.latch_powered (h : s.Fit full) (hp : (s.slot i).ctx.state.powered = true) :
    (s.slot i).ctx.latch = false :=
  h.latch_clear (fun e => by simp [e, SlotSt.powered] at hp) (fun e => by simp [e, SlotSt.powered] at hp)

/-- A slot at or below the level of POWERING has nothing in flight (R94). -/
theorem State.Fit.flight_nil (h : s.Fit full) (hr : (s.slot i).ctx.state.rank ≤ 1) :
    (s.slot i).pass.flight = [] := (h.slots i).quiet.2.1 hr

/-! ## Lowering orders and the scan -/

theorem State.Fit.enterOff (h : s.Fit full) (hw : (s.slot i).pass.flight = [])
    (hl : (s.slot i).ctx.latch = false) : (s.enterOff i).Fit full := (h.fitBut i).enterOff hw hl

/-- A lowering order keeps soundness; an IDLE slot has nothing in flight when it is given one (R7). -/
theorem State.Fit.orderDown (h : s.Fit full)
    (hw : (s.slot i).ctx.state = .idle → (s.slot i).pass.flight = []) : (s.orderDown i).Fit full := by
  unfold State.orderDown
  split
  case h_1 e => exact h.enter _ _ rfl (h.latch_powered (by rw [e]; rfl)) (fun h => by cases h)
  case h_2 e => exact h.enter _ _ rfl (h.latch_powered (by rw [e]; rfl)) (fun h => by cases h)
  case h_3 e => exact h.enter _ _ rfl (h.latch_powered (by rw [e]; rfl)) (fun h => by cases h)
  case h_4 e => exact (h.enterOff (hw e) (h.latch_powered (by rw [e]; rfl))).active
  all_goals exact h

theorem State.Fit.startStagger (h : s.Fit full) (b : BankId) : (s.startStagger b).Fit full := by
  unfold State.startStagger
  split
  · exact h
  · exact h.modBank b _

/-- The grant of an entry that is in order (R6). -/
theorem State.Fit.grant (h : s.Fit full) {e : AdmEntry} (he : s.EntryOk e) : (s.grant e).Fit full := by
  have hst := he.1
  have hl : (s.slot e.slot).ctx.latch = false := by
    refine h.latch_clear ?_ ?_ <;> rw [hst] <;> cases e.kind <;> simp [Kind.source]
  have h1 : (s.enter e.slot e.kind.target true e.retried).Fit full := by
    refine h.enter true e.retried e.kind.target_powered hl fun ht => h.flight_nil ?_
    rw [hst]
    cases hk : e.kind <;> simp_all [Kind.target, Kind.source, SlotSt.rank]
  unfold State.grant
  simp only
  split
  · exact h1.startStagger _
  · exact h1
  · exact h1

/-- A grant leaves the slots of the other entries. -/
theorem State.grant_work_ne (s : State) (e : AdmEntry) {j : SlotId} (hj : j ≠ e.slot) :
    (s.grant e).work j = s.work j := by
  unfold State.grant State.startStagger
  cases e.kind
  · simp [hj]
  · simp only
    split <;> simp [hj]
  · simp [hj]

theorem State.Fit.scanOver (q : List AdmEntry) (m : Marks) (h : s.Fit full)
    (hq : ∀ e ∈ q, s.EntryOk e) (hn : (q.map (·.slot)).Nodup) : (State.scanOver q m s).Fit full := by
  induction q generalizing s m with
  | nil => exact h
  | cons e rest ih =>
    rw [List.map_cons, List.nodup_cons] at hn
    have hrest : ∀ f ∈ rest, s.EntryOk f := fun f hf => hq f (List.mem_cons_of_mem _ hf)
    have hgrant : (State.scanOver rest m (s.grant e)).Fit full := by
      refine ih m (h.grant (hq e List.mem_cons_self)) (fun f hf => ?_) hn.2
      have hne : f.slot ≠ e.slot := fun hs => hn.1 (hs ▸ List.mem_map_of_mem hf)
      simpa only [State.EntryOk, State.slot_ctx, State.grant_work_ne s e hne] using hrest f hf
    unfold State.scanOver
    repeat' split
    all_goals first | exact hgrant | exact ih _ h hrest hn.2

theorem State.Fit.scan (h : s.Fit full) : s.scan.Fit full := by
  unfold State.scan
  split
  · exact h
  · exact h.scanOver _ _ h.queue.1 h.queue.2

theorem State.Fit.shedRounds (h : s.Fit full) (n : Nat) (b : BankId) :
    (State.shedRounds n b s).Fit full := by
  induction n generalizing s with
  | zero => exact h
  | succ n ih =>
    unfold State.shedRounds
    split
    · split
      · exact h
      · next i hi =>
        obtain ⟨-, -, -, hw⟩ := State.candidate_iff.mp (State.shedChoice_candidate hi)
        exact ih (h.orderDown fun _ => hw)
    · exact h

theorem State.Fit.clearIfFits (h : s.Fit full) (b : BankId) : (s.clearIfFits b).Fit full := by
  unfold State.clearIfFits
  split
  · exact (h.modBank b _).scan
  · exact h

theorem State.Fit.shed (h : s.Fit full) (b : BankId) : (s.shed b).Fit full := by
  unfold State.shed
  split
  · exact (h.shedRounds 10 b).clearIfFits b
  · exact h

theorem State.Fit.sumFell (h : s.Fit full) (b : BankId) : (s.sumFell b).Fit full := by
  unfold State.sumFell State.evaluate
  repeat' split
  · exact h.clearIfFits b
  · exact h.shed b
  · exact h.scan

theorem State.Fit.react (h : s.Fit full) (was : Slot) (i : SlotId) : (State.react was i s).Fit full := by
  have h1 : (if (s.slot i).charge < was.charge then s.sumFell was.ctx.map.bank else s).Fit full := by
    split
    · exact h.sumFell _
    · exact h
  unfold State.react
  simp only
  split
  · exact h1.scan
  · exact h1

theorem State.Fit.lower (h : s.Fit full)
    (hw : (s.slot i).ctx.state = .idle → (s.slot i).pass.flight = []) : (s.lower i).Fit full :=
  (h.orderDown hw).react _ i

/-- An entry is placed for a slot in the state that it belongs to (R36). -/
theorem State.Fit.place (h : s.Fit full) {k : Kind} (hk : (s.slot i).ctx.state = k.source) (r : Bool) :
    (s.place i k r).Fit full := by
  unfold State.place
  split
  · exact h
  · next hany =>
    refine State.Fit.scan ⟨h.slots, fun e he => ?_, ?_⟩
    · simp only [State.setQueue_queue, List.mem_append, List.mem_singleton] at he
      rcases he with he | rfl
      · exact h.queue.1 e he
      · exact ⟨hk, rfl⟩
    · simp only [State.setQueue_queue, List.map_append, List.map_cons, List.map_nil]
      refine List.Nodup.append h.queue.2 (by simp) ?_
      simpa [List.disjoint_singleton] using hany

/-! ## The command passage -/

theorem State.Fit.compare (h : s.Fit full) : (s.compare i).Fit full := by
  unfold State.compare
  split
  · exact h.withdraw
  · next k hk =>
    split
    · exact h.place (SlotSt.source_of_nextKind hk) false
    · exact h.withdraw

theorem State.Fit.reportDemand (h : s.Fit full) : (s.reportDemand i).Fit full :=
  h.lessWork _ fun _ => ⟨id, id, id⟩

theorem State.Fit.report (h : s.Fit full) : (s.report i).Fit full := h.reportDemand.compare

/-- A slot at IDLE or above is powered, and neither in EMPTY nor in FAULT. -/
theorem SlotSt.of_two_le_rank {st : SlotSt} (h : 2 ≤ st.rank) :
    st.powered = true ∧ st ≠ .empty ∧ st ≠ .fault := by
  cases st <;> simp_all [SlotSt.rank, SlotSt.powered]

theorem Slot.Fit.forwarded {m : SlotMap} {x : Slot} (h : x.Fit full m) (hr : 2 ≤ x.ctx.state.rank)
    (p : Profile) (now : Nat) (f : Passage → Passage) (c : Cmd) (q : Seq) (n : Nat) :
    ((x.withPass f).forwarded p now c q n).Fit full m := by
  obtain ⟨hp, he, hf⟩ := SlotSt.of_two_le_rank hr
  have hport := h.modPort hp (q := x.port.handCommand c) ⟨by simp, by simp, by simp⟩
  refine hport.of_eq rfl rfl rfl rfl rfl rfl rfl rfl rfl (Slot.act_idleOk _ _ _) ?_ ?_
  · exact fun hle => absurd hle (by change ¬ x.ctx.state.rank ≤ 1; omega)
  · exact fun _ hst => absurd hst (by rintro (e | e); exacts [he e, hf e])

theorem State.Fit.forward (h : s.Fit full) (hr : 2 ≤ (s.slot i).ctx.state.rank) (c : Cmd) (q : Seq)
    (n : Nat) : (s.forward i c q n).Fit full :=
  h.change (State.OnlyAt.rfl.forward c q n) rfl (by simp [Slot.forwarded])
    (by simp [Slot.forwarded, Slot.act, Slot.touchIdle])
    (by simpa [Slot.withPass] using (h.slots i).forwarded hr s.profile s.now id c q n)

theorem State.Fit.forwardNew (h : s.Fit full) (hr : 2 ≤ (s.slot i).ctx.state.rank) (c : Cmd) :
    (s.forwardNew i c).Fit full :=
  h.change (State.OnlyAt.rfl.forwardNew c) rfl (by simp [Slot.forwarded, Slot.withPass])
    (by simp [Slot.forwarded, Slot.act, Slot.touchIdle, Slot.withPass])
    (by simpa using (h.slots i).forwarded hr s.profile s.now _ c _ _)

theorem Slot.forwardedHeld_eq (p : Profile) (now : Nat) (e : HoldEntry) (x : Slot) :
    ∃ f q n, x.forwardedHeld p now e = (x.withPass f).forwarded p now e.cmd q n := by
  unfold Slot.forwardedHeld
  cases e.seq with
  | some q => exact ⟨_, _, _, rfl⟩
  | none => exact ⟨fun a => { a.dropHeld e.cmd.args.tag with nextSeq := a.nextSeq + 1 }, _, _, rfl⟩

theorem State.Fit.forwardHeld (h : s.Fit full) (hr : 2 ≤ (s.slot i).ctx.state.rank) (e : HoldEntry) :
    (s.forwardHeld i e).Fit full := by
  obtain ⟨f, q, n, hx⟩ := Slot.forwardedHeld_eq s.profile s.now e (s.work i)
  refine h.change (State.OnlyAt.rfl.forwardHeld e) (by simp) ?_ ?_ ?_ <;> rw [State.work_forwardHeld, hx]
  · rfl
  · rfl
  · exact (h.slots i).forwarded hr s.profile s.now f e.cmd q n

theorem Passage.dropHeld_nil {a : Passage} (g : Tag) (h : a.hold = []) : (a.dropHeld g).hold = [] := by
  simp [Passage.dropHeld, h]

theorem State.Fit.dropHeld (h : s.Fit full) (g : Tag) :
    (s.modPass i (fun p => p.dropHeld g)).Fit full :=
  h.lessWork _ fun _ => ⟨Passage.dropHeld_nil g, id, id⟩

theorem State.Fit.finishHeld (h : s.Fit full) (e : HoldEntry) : (s.finishHeld i e).Fit full :=
  (h.dropHeld _).complete _ _

/-- A command joins the hold queue of a slot, which where `full` holds is not in EMPTY or FAULT (R105). -/
theorem State.Fit.hold (h : s.Fit full) (c : Cmd)
    (hst : full → (s.slot i).ctx.state ≠ .empty ∧ (s.slot i).ctx.state ≠ .fault) :
    (s.hold i c).Fit full := by
  refine h.change (State.OnlyAt.rfl.hold c) rfl ?_ ?_ ?_ <;> rw [State.work_hold]
  · rfl
  · rfl
  · refine (h.slots i).of_eq rfl rfl rfl rfl rfl rfl rfl rfl rfl (Slot.touchIdle_idleOk _ _ _)
      (fun _ hf => hf) fun hf he => ?_
    exact absurd he (by rintro (e | e); exacts [(hst hf).1 e, (hst hf).2 e])

theorem State.Fit.beginHead (h : s.Fit full) : (s.beginHead i).Fit full :=
  h.lessWork _ fun a => ⟨fun hn => by simp [hn], id, id⟩

theorem SlotSt.two_le_rank_of_holds {st : SlotSt} {l : Level} (h : st.holds l = true) (hl : 2 ≤ l.rank) :
    2 ≤ st.rank := by
  simp only [SlotSt.holds, decide_eq_true_eq] at h
  omega

theorem State.Fit.serveRounds (h : s.Fit full) (n : Nat) : (State.serveRounds n i s).Fit full := by
  induction n generalizing s with
  | zero => exact h
  | succ n ih =>
    unfold State.serveRounds
    split
    · exact h
    · split
      · exact h
      · next e rest hhold =>
        split
        case h_1 =>
          split
          · next hh => exact ih (h.forwardHeld (SlotSt.two_le_rank_of_holds hh (by decide)) e).report
          · exact h
        case h_2 =>
          split
          · next hh => exact ih (h.forwardHeld (SlotSt.two_le_rank_of_holds hh (by decide)) e).report
          · exact h
        case h_3 =>
          split
          · exact ih (h.finishHeld e).report
          · exact h
        case h_4 =>
          split
          · exact h
          · next hflight =>
            split
            · exact h.beginHead
            · split
              · exact ih ((h.beginHead).finishHeld e).report
              · refine h.beginHead.lower fun _ => ?_
                have : ((s.beginHead i).slot i).pass.flight = (s.slot i).pass.flight := by
                  rw [State.slot_pass, State.work_beginHead]
                  rfl
                rw [this]
                simpa using hflight
        all_goals exact h

theorem State.Fit.serve (h : s.Fit full) : (s.serve i).Fit full := h.serveRounds _

theorem State.Fit.reportAndServe (h : s.Fit full) : (s.reportAndServe i).Fit full := h.report.serve

theorem State.abovePark_idle {s : State} {i : SlotId} (h : s.abovePark i = true)
    (hi : (s.slot i).ctx.state = .idle) : (s.slot i).pass.flight = [] := by
  simp [State.abovePark, hi] at h
  exact h.2

theorem State.Fit.parkTest (h : s.Fit full) : (s.parkTest i).Fit full := by
  unfold State.parkTest
  split
  · next hp =>
    simp only [Bool.and_eq_true] at hp
    exact h.lower (State.abovePark_idle hp.2)
  · exact h

theorem State.Fit.settleEnd (h : s.Fit full) : (State.settleEnd i s).Fit full := h.reportAndServe.shed _

theorem State.Fit.settle (h : s.Fit full) : (State.settle i s).Fit full :=
  h.reportAndServe.parkTest.settleEnd

end fit

end Sys2Proof.Machine
end

section
/-! PROOFS. The slot engine, the arrivals and what a drive sends keep soundness. -/

namespace Sys2Proof.Machine

section fit

variable {full : Prop} {i : SlotId} {s : State}

/-! ## FAULT, EMPTY and the slot map -/

theorem State.Fit.reactDown (h : s.Fit full) (was : Slot) (i : SlotId) :
    (State.reactDown was i s).Fit full := (h.react was i).shed _

/-- Whatever stood at slot i, its entry into FAULT leaves it sound (R25). -/
theorem State.FitBut.enterFault (h : s.FitBut full i) (cause : SenseCode) : (s.enterFault i cause).Fit full :=
  State.Fit.reactDown ((h.of_onlyAt (State.OnlyAt.rfl.submit _ _ _ _ _)).enterDown_takeMap _ (.inl rfl) _
    fun _ => ⟨false, rfl⟩) _ i

theorem State.Fit.enterFault (h : s.Fit full) (cause : SenseCode) : (s.enterFault i cause).Fit full :=
  (h.fitBut i).enterFault cause

theorem State.modCtx_id (s : State) (i : SlotId) : s.modCtx i (fun c => c) = s := by
  apply State.ext_slots <;> try simp
  intro j
  by_cases hj : j = i
  · subst hj; simp [State.modCtx]
  · simp [State.modCtx, hj]

theorem State.Fit.enterRemoved (h : s.Fit full) : (s.enterRemoved i).Fit full := by
  have h1 := ((h.fitBut i).of_onlyAt (State.OnlyAt.rfl.submit .slotRemoved none none (s.slot i).ctx.state
    (s.slot i).pass.hold.length)).enterDown_takeMap codeSlotEmpty (.inr rfl) (fun c => c) fun c => ⟨_, rfl⟩
  rw [State.modCtx_id] at h1
  exact State.Fit.reactDown h1 _ i

theorem Slot.Fit.underMap {m k : SlotMap} {x : Slot} (h : x.Fit full m) (d : Option Nat)
    (hk : k.enabled = true ∨ x.ctx.state = .empty) : (x.mapped k d).Fit full k where
  controlled := h.controlled
  quiet := h.quiet
  latch := h.latch
  emptied := h.emptied
  mapped _ := by
    refine ⟨fun _ => rfl, fun he => hk.elim id fun hs => ?_⟩
    have hs' : (x.mapped k d).ctx.state = .empty := hs
    simp [hs'] at he

/-- A powered slot is sound whatever its entry of the profile. -/
theorem Slot.Fit.of_powered {m k : SlotMap} {x : Slot} (h : x.Fit full m)
    (hp : x.ctx.state.powered = true) : x.Fit full k where
  controlled := h.controlled
  quiet := h.quiet
  latch := h.latch
  emptied := h.emptied
  mapped _ := by
    constructor
    · rintro (e | e | e) <;> simp [e, SlotSt.powered] at hp
    · rintro (e | e) <;> simp [e, SlotSt.powered] at hp

/-- The slots and the queue are sound, each slot under some slot map entry: so it is when a profile has come into
force that the slots have not taken yet (R5, R169). -/
structure State.Loose (full : Prop) (s : State) : Prop where
  slots : ∀ i, ∃ m, (s.work i).Fit full m
  queue : s.QueueOk

theorem State.Fit.loose (h : s.Fit full) : s.Loose full := ⟨fun i => ⟨_, h.slots i⟩, h.queue⟩

theorem State.takeMap_queue_kept {s : State} {i : SlotId}
    (h : (s.profile.slots[i]).enabled = true ∨ (s.slot i).ctx.state = .empty) :
    (s.takeMap i).admission.queue
      = s.admission.queue.map (fun e =>
          if e.slot = i then { e with bank := (s.profile.slots[i]).bank } else e) := by
  unfold State.takeMap
  rcases h with h | h
  · simp only [h, if_true]
    split <;> rfl
  · simp only [h]
    split
    · split <;> rfl
    · rfl

/-- A slot takes its slot map entry: it and the queue are sound under it (R5). -/
theorem State.Loose.takeMap (h : s.Loose full) :
    ((s.takeMap i).work i).Fit full (s.profile.slots[i]) ∧ (s.takeMap i).QueueOk := by
  obtain ⟨m, hm⟩ := h.slots i
  have o : s.OnlyAt i (s.takeMap i) := State.OnlyAt.rfl.takeMap
  by_cases hk : (s.profile.slots[i]).enabled = true ∨ (s.slot i).ctx.state = .empty
  · have hx : ∃ d, (s.takeMap i).work i = (s.work i).mapped (s.profile.slots[i]) d := by
      by_cases hen : (s.profile.slots[i]).enabled = true
      · exact ⟨_, State.work_takeMap_enabled hen⟩
      · exact ⟨none, State.work_takeMap_empty (by simpa using hen) (hk.resolve_left hen)⟩
    obtain ⟨d, hx⟩ := hx
    refine ⟨hx ▸ hm.underMap d hk, fun e he => ?_, ?_⟩
    · rw [State.takeMap_queue_kept hk] at he
      obtain ⟨f, hf, rfl⟩ := List.mem_map.mp he
      have hok := h.queue.1 f hf
      by_cases hfi : f.slot = i
      · simp only [hfi, if_true]
        simp only [State.EntryOk, State.slot_ctx, hfi, hx] at hok ⊢
        exact ⟨hok.1, rfl⟩
      · simp only [hfi, if_false]
        simpa only [State.EntryOk, State.slot_ctx, o.others _ hfi] using hok
    · rw [State.takeMap_queue_kept hk, List.map_map]
      have hslots : ((·.slot) ∘ fun e : AdmEntry =>
          if e.slot = i then { e with bank := (s.profile.slots[i]).bank } else e) = (·.slot) := by
        funext e
        simp only [Function.comp_apply]
        split <;> rfl
      rw [hslots]
      exact h.queue.2
  · simp only [not_or, Bool.not_eq_true] at hk
    have hx := State.work_takeMap_disabled hk.1 hk.2
    have hn : (s.takeMap i).NoEntry i := by
      unfold State.takeMap
      simp only [hk.1, hk.2, Bool.false_eq_true, if_false]
      exact State.enterDown_noEntry _ i _ _
    refine ⟨hx ▸ Slot.fit_down (.inr rfl) fun _ => ⟨rfl, fun hc => absurd rfl hc⟩, fun e he => ?_, ?_⟩
    · have hne := hn e he
      rw [← hn.filter_eq, o.entries] at he
      have hok := h.queue.1 e (List.mem_filter.mp he).1
      simpa only [State.EntryOk, State.slot_ctx, o.others _ hne] using hok
    · rw [← hn.filter_eq, o.entries]
      exact h.queue.2.sublist (List.filter_sublist.map _)

theorem State.Loose.takeMap_loose (h : s.Loose full) : (s.takeMap i).Loose full where
  slots j := by
    by_cases hj : j = i
    · subst hj; exact ⟨_, h.takeMap.1⟩
    · have o : s.OnlyAt i (s.takeMap i) := State.OnlyAt.rfl.takeMap
      rw [o.others j hj]
      exact h.slots j
  queue := h.takeMap.2

theorem State.Fit.takeMap (h : s.Fit full) : (s.takeMap i).Fit full where
  slots j := by
    have o : s.OnlyAt i (s.takeMap i) := State.OnlyAt.rfl.takeMap
    rw [o.profile]
    by_cases hj : j = i
    · subst hj; exact h.loose.takeMap.1
    · rw [o.others j hj]; exact h.slots j
  queue := h.loose.takeMap.2

/-! ## Self-unloads, failures and steps -/

theorem State.Fit.selfUnload (h : s.Fit full) : (s.selfUnload i).Fit full := by
  have key (hp : (s.slot i).ctx.state.powered = true) :
      (State.react (s.slot i) i
        (((s.submit i .selfUnload none none (s.slot i).ctx.state (s.slot i).pass.hold.length).enter i .spun
          false false).modCtx i (fun c => { c with emergency := false }))).Fit full := by
    refine State.Fit.react ?_ _ i
    refine State.Fit.modCtx ?_ _ fun _ => ⟨rfl, rfl, rfl, rfl, rfl, rfl, rfl⟩
    refine (h.submit _ _ _ _ _).enter _ _ rfl ?_ fun hx => by cases hx
    simpa [State.slot_ctx, Slot.noted] using h.latch_powered hp
  unfold State.selfUnload
  split
  case h_1 e => simpa only [e] using key (by rw [e]; rfl)
  case h_2 e => simpa only [e] using key (by rw [e]; rfl)
  case h_3 e => simpa only [e] using key (by rw [e]; rfl)
  case h_4 => exact h

/-- A change of marks is no change of what soundness looks at. -/
theorem State.Fit.modMarks (h : s.Fit full) (f : SlotContext → SlotContext)
    (hf : ∀ c, ∃ a b d e, f c = { c with lastFail := a, spinMark := b, emergency := d, retry := e }) :
    (s.modCtx i f).Fit full :=
  h.modCtx f fun c => by
    obtain ⟨a, b, d, e, hc⟩ := hf c
    rw [hc]
    exact ⟨rfl, rfl, rfl, rfl, rfl, rfl, rfl⟩

theorem State.Fit.spinFails (h : s.Fit full) (hp : (s.slot i).ctx.state.powered = true)
    (why : SpinFailure) : (s.spinFails i why).Fit full :=
  State.Fit.settle (State.Fit.react ((h.enter _ _ rfl (h.latch_powered hp) (fun e => by cases e)).modMarks _
    fun _ => ⟨_, _, _, _, rfl⟩) _ i)

theorem State.Fit.retrySpin (h : s.Fit full) (hst : (s.slot i).ctx.state = .idle) :
    (s.retrySpin i).Fit full := by
  unfold State.retrySpin
  simp only
  split
  · split
    · exact State.Fit.place (h.modMarks _ fun c => ⟨_, _, _, _, rfl⟩) (by simpa [State.slot_ctx, Kind.source] using hst) true
    · exact h.modMarks _ fun _ => ⟨_, _, _, _, rfl⟩
  · exact h.enterFault _

theorem State.Fit.stopped (h : s.Fit full) (hp : (s.slot i).ctx.state.powered = true) :
    (s.stopped i).Fit full := by
  have h1 := (h.enter false (s.slot i).ctx.spinMark (st := .idle) rfl (h.latch_powered hp)
    fun e => by cases e).active (i := i)
  unfold State.stopped
  simp only
  split
  · refine State.Fit.settle (State.Fit.react (State.Fit.retrySpin (h1.modMarks _ fun _ => ⟨_, _, _, _, rfl⟩)
      ?_) _ i)
    simp [State.slot_ctx]
  · exact State.Fit.settle (h1.react _ i)

theorem State.Fit.loadFails (h : s.Fit full) (hp : (s.slot i).ctx.state.powered = true) :
    (s.loadFails i).Fit full := by
  have h1 := h.enter false true (st := .spun) rfl (h.latch_powered hp) fun e => by cases e
  unfold State.loadFails
  simp only
  split
  · split
    · refine State.Fit.settle (State.Fit.react (State.Fit.place (h1.modMarks _ fun _ => ⟨_, _, _, _, rfl⟩)
        ?_ true) _ i)
      simp [State.slot_ctx, Kind.source]
    · exact State.Fit.settle ((h1.modMarks _ fun _ => ⟨_, _, _, _, rfl⟩).react _ i)
  · exact h.enterFault _

theorem State.Fit.stepEnds (h : s.Fit full) (hp : (s.slot i).ctx.state.powered = true) {st : SlotSt}
    (hst : st.powered = true) (hne : st ≠ .powering) : (s.stepEnds i st).Fit full :=
  State.Fit.settle (State.Fit.react (h.enter _ _ hst (h.latch_powered hp) (fun e => absurd e hne)).active _ i)

theorem State.Fit.unloadDone (h : s.Fit full) (hp : (s.slot i).ctx.state.powered = true) :
    (s.unloadDone i).Fit full := by
  have key {u : State} (hu : u.Fit full) (hpu : (u.slot i).ctx.state = (s.slot i).ctx.state) :
      (State.settle i (State.react (s.slot i) i ((u.enter i .spun false false).active i))).Fit full :=
    State.Fit.settle (State.Fit.react (hu.enter _ _ rfl (hu.latch_powered (by rw [hpu]; exact hp))
      (fun e => by cases e)).active _ i)
  unfold State.unloadDone
  simp only
  split
  · refine key (State.Fit.modMarks (h.submit _ _ _ _ _) _ fun _ => ⟨_, _, _, _, rfl⟩) ?_
    simp [State.slot_ctx, Slot.noted]
  · exact key h rfl

theorem State.Fit.foundTurning (h : s.Fit full) (hst : (s.slot i).ctx.state = .powering) :
    (s.foundTurning i).Fit full := by
  have hp : (s.slot i).ctx.state.powered = true := by rw [hst]; rfl
  unfold State.foundTurning
  refine State.Fit.settle (State.Fit.react ?_ _ i)
  split
  · exact ((h.enter true false (st := .stopping) rfl (h.latch_powered hp) fun e => by cases e).modMarks _
      fun _ => ⟨_, _, _, _, rfl⟩).active
  · exact (h.enterOff (h.flight_nil (by rw [hst]; decide)) (h.latch_powered hp)).active

/-! ## Replies -/

theorem State.Fit.replyToStep (h : s.Fit full) (hp : (s.slot i).ctx.state.powered = true) (op : ControlOp)
    (a : Answer) : (s.replyToStep i op a).Fit full := by
  unfold State.replyToStep
  split
  · exact h.spinFails hp _
  · exact h.stepEnds hp rfl (by decide)
  · exact h.loadFails hp
  · exact h.unloadDone hp
  · exact h.enterFault _
  · exact h

theorem State.Fit.cancelConfirmed (h : s.Fit full) : (s.cancelConfirmed i).Fit full := by
  have hx := h.slots i
  have o : s.OnlyAt i (s.modSlot i (fun x =>
      { x with fence := false, port := { x.port with cancelPending := false, cancelMiss := 0 } })) :=
    State.OnlyAt.rfl.modSlot _ fun _ => rfl
  have hw := State.work_modSlot s i (fun x =>
      { x with fence := false, port := { x.port with cancelPending := false, cancelMiss := 0 } })
      fun _ => rfl
  unfold State.cancelConfirmed
  refine State.Fit.settle (h.change o rfl (by rw [hw]) (by rw [hw]) ?_)
  rw [hw]
  obtain ⟨h1, h2, h3, h4, h5, h6⟩ := hx.controlled
  refine ⟨⟨h1, h2, h3, rfl, fun e => Bool.noConfusion e, Nat.zero_le _⟩, ⟨fun hn => ?_, hx.quiet.2⟩, hx.latch,
    fun hf => ⟨(hx.emptied hf).1, (hx.emptied hf).2.1, Nat.zero_lt_succ _⟩, hx.mapped⟩
  obtain ⟨hc, hport⟩ := hx.quiet.1 hn
  refine ⟨hc, ?_⟩
  change { (s.work i).port with cancelPending := false, cancelMiss := 0 } = Port.reset
  rw [hport]
  rfl

theorem State.Fit.takeControlReply (h : s.Fit full) (a b : Byte) : (s.takeControlReply i a b).Fit full := by
  unfold State.takeControlReply
  split
  · exact h
  · next hp =>
    have hp : (s.slot i).ctx.state.powered = true := by simpa using hp
    split
    · exact h
    · split
      · exact h.cancelConfirmed
      · exact h
    · exact h
    · exact h.replyToStep hp _ _
    · exact h

theorem State.Fit.replyByState (h : s.Fit full) (r : Byte) : (s.replyByState i r).Fit full := by
  unfold State.replyByState
  split
  case h_1 e =>
    split
    · exact h.stepEnds (by rw [e]; rfl) rfl (by decide)
    · exact h.foundTurning e
  case h_2 e =>
    split
    · exact h.stepEnds (by rw [e]; rfl) rfl (by decide)
    · exact h
  case h_3 e =>
    split
    · exact h.stopped (by rw [e]; rfl)
    · exact h
  case h_4 e =>
    split
    · exact h.selfUnload.settle
    · exact h
  case h_5 => exact h

/-- An answered QUERY clears the count of missed ones (R9). -/
theorem State.Fit.answered (h : s.Fit full) :
    (s.modCtx i (fun c => { c with queryPending := false, missed := 0 })).Fit full := by
  have hx := h.slots i
  refine h.change (State.OnlyAt.rfl.modCtx _) rfl ?_ ?_ ?_ <;> rw [State.work_modCtx]
  exact ⟨hx.controlled, hx.quiet, hx.latch, fun hf => ⟨(hx.emptied hf).1, by simp, (hx.emptied hf).2.2⟩,
    hx.mapped⟩

theorem State.Fit.takeStateReply (h : s.Fit full) (r : Byte) : (s.takeStateReply i r).Fit full := by
  have h1 := h.answered (i := i)
  unfold State.takeStateReply
  split
  · exact h
  · next hp =>
    simp only
    split
    · exact h1.replyByState r
    · split
      · refine h1.spinFails ?_ _
        simpa [State.slot_ctx] using hp
      · exact h1.enterFault _
    · exact h1.enterFault _

theorem State.Fit.takeSelfUnload (h : s.Fit full) : (s.takeSelfUnload i).Fit full := by
  unfold State.takeSelfUnload
  split
  case h_4 => exact h
  all_goals exact h.selfUnload.settle

theorem State.Fit.takeFaultAlert (h : s.Fit full) : (s.takeFaultAlert i).Fit full := by
  unfold State.takeFaultAlert
  split
  · exact h.enterFault _
  · exact h

/-! ## Completions and data -/

/-- A slot with a command in flight stands at IDLE or above (R94). -/
theorem State.Fit.rank_of_flight? (h : s.Fit full) {g : Tag} {f : InFlight}
    (hf : (s.slot i).pass.flight? g = some f) : 2 ≤ (s.slot i).ctx.state.rank := by
  by_contra hr
  have hw := h.flight_nil (i := i) (by omega)
  simp [Passage.flight?, hw] at hf

theorem Passage.dropFlight_nil {a : Passage} (g : Tag) (h : a.flight = []) :
    (a.dropFlight g).flight = [] := by simp [Passage.dropFlight, h]

theorem State.Fit.removeFlight (h : s.Fit full) (hp : (s.slot i).ctx.state.powered = true) (g : Tag) :
    (s.removeFlight i g).Fit full := by
  refine State.Fit.modPort (h.lessWork (fun p => p.dropFlight g) fun _ => ⟨id, Passage.dropFlight_nil g, id⟩) _ ?_
    fun _ => ⟨rfl, rfl, rfl⟩
  simpa [State.slot_ctx] using hp

/-- A command that returns joins the hold queue of a slot at IDLE or above (R115). -/
theorem State.Fit.requeue (h : s.Fit full) (hr : 2 ≤ (s.slot i).ctx.state.rank) (f : InFlight) :
    (s.requeue i f).Fit full := by
  obtain ⟨hp, he, hfault⟩ := SlotSt.of_two_le_rank hr
  have h1 := h.removeFlight hp f.cmd.args.tag
  have hst : ((s.removeFlight i f.cmd.args.tag).work i).ctx.state = (s.slot i).ctx.state := by simp [Slot.withPass, State.slot_ctx]
  unfold State.requeue
  refine h1.change ((State.OnlyAt.rfl.modPass _).touchIdle) rfl ?_ ?_ ?_ <;>
    rw [State.work_touchIdle, State.work_modPass]
  · rfl
  · rfl
  · refine (h1.slots i).of_eq rfl rfl rfl rfl rfl rfl rfl rfl rfl (Slot.touchIdle_idleOk _ _ _)
      (fun _ hw => hw) fun _ hx => ?_
    rw [hst] at hx
    exact absurd hx (by rintro (e | e); exacts [he e, hfault e])

theorem State.Fit.countRequeue (h : s.Fit full) : (s.modSlot i Slot.countRequeue).Fit full := by
  have hw := State.work_modSlot s i Slot.countRequeue fun x => by
    unfold Slot.countRequeue
    split <;> rfl
  have hc : ∀ x : Slot, ∃ n, x.countRequeue = { x with requeues := n } := fun x => by
    unfold Slot.countRequeue
    split <;> exact ⟨_, rfl⟩
  obtain ⟨n, hn⟩ := hc (s.work i)
  have hu : ∀ x : Slot, x.countRequeue.upstream = x.upstream := fun x => by
    unfold Slot.countRequeue
    split <;> rfl
  refine h.change (State.OnlyAt.rfl.modSlot _ hu) rfl ?_ ?_ ?_ <;> rw [hw, hn]
  exact (h.slots i).of_eq rfl rfl rfl rfl rfl rfl rfl rfl rfl (h.slots i).idleOk (fun _ e => e)
    (fun _ _ e => e)

theorem State.Fit.sweepEntry (h : s.Fit full) (e : HoldEntry) : (s.sweepEntry i e).Fit full :=
  (h.dropHeld _).completeSensed _ _ _

theorem State.Fit.sweepRequeued (h : s.Fit full) (e : HoldEntry) : (s.sweepRequeued i e).Fit full := by
  unfold State.sweepRequeued
  split
  · exact h.sweepEntry e
  · exact h

theorem State.Fit.reportNotLoaded (h : s.Fit full) (r : DriveReport) :
    (s.reportNotLoaded i r).Fit full := by
  unfold State.reportNotLoaded
  split
  · exact h.selfUnload
  · exact h

theorem State.Fit.unloadAborted (h : s.Fit full) (hr : 2 ≤ (s.slot i).ctx.state.rank) (r : DriveReport)
    (f : InFlight) : (s.unloadAborted i r f).Fit full := by
  have hp := (SlotSt.of_two_le_rank hr).1
  unfold State.unloadAborted
  simp only
  refine State.Fit.settle (State.Fit.reportNotLoaded ?_ r)
  split
  · exact (h.removeFlight hp r.tag).completeSensed _ _ _
  · split
    · exact ((h.requeue hr f).countRequeue).sweepRequeued _
    · exact (h.removeFlight hp r.tag).completeSensed _ _ _

theorem State.Fit.takeCompletion (h : s.Fit full) (r : DriveReport) : (s.takeCompletion i r).Fit full := by
  unfold State.takeCompletion
  split
  · exact h
  · split
    · unfold State.takeAbortAnswer
      split
      · exact (h.lessWork (fun p => { p with aborts := p.aborts.filter (fun c => c.args.tag != r.tag) })
          fun _ => ⟨id, id, fun e => by simp [e]⟩).passUp r
      · exact h
    · split
      · exact h
      · next f hf =>
        have hr := h.rank_of_flight? hf
        split
        · exact h.unloadAborted hr r f
        · exact ((h.removeFlight (SlotSt.of_two_le_rank hr).1 r.tag).passUp r).settle

theorem State.Fit.takeDriveData (h : s.Fit full) (d : DataBody) : (s.takeDriveData i d).Fit full := by
  unfold State.takeDriveData
  split
  · exact h.handUp _
  · exact h

/-- A change of the records in flight, one by one. -/
theorem State.Fit.modFlight (h : s.Fit full) (f : InFlight → InFlight) :
    (s.modPass i (fun p => { p with flight := p.flight.map f })).Fit full :=
  h.lessWork (fun p => { p with flight := p.flight.map f }) fun _ => ⟨id, fun e => by simp [e], id⟩

theorem State.Fit.takeDataRequest (h : s.Fit full) (r : RequestBody) :
    (s.takeDataRequest i r).Fit full := by
  unfold State.takeDataRequest
  split
  · exact (h.modFlight _).handUp _
  · exact h

theorem State.Fit.takeCtrlData (h : s.Fit full) (slot : SlotField) (d : DataBody) :
    (s.takeCtrlData slot d).Fit full := by
  unfold State.takeCtrlData
  split
  · exact h
  · next j hj =>
    split
    · exact h
    · next f hf =>
      split
      · refine State.Fit.modPort (h.modFlight _) _ ?_ fun _ => ⟨by simp, by simp, by simp⟩
        simpa [State.slot_ctx] using (SlotSt.of_two_le_rank (h.rank_of_flight? hf)).1
      · exact h

/-! ## Arrivals -/

/-- Every operation that needs a level needs IDLE at least (R94). -/
theorem Op.two_le_need_rank {op : Op} {l : Level} (h : op.need = some l) : 2 ≤ l.rank := by
  cases op <;> cases h <;> decide

/-- A command that passed check 3 is refused, forwarded or held; where `full` holds, its slot is in neither EMPTY
nor FAULT (R103 to R105). -/
theorem State.Fit.admitCommand (h : s.Fit full) (c : Cmd)
    (hst : full → (s.slot i).ctx.state ≠ .empty ∧ (s.slot i).ctx.state ≠ .fault) :
    (s.admitCommand i c).Fit full := by
  unfold State.admitCommand
  split
  · exact h.completeSensed _ _ _
  · split
    · exact h.completeSensed _ _ _
    · refine State.Fit.settle ?_
      refine iteInduction (motive := State.Fit full) (fun hf => ?_) (fun _ => h.hold c hst)
      · refine h.forwardNew ?_ c
        simp only [Bool.and_eq_true] at hf
        obtain ⟨⟨⟨hspindle, -⟩, -⟩, hneed⟩ := hf
        split at hneed
        · cases hneed
        · next l hl =>
          refine SlotSt.two_le_rank_of_holds hneed ?_
          exact Op.two_le_need_rank hl

/-- An acknowledged FAULT left for OFF, or on for EMPTY where the profile disables the slot (R5, R26). -/
theorem State.Fit.leaveFault (h : s.Fit full) (hst : (s.slot i).ctx.state = .fault)
    (hl : (s.slot i).ctx.latch = false) : (s.leaveFault i).Fit full :=
  State.Fit.active (State.Fit.modCtx (h.enterOff (h.flight_nil (by rw [hst]; decide)) hl) _
    fun _ => ⟨rfl, rfl, rfl, rfl, rfl, rfl, rfl⟩)

theorem State.leaveFault_state {s : State} {i : SlotId} (hen : (s.profile.slots[i]).enabled = true) :
    ((s.leaveFault i).slot i).ctx.state = .off := by
  rw [State.slot_ctx]
  unfold State.leaveFault
  rw [State.work_active, State.work_modCtx, State.work_enterOff_enabled hen]
  rfl

theorem State.Fit.atFault (h : s.Fit full) (hst : (s.slot i).ctx.state = .fault) (c : Cmd) :
    (s.atFault i c).Fit full := by
  have hadmit (hl : (s.slot i).ctx.latch = false) : ((s.leaveFault i).admitCommand i c).Fit full := by
    refine (h.leaveFault hst hl).admitCommand c fun hf => ?_
    obtain ⟨hmap, hen⟩ := (h.slots i).mapped hf
    have hmap := hmap (.inr (.inr hst))
    have hen := hen (.inr hst)
    rw [hmap] at hen
    rw [State.leaveFault_state hen]
    exact ⟨by decide, by decide⟩
  unfold State.atFault
  split
  · next hack =>
    have hl : (s.slot i).ctx.latch = false := by simp at hack; exact hack.2
    split
    · exact hadmit hl
    · exact hadmit hl
    · exact (h.leaveFault hst hl).complete _ _
    · exact h.completeSensed _ _ _
  · exact h.completeSensed _ _ _

theorem State.Fit.arriveChecked (h : s.Fit full) (c : Cmd) : (s.arriveChecked i c).Fit full := by
  unfold State.arriveChecked
  split
  · exact h.completeSensed _ _ _
  · next hst =>
    split
    · exact h.atFault hst c
    · exact h.completeSensed _ _ _
  · next h1 h2 => exact h.admitCommand c fun _ => ⟨h1, h2⟩

theorem State.Fit.answerSense (h : s.Fit full) (c : Cmd) (r : SenseRecord) :
    (s.answerSense i c r).Fit full := by
  have h1 := (h.handUp (i := i) (.data (fieldOfSlot i) (senseData c.args.tag r.bytes))).complete (i := i) c codeOk
  have hw := State.work_modSlot
    ((s.handUp i (.data (fieldOfSlot i) (senseData c.args.tag r.bytes))).complete i c codeOk) i
    (fun x =>
      { x with
        record := none, notice := false
        ctx := { x.ctx with faultAck := x.ctx.faultAck || x.ctx.state == .fault } }) fun _ => rfl
  unfold State.answerSense
  refine h1.change (State.OnlyAt.rfl.modSlot _ fun _ => rfl) rfl ?_ ?_ ?_ <;> rw [hw]
  exact (h1.slots i).of_eq rfl rfl rfl rfl rfl rfl rfl rfl rfl (h1.slots i).idleOk (fun _ e => e)
    (fun _ _ e => e)

theorem State.Fit.abortInFlight (h : s.Fit full) (hr : 2 ≤ (s.slot i).ctx.state.rank) (c : Cmd) :
    (s.abortInFlight i c).Fit full := by
  obtain ⟨hp, he, hfault⟩ := SlotSt.of_two_le_rank hr
  refine h.change (State.OnlyAt.rfl.abortInFlight c) rfl ?_ ?_ ?_ <;>
    simp only [State.abortInFlight, State.work_active, State.work_modPort, State.work_modPass]
  · rfl
  · rfl
  · have h1 := (h.slots i).modPort hp (q := (s.work i).port.handCommand c) ⟨by simp, by simp, by simp⟩
    refine h1.of_eq rfl rfl rfl rfl rfl rfl rfl rfl rfl (Slot.act_idleOk _ _ _) (fun hle => ?_) fun _ hx => ?_
    · exact absurd hle (by change ¬ (s.slot i).ctx.state.rank ≤ 1; omega)
    · exact absurd hx (by rintro (e | e); exacts [he e, hfault e])

theorem State.Fit.arriveAbort (h : s.Fit full) (c : Cmd) : (s.arriveAbort i c).Fit full := by
  unfold State.arriveAbort
  split
  · exact (((h.dropHeld _).completeSensed _ _ _).complete _ _).settle
  · split
    · exact h.completeSensed _ _ _
    · split
      · next hf => exact h.abortInFlight (h.rank_of_flight? hf) c
      · exact h.complete _ _

theorem State.Fit.takeCommand (h : s.Fit full) (c : Cmd) : (s.takeCommand c).Fit full := by
  unfold State.takeCommand
  split
  · next i hi =>
    unfold State.arriveCommand
    split
    · exact h.complete _ _
    · exact h.arriveAbort c
    · unfold State.arriveSense
      split
      · exact h.answerSense c _
      · split
        · exact h.arriveChecked c
        · exact (h.handUp _).complete _ _
    · exact h.arriveChecked c
  · exact h.of_same (fun j => Slot.sameWork_iff.mp (State.pickUpstream_slot _ j)) (by simp [State.badSlot])
      ((State.Keeps.rfl s).badSlot c).profile

end fit

end Sys2Proof.Machine
end

section
/-! PROOFS. Park control, the lines, the loader and the links keep soundness. -/

namespace Sys2Proof.Machine

section fit

variable {full : Prop} {i : SlotId} {s : State}

/-- What every round of a fold keeps sound, the fold keeps sound. -/
theorem State.Fit.foldl (f : State → SlotId → State)
    (hf : ∀ (u : State) (i : SlotId), u.Fit full → (f u i).Fit full) (l : List SlotId) (h : s.Fit full) :
    (l.foldl f s).Fit full := by
  induction l generalizing s with
  | nil => exact h
  | cons i rest ih => exact ih (hf s i h)

/-! ## Park control -/

theorem State.Fit.markEmergency (h : s.Fit full) : (s.modSlot i Slot.markEmergency).Fit full := by
  have hw := State.work_modSlot s i Slot.markEmergency fun _ => rfl
  refine h.change (State.OnlyAt.rfl.modSlot _ fun _ => rfl) rfl ?_ ?_ ?_ <;> rw [hw]
  · rfl
  · rfl
  · exact (h.slots i).of_eq rfl rfl rfl rfl rfl rfl rfl rfl rfl (h.slots i).idleOk (fun _ e => e)
      (fun _ _ e => e)

theorem State.Fit.unloadOrder (h : s.Fit full) (e : Bool) (i : SlotId) :
    (State.unloadOrder e s i).Fit full := by
  unfold State.unloadOrder
  split
  · next hd =>
    have h1 : (s.lower i).Fit full := by
      refine h.lower fun hi => ?_
      simp [State.headsDown, hi] at hd
    refine State.Fit.settle ?_
    split
    · exact h1.markEmergency
    · exact h1
  · exact h

theorem State.Fit.unloadAll (h : s.Fit full) (e : Bool) : (s.unloadAll e).Fit full :=
  State.Fit.foldl _ (fun _ i hu => hu.unloadOrder e i) _ h

theorem State.Fit.sweepAll (h : s.Fit full) (l : List HoldEntry) : (State.sweepAll i l s).Fit full := by
  induction l generalizing s with
  | nil => exact h
  | cons e rest ih => exact ih (h.sweepEntry e)

theorem State.Fit.sweepSlot (h : s.Fit full) (i : SlotId) : (s.sweepSlot i).Fit full := by
  unfold State.sweepSlot
  split
  · exact h
  · exact (h.sweepAll _).reportAndServe.settleEnd

theorem State.Fit.sweep (h : s.Fit full) : s.sweep.Fit full :=
  State.Fit.foldl _ (fun _ i hu => hu.sweepSlot i) allSlots h

theorem State.Fit.testSlot (h : s.Fit full) (i : SlotId) : (s.testSlot i).Fit full := by
  unfold State.testSlot
  split
  · next hp =>
    simp only [Bool.and_eq_true] at hp
    exact (h.lower (State.abovePark_idle hp.2)).settle
  · exact h

theorem State.Fit.testAll (h : s.Fit full) : s.testAll.Fit full :=
  State.Fit.foldl _ (fun _ i hu => hu.testSlot i) allSlots h

theorem State.Fit.parkProfile (h : s.Fit full) : s.parkProfile.Fit full := by
  unfold State.parkProfile
  split
  · exact h.sweep.testAll
  · exact h

/-! A change of the other blocks, of the lines or of the time. -/

theorem State.Fit.setPark (h : s.Fit full) (p : Park) : State.Fit full { s with park := p } :=
  h.of_same (fun _ => rfl) rfl rfl
theorem State.Fit.setMonitor (h : s.Fit full) (m : Motion) : State.Fit full { s with motion := m } :=
  h.of_same (fun _ => rfl) rfl rfl
theorem State.Fit.setCtrl (h : s.Fit full) (c : CtrlPort) : State.Fit full { s with ctrl := c } :=
  h.of_same (fun _ => rfl) rfl rfl
theorem State.Fit.setDock (h : s.Fit full) (dock : Bool) (d : Option Nat) :
    State.Fit full { s with admission := { s.admission with dockDebounce := d, dock := dock } } :=
  h.of_same (fun _ => rfl) rfl rfl
theorem State.Fit.setDockLine (h : s.Fit full) (l : Bool) : State.Fit full { s with dockLine := l } :=
  h.of_same (fun _ => rfl) rfl rfl
theorem State.Fit.setHandleLine (h : s.Fit full) (l : Bool) : State.Fit full { s with handleLine := l } :=
  h.of_same (fun _ => rfl) rfl rfl
theorem State.Fit.setPending (h : s.Fit full) (l : List Instr) : State.Fit full { s with pending := l } :=
  h.of_same (fun _ => rfl) rfl rfl
theorem State.Fit.setNow (h : s.Fit full) (n : Nat) : State.Fit full { s with now := n } :=
  h.of_same (fun _ => rfl) rfl rfl
theorem State.Fit.reach (h : s.Fit full) (t : Nat) : (s.reach t).Fit full := h.setNow _
theorem State.Fit.raiseMotion (h : s.Fit full) : s.raiseMotion.Fit full := h.setCtrl _
theorem State.Fit.raiseProfile (h : s.Fit full) : s.raiseProfile.Fit full := h.setCtrl _
theorem State.Fit.setCtrlWaiting (h : s.Fit full) (q : List CtrlFrame) :
    (s.setCtrlWaiting q).Fit full := h.setCtrl _
theorem State.Fit.modLoader (h : s.Fit full) (f : Loader → Loader)
    (hf : (f s.loader).profile = s.loader.profile) : (s.modLoader f).Fit full :=
  h.of_same (fun _ => rfl) rfl hf

theorem State.Fit.motionChanged (h : s.Fit full) (m : MotionSt) : (State.motionChanged m s).Fit full := by
  have h1 : (if (permitRow s.profile s.motion.state).unloadOnEntry
      then s.unloadAll (s.motion.state == .jolt) else s).Fit full := by
    split
    · exact h.unloadAll _
    · exact h
  unfold State.motionChanged
  simp only
  split
  · exact h1.scan.raiseMotion
  · exact h1.scan

theorem State.Fit.setMotion (h : s.Fit full) (m : Motion) : (s.setMotion m).Fit full := by
  unfold State.setMotion
  split
  · exact h.setMonitor m
  · exact State.Fit.motionChanged (h.setMonitor m) _

theorem State.Fit.recognizeHandle (h : s.Fit full) : s.recognizeHandle.Fit full := by
  unfold State.recognizeHandle
  split
  · unfold State.handleAsserted
    exact State.Fit.scan (State.Fit.setPark (State.Fit.sweep (State.Fit.unloadAll (h.setPark _) false)) _)
  · exact State.Fit.scan (h.setPark _)

/-! ## The loader -/

theorem State.Fit.selectBudgets (h : s.Fit full) : s.selectBudgets.Fit full :=
  State.Fit.scan (State.Fit.shed (State.Fit.shed ((h.modBank 0 _).modBank 1 _) 0) 1)

/-- A slot that is offered the profile stands under it; the slots offered before it stand so too (R5). -/
theorem State.Loose.offerMap (h : s.Loose full) (i : SlotId) :
    (s.offerMap i).Loose full ∧ ((s.offerMap i).work i).Fit full (s.profile.slots[i])
      ∧ s.OnlyAt i (s.offerMap i) := by
  have taken : (s.takeMap i).Loose full ∧ ((s.takeMap i).work i).Fit full (s.profile.slots[i])
      ∧ s.OnlyAt i (s.takeMap i) := ⟨h.takeMap_loose, h.takeMap.1, State.OnlyAt.rfl.takeMap⟩
  unfold State.offerMap
  split
  case h_4 h1 h2 h3 =>
    obtain ⟨m, hm⟩ := h.slots i
    refine ⟨h, hm.of_powered ?_, State.OnlyAt.rfl⟩
    change (s.slot i).ctx.state.powered = true
    cases hst : (s.slot i).ctx.state <;> simp_all [SlotSt.powered]
  all_goals exact taken

theorem State.Loose.offerMaps (l : List SlotId) (h : s.Loose full) :
    (l.foldl State.offerMap s).Loose full
      ∧ (∀ i ∈ l, ((l.foldl State.offerMap s).work i).Fit full (s.profile.slots[i]))
      ∧ (∀ i, (s.work i).Fit full (s.profile.slots[i]) →
          ((l.foldl State.offerMap s).work i).Fit full (s.profile.slots[i]))
      ∧ (l.foldl State.offerMap s).profile = s.profile := by
  induction l generalizing s with
  | nil => exact ⟨h, by simp, fun _ hx => hx, rfl⟩
  | cons j rest ih =>
    obtain ⟨hloose, hj, o⟩ := h.offerMap j
    obtain ⟨h1, h2, h3, h4⟩ := ih hloose
    rw [o.profile] at h2 h3 h4
    refine ⟨h1, fun i hi => ?_, fun i hx => h3 i ?_, h4⟩
    · cases hi with
      | head => exact h3 j hj
      | tail _ hi => exact h2 i hi
    · by_cases hij : i = j
      · subst hij; exact hj
      · rw [o.others i hij]; exact hx

theorem Loader.ended_profile (l : Loader) : l.ended.profile = l.profile := rfl

/-- Whatever profile has come into force, its taking effect leaves the part sound under it (R169). -/
theorem State.Loose.takeEffect (h : s.Loose full) : s.takeEffect.Fit full := by
  have hfit : (allSlots.foldl State.offerMap s).Fit full := by
    obtain ⟨h1, h2, -, h4⟩ := h.offerMaps allSlots
    refine ⟨fun i => ?_, h1.queue⟩
    rw [h4]
    exact h2 i (mem_allSlots i)
  exact State.Fit.selectBudgets (State.Fit.modLoader (State.Fit.parkProfile hfit) Loader.ended
    (Loader.ended_profile _))

theorem State.Loose.modLoader (h : s.Loose full) (f : Loader → Loader) :
    (s.modLoader f).Loose full := ⟨h.slots, h.queue⟩

theorem State.Fit.startAgain (h : s.Fit full) : s.startAgain.Fit full := by
  unfold State.startAgain
  split
  · exact h.modLoader _ rfl
  · exact h

theorem State.Fit.readPassed (h : s.Fit full) (p : Profile) : (s.readPassed p).Fit full := by
  have h1 : (s.installProfile p).takeEffect.Fit full := (h.loose.modLoader _).takeEffect
  unfold State.readPassed
  split
  · exact h
  · exact h1.startAgain
  · exact h1.raiseProfile.startAgain

theorem State.Fit.readFailed (h : s.Fit full) : s.readFailed.Fit full := by
  unfold State.readFailed
  split
  · exact h
  · exact (State.Loose.takeEffect (h.loose.modLoader _)).raiseProfile.startAgain
  · exact (h.modLoader _ rfl).raiseProfile.startAgain

theorem State.Fit.takeImage (h : s.Fit full) (image : List Byte) : (s.takeImage image).Fit full := by
  unfold State.takeImage
  split
  · exact h
  · split
    · exact h.readPassed _
    · exact h.readFailed

theorem State.Fit.readTimesOut (h : s.Fit full) : s.readTimesOut.Fit full := by
  unfold State.readTimesOut
  split
  · exact h
  · exact (h.reach _).readFailed

/-! ## The lines -/

theorem State.Fit.setPresent (h : s.Fit full) (level : Bool) : (s.setPresent i level).Fit full := by
  have hw := State.work_modSlot s i (fun x => { x with presentLine := level }) fun _ => rfl
  unfold State.setPresent
  refine h.change (State.OnlyAt.rfl.modSlot _ fun _ => rfl) rfl ?_ ?_ ?_ <;> rw [hw]
  exact (h.slots i).of_eq rfl rfl rfl rfl rfl rfl rfl rfl rfl (h.slots i).idleOk (fun _ e => e)
    (fun _ _ e => e)

theorem State.Fit.setPowerFault (h : s.Fit full) (level : Bool) : (s.setPowerFault i level).Fit full := by
  have hw := State.work_modSlot s i (fun x => { x with powerFaultLine := level }) fun _ => rfl
  unfold State.setPowerFault
  refine h.change (State.OnlyAt.rfl.modSlot _ fun _ => rfl) rfl ?_ ?_ ?_ <;> rw [hw]
  exact (h.slots i).of_eq rfl rfl rfl rfl rfl rfl rfl rfl rfl (h.slots i).idleOk (fun _ e => e)
    (fun _ _ e => e)

theorem State.Fit.modDebounce (h : s.Fit full) (d : Option Nat) :
    (s.modCtx i (fun c => { c with presentDebounce := d })).Fit full :=
  h.modCtx _ fun _ => ⟨rfl, rfl, rfl, rfl, rfl, rfl, rfl⟩

theorem State.Fit.seated (h : s.Fit full) : (s.seated i).Fit full := by
  unfold State.seated
  split
  · exact h.modDebounce _
  · exact h

theorem State.Fit.unseated (h : s.Fit full) : (s.unseated i).Fit full := by
  unfold State.unseated
  split
  · exact h.modDebounce _
  · exact h.enterRemoved

/-- A slot at the end of its debounce, its time reached and its slot map entry taken (R24). -/
def State.debounced (s : State) (i : SlotId) (t : Nat) : State :=
  ((s.reach (t + Config.presentDebounceMs)).modCtx i (fun c => { c with presentDebounce := none })).takeMap i

theorem State.Fit.debounced (h : s.Fit full) (t : Nat) : (s.debounced i t).Fit full :=
  State.Fit.takeMap (State.Fit.modDebounce (h.reach _) none)

/-- The debounce leaves an EMPTY slot EMPTY, under the profile's slot map entry (R24). -/
theorem State.work_debounced {t : Nat} (hst : (s.slot i).ctx.state = .empty) : ∃ d,
    (s.debounced i t).work i = (s.work i).mapped (s.profile.slots[i]) d := by
  let u := (s.reach (t + Config.presentDebounceMs)).modCtx i (fun c => { c with presentDebounce := none })
  have hu : u.work i = { s.work i with ctx := { (s.work i).ctx with presentDebounce := none } } := by
    simp [u]
  have hst' : (u.slot i).ctx.state = .empty := by rw [State.slot_ctx, hu]; exact hst
  unfold State.debounced
  by_cases hen : (u.profile.slots[i]).enabled = true
  · exact ⟨_, (State.work_takeMap_enabled hen).trans (by rw [hu]; rfl)⟩
  · exact ⟨none, (State.work_takeMap_empty (by simpa using hen) hst').trans (by rw [hu]; rfl)⟩

theorem State.Fit.seatingDone (h : s.Fit full) : (s.seatingDone i).Fit full := by
  unfold State.seatingDone
  split
  · next t hst ht =>
    have h1 := h.debounced (i := i) t
    obtain ⟨d, hw⟩ := State.work_debounced (t := t) hst
    change (if !((s.debounced i t).slot i).ctx.map.enabled then s.debounced i t
      else if ((s.debounced i t).slot i).ctx.latch then (s.debounced i t).enterFault i .powerTrip
      else (s.debounced i t).enterOff i).Fit full
    split
    · exact h1
    · split
      · exact h1.enterFault _
      · next hl =>
        refine h1.enterOff (h1.flight_nil ?_) (by simpa using hl)
        rw [State.slot_ctx, hw]
        change (s.slot i).ctx.state.rank ≤ 1
        rw [hst]
        decide
  · exact h

/-- A latch may be set in FAULT and EMPTY, and cleared in every state (R21). -/
theorem State.Fit.setLatch (h : s.Fit full) (l : Bool)
    (hl : l = true → (s.slot i).ctx.state = .fault ∨ (s.slot i).ctx.state = .empty) :
    (s.modCtx i (fun c => { c with latch := l })).Fit full := by
  have hx := h.slots i
  refine h.change (State.OnlyAt.rfl.modCtx _) rfl ?_ ?_ ?_ <;> rw [State.work_modCtx]
  exact ⟨hx.controlled, hx.quiet, hl, hx.emptied, hx.mapped⟩

theorem State.Fit.tripped (h : s.Fit full) : (s.tripped i).Fit full := by
  unfold State.tripped
  simp only
  split
  · next e => exact h.setLatch true fun _ => .inr e
  · next e => exact (h.setLatch true fun _ => .inl e).submit _ _ _ _ _
  · exact ((h.fitBut i).of_onlyAt (State.OnlyAt.rfl.modCtx _)).enterFault _

theorem State.Fit.untripped (h : s.Fit full) : (s.untripped i).Fit full := by
  unfold State.untripped
  split
  · exact h.setLatch false fun e => Bool.noConfusion e
  · exact h

theorem State.Fit.dockSettles (h : s.Fit full) : s.dockSettles.Fit full := by
  unfold State.dockSettles
  split
  · exact h
  · exact State.Fit.selectBudgets ((h.reach _).setDock _ _)

theorem State.Fit.handleSettles (h : s.Fit full) : s.handleSettles.Fit full := by
  unfold State.handleSettles
  split
  · exact h
  · exact State.Fit.recognizeHandle ((h.reach _).setPark _)

/-! ## The timers -/

theorem State.Fit.atDeadline (h : s.Fit full) (st : SlotSt) (act : State → State)
    (hact : ∀ u : State, u.Fit full → (u.slot i).ctx.state = st → (act u).Fit full) :
    (State.atDeadline i st act s).Fit full := by
  unfold State.atDeadline
  split
  · next hst =>
    split
    · exact h
    · exact hact _ (h.reach _) hst
  · exact h

theorem State.work_countMisses (s : State) (i : SlotId) :
    (s.modSlot i Slot.countMisses).work i = (s.work i).countMisses := by
  refine State.work_modSlot s i Slot.countMisses fun x => ?_
  unfold Slot.countMisses
  split <;> rfl

theorem Slot.countMisses_upstream (x : Slot) : x.countMisses.upstream = x.upstream := by
  unfold Slot.countMisses
  split <;> rfl

/-- A slot that is not lost at an expiry of its QUERY schedule stays sound under the risen counts (R9, R139). -/
theorem Slot.Fit.countMisses {m : SlotMap} {x : Slot} (h : x.Fit full m) (hl : x.countMisses.linkLost = false)
    (hp : x.ctx.state.powered = true) : x.countMisses.Fit full m := by
  unfold Slot.countMisses at hl ⊢
  split
  · exact h
  · next hst =>
    simp only [hst, if_false] at hl
    obtain ⟨h1, h2, h3, h4, h5, h6⟩ := h.controlled
    have hmiss : x.ctx.queryPending = true → x.ctx.missed + 1 < 3 := fun e => by
      simp [Slot.linkLost, hst, e, Config.missLimit] at hl
      omega
    have hcancel : x.port.cancelPending = true → x.port.cancelMiss + 1 < 3 := fun e => by
      simp [Slot.linkLost, hst, e, Config.missLimit] at hl
      omega
    refine ⟨⟨h1, h2, h3, h4, h5, ?_⟩, ⟨fun hn => ?_, h.quiet.2⟩, h.latch, fun hf => ?_, h.mapped⟩
    · change (if x.port.cancelPending then x.port.cancelMiss + 1 else x.port.cancelMiss) ≤ 3
      split
      · next e => exact (hcancel e).le
      · exact h6
    · have hn : x.ctx.state.powered = false := hn
      rw [hp] at hn
      cases hn
    · obtain ⟨e1, e2, e3⟩ := h.emptied hf
      refine ⟨e1, ?_, ?_⟩
      · change (if x.ctx.queryPending then x.ctx.missed + 1 else x.ctx.missed) < 3
        split
        · next e => exact hmiss e
        · exact e2
      · change (if x.port.cancelPending then x.port.cancelMiss + 1 else x.port.cancelMiss) < 3
        split
        · next e => exact hcancel e
        · exact e3

theorem Slot.countMisses_state (x : Slot) : x.countMisses.ctx.state = x.ctx.state := by
  unfold Slot.countMisses
  split <;> rfl

theorem Slot.countMisses_map (x : Slot) : x.countMisses.ctx.map = x.ctx.map := by
  unfold Slot.countMisses
  split <;> rfl

/-- A powered slot hands over a QUERY and restarts its schedule (R9, R136). -/
theorem State.Fit.query (h : s.Fit full) (hp : (s.slot i).ctx.state.powered = true) (now interval : Nat) :
    (s.modSlot i (Slot.query now interval)).Fit full := by
  have hw := State.work_modSlot s i (Slot.query now interval) fun _ => rfl
  have hx := h.slots i
  obtain ⟨h1, h2, -, h4, h5, h6⟩ := hx.controlled
  refine h.change (State.OnlyAt.rfl.modSlot _ fun _ => rfl) rfl ?_ ?_ ?_ <;> rw [hw]
  · rfl
  · rfl
  · refine ⟨⟨h1, h2, ?_, ?_, ?_, ?_⟩, ⟨fun hn => ?_, hx.quiet.2⟩, hx.latch,
      fun hf => ⟨(hx.emptied hf).1, (hx.emptied hf).2.1, ?_⟩, hx.mapped⟩
    · exact hp.symm
    · simpa [Slot.query] using h4
    · simpa [Slot.query] using h5
    · simpa [Slot.query] using h6
    · exact absurd (hp.symm.trans hn) (by simp)
    · simpa [Slot.query] using (hx.emptied hf).2.2

theorem State.Fit.queryExpires (h : s.Fit full) : (s.queryExpires i).Fit full := by
  unfold State.queryExpires
  split
  · exact h
  · next q hq =>
    have hp : (s.slot i).ctx.state.powered = true := by
      have := (h.slots i).controlled.2.2.1
      rw [State.slot_port] at hq
      rw [hq] at this
      exact this.symm
    have h1 := h.reach q.expiry
    have o : (s.reach q.expiry).OnlyAt i ((s.reach q.expiry).modSlot i Slot.countMisses) :=
      State.OnlyAt.rfl.modSlot _ Slot.countMisses_upstream
    have hw := State.work_countMisses (s.reach q.expiry) i
    simp only
    split
    · exact ((h1.fitBut i).of_onlyAt o).enterFault _
    · next hl =>
      have h2 : ((s.reach q.expiry).modSlot i Slot.countMisses).Fit full := by
        refine h1.change o rfl ?_ ?_ ?_ <;> rw [hw]
        · exact Slot.countMisses_state _
        · exact Slot.countMisses_map _
        · refine (h1.slots i).countMisses ?_ hp
          rw [← hw]
          exact Bool.not_eq_true _ ▸ hl
      refine h2.query ?_ _ _
      rw [State.slot_ctx, hw, Slot.countMisses_state]
      exact hp

theorem State.Fit.idleExpires (h : s.Fit full) : (s.idleExpires i).Fit full := by
  unfold State.idleExpires
  split
  · exact h
  · next t ht =>
    have hw : (s.slot i).pass.flight = [] := ((h.slots i).idleOk (by
      rw [State.slot_ctx] at ht
      simp [ht])).2.1
    have h1 : ((s.reach t).modCtx i (fun c => { c with idleTimer := none })).Fit full := by
      have h0 := h.reach t
      refine h0.change (State.OnlyAt.rfl.modCtx _) rfl ?_ ?_ ?_ <;> rw [State.work_modCtx]
      exact (h0.slots i).of_eq rfl rfl rfl rfl rfl rfl rfl rfl rfl (fun e => by cases e) (fun _ e => e)
        (fun _ _ e => e)
    refine State.Fit.settle (h1.lower fun _ => ?_)
    simpa [State.slot_pass] using hw

theorem State.Fit.staggerExpires (h : s.Fit full) (b : BankId) : (s.staggerExpires b).Fit full := by
  unfold State.staggerExpires
  split
  · exact h
  · exact State.Fit.scan ((h.reach _).modBank b _)

theorem State.Fit.transitExpires (h : s.Fit full) : s.transitExpires.Fit full := by
  unfold State.transitExpires
  split
  · exact h
  · exact State.Fit.testAll ((h.reach _).setPark _)

theorem State.Fit.holdExpires (h : s.Fit full) (tag : Tag) : (s.holdExpires i tag).Fit full := by
  unfold State.holdExpires
  split
  · exact h
  · split
    · exact h
    · exact State.Fit.settle (((h.reach _).dropHeld tag).completeSensed _ _ _)

theorem State.Fit.loseSensor (h : s.Fit full) : s.loseSensor.Fit full := by
  unfold State.loseSensor
  split
  · exact h
  · exact (h.reach _).setMotion _

theorem State.Fit.takeSample (h : s.Fit full) (x y z : BitVec 16) : (s.takeSample x y z).Fit full := by
  unfold State.takeSample
  split
  · exact h
  · exact h.setMotion _

theorem State.Fit.takeDataReady (h : s.Fit full) : s.takeDataReady.Fit full := by
  unfold State.takeDataReady
  split
  · exact h.setMotion _
  · exact h.setMonitor _

theorem State.Fit.takeReload (h : s.Fit full) : s.takeReload.Fit full := by
  unfold State.takeReload
  split <;> exact h.modLoader _ rfl

/-! ## The links -/

theorem Port.linkReset_control (p : Port) :
    p.linkReset.query = p.query ∧ p.linkReset.cancelPending = true
      ∧ (p.linkReset.cancelMiss = p.cancelMiss ∨ p.linkReset.cancelMiss = 0) := by
  unfold Port.linkReset
  by_cases hc : p.cancelPending <;> simp [hc]

theorem Slot.Fit.linkReset {m : SlotMap} {x : Slot} (h : x.Fit full m) (p : Profile) (now : Nat) :
    (x.linkReset p now).Fit full m := by
  obtain ⟨h1, h2, h3, h4, h5, h6⟩ := h.controlled
  obtain ⟨hquery, hpend, hmiss⟩ := x.port.linkReset_control
  by_cases hp : x.ctx.state.powered = true
  · have hport : (x.linkReset p now).port = x.port.linkReset := by simp [Slot.linkReset, Slot.touchIdle, hp]
    refine ⟨⟨h1, h2, ?_, ?_, fun _ => hp, ?_⟩, ⟨?_, fun _ => rfl, Slot.touchIdle_idleOk _ _ _⟩, h.latch,
      fun hf => ⟨fun _ => ⟨rfl, rfl, rfl⟩, (h.emptied hf).2.1, ?_⟩, h.mapped⟩
    · rw [hport, hquery]; exact h3
    · simp [Slot.linkReset, Slot.touchIdle, hp]
    · rw [hport]
      rcases hmiss with e | e <;> omega
    · exact fun hn => absurd (hp.symm.trans hn) (by simp)
    · rw [hport]
      have := (h.emptied hf).2.2
      rcases hmiss with e | e <;> omega
  · rw [Bool.not_eq_true] at hp
    have hport : (x.linkReset p now).port = x.port := by simp [Slot.linkReset, Slot.touchIdle, hp]
    have hpend : x.port.cancelPending = false := by
      rw [← Bool.not_eq_true]
      exact fun e => by simp [h5 e] at hp
    refine ⟨⟨h1, h2, ?_, ?_, ?_, ?_⟩, ⟨?_, fun _ => rfl, Slot.touchIdle_idleOk _ _ _⟩, h.latch,
      fun hf => ⟨fun _ => ⟨rfl, rfl, rfl⟩, (h.emptied hf).2.1, ?_⟩, h.mapped⟩
    · rw [hport]; exact h3
    · rw [hport, hpend]; simp [Slot.linkReset, Slot.touchIdle, hp]
    · rw [hport]; exact h5
    · rw [hport]; exact h6
    · rw [hport]; exact h.quiet.1
    · rw [hport]; exact (h.emptied hf).2.2

theorem Slot.linkReset_upstream (p : Profile) (now : Nat) (x : Slot) :
    (x.linkReset p now).upstream = [] := rfl

/-- The state with the commands of every slot emptied by a LINK_RESET, before park control tests the slots and a
bank in OVERDRAW sheds (R150). -/
def State.linkEmptied (s : State) : State :=
  { s with
    slots := s.slots.map (Slot.linkReset s.profile s.now)
    admission := { s.admission with queue := [] }
    ctrl :=
      { s.ctrl with
        badSlot := [], deviceNotice := false, causeMotion := false, causeProfile := false } }

theorem State.linkResetTaken_eq (s : State) :
    s.linkResetTaken = (s.linkEmptied.testAll.shed 0).shed 1 := rfl

theorem State.linkEmptied_slot (s : State) (i : SlotId) :
    s.linkEmptied.slot i = (s.slot i).linkReset s.profile s.now := by
  simp [State.linkEmptied, State.slot]

theorem State.Fit.linkEmptied (h : s.Fit full) : s.linkEmptied.Fit full where
  slots j := by
    have hw : s.linkEmptied.work j = (s.work j).linkReset s.profile s.now := by
      rw [State.work, State.linkEmptied_slot]
      rfl
    rw [hw]
    exact (h.slots j).linkReset s.profile s.now
  queue := ⟨fun _ he => absurd he List.not_mem_nil, List.nodup_nil⟩

theorem State.Fit.linkResetTaken (h : s.Fit full) : s.linkResetTaken.Fit full := by
  rw [State.linkResetTaken_eq]
  exact (h.linkEmptied.testAll.shed 0).shed 1

theorem State.Fit.takeCtrl (h : s.Fit full) (f : CtrlFrame) : (s.takeCtrl f).Fit full := by
  cases f with
  | command c => exact h.takeCommand c
  | data slot d => exact h.takeCtrlData slot d
  | linkReset => exact h.linkResetTaken
  | discarded => exact h

theorem State.Fit.takeDrive (h : s.Fit full) (f : DriveFrame) : (s.takeDrive i f).Fit full := by
  cases f with
  | completion r => exact h.takeCompletion r
  | data d => exact h.takeDriveData d
  | dataRequest r => exact h.takeDataRequest r
  | controlReply op a => exact h.takeControlReply op a
  | stateReply r => exact h.takeStateReply r
  | alertSelfUnload => exact h.takeSelfUnload
  | alertFault => exact h.takeFaultAlert
  | discarded => exact h

theorem State.Fit.setWaiting (h : s.Fit full) (q : List DriveFrame) : (s.setWaiting i q).Fit full := by
  have hw := State.work_modSlot s i (fun x => { x with waiting := q }) fun _ => rfl
  unfold State.setWaiting
  refine h.change (State.OnlyAt.rfl.modSlot _ fun _ => rfl) rfl ?_ ?_ ?_ <;> rw [hw]
  exact (h.slots i).of_eq rfl rfl rfl rfl rfl rfl rfl rfl rfl (h.slots i).idleOk (fun _ e => e)
    (fun _ _ e => e)

theorem State.Fit.drainDrives {t : State} (h : s.Fit full) (l : List SlotId)
    (ht : s.drainDrives l = some t) : t.Fit full := by
  induction l with
  | nil => cases ht
  | cons j rest ih =>
    unfold State.drainDrives at ht
    split at ht
    · exact ih ht
    · split at ht
      · cases ht; exact (h.setWaiting _).takeDrive _
      · exact ih ht

theorem State.Fit.drainOnce {t : State} (h : s.Fit full) (ht : s.drainOnce = some t) : t.Fit full := by
  unfold State.drainOnce at ht
  split at ht
  · exact h.drainDrives _ ht
  · split at ht
    · cases ht; exact (h.setCtrlWaiting _).takeCtrl _
    · exact h.drainDrives _ ht

theorem State.Fit.drain (h : s.Fit full) (n : Nat) : (State.drain n s).Fit full := by
  induction n generalizing s with
  | zero => exact h
  | succ n ih =>
    unfold State.drain
    split
    · exact h
    · next t ht => exact ih (h.drainOnce ht)

theorem State.Fit.live (h : s.Fit full) {ev : State → State} (hev : (ev s).Fit full) :
    (State.live ev s).Fit full := by
  unfold State.live
  split
  · exact h
  · exact hev.drain _

theorem State.Fit.arriveCtrl (h : s.Fit full) (f : CtrlFrame) : (s.arriveCtrl f).Fit full :=
  (h.setCtrlWaiting _).drain _

theorem State.Fit.arriveDrive (h : s.Fit full) (f : DriveFrame) : (s.arriveDrive i f).Fit full := by
  unfold State.arriveDrive
  split
  · exact h
  · exact (h.setWaiting _).drain _

theorem State.Fit.downSent (h : s.Fit full) : (s.downSent i).Fit full := by
  unfold State.downSent
  split
  · exact h
  · next f hf =>
    refine h.modPort _ ?_ fun p => ⟨by simp [Port.sent], by simp [Port.sent], by simp [Port.sent]⟩
    rw [← Bool.not_eq_false]
    intro hn
    have := ((h.slots i).quiet.1 hn).2
    rw [State.slot_port, this] at hf
    cases hf

theorem State.Fit.upSent (h : s.Fit full) : s.upSent.Fit full := by
  unfold State.upSent
  split
  · exact h
  · refine h.of_same (fun j => ?_) (by simp) ?_
    · exact Slot.sameWork_iff.mp (State.pickUpstream_slot _ j)
    · exact (State.Keeps.pickUpstream (State.Keeps.rfl { s with ctrl := { s.ctrl with sending := none } })).profile

end fit

end Sys2Proof.Machine
end

section
/-! PROOFS. RESET: the state that its assertion holds and the one that its deassertion starts. -/

namespace Sys2Proof.Machine

/-! ## Commands that find nothing to complete -/

/-- A slot with no commands enters FAULT or EMPTY with nothing completed (R117). -/
theorem State.enterDown_silent {s : State} {i : SlotId} (hc : (s.slot i).pass.commands = [])
    (hf : (s.slot i).ctx.state ≠ .fault) (st : SlotSt) (code : Byte) :
    s.enterDown i st code
      = ((s.enter i st false false).modPass i Passage.emptied).modCtx i
          (fun c => { c with spinMark := false, emergency := false }) := by
  simp only [State.enterDown, State.leavingFault, hc, hf, if_false, State.completeAll]

theorem State.takeMap_silent {s : State} {i : SlotId} (h : (s.profile.slots[i]).enabled = true) :
    (s.takeMap i).ctrl = s.ctrl ∧ ∀ j, (s.takeMap i).up j = s.up j := by
  unfold State.takeMap
  simp only [h, if_true]
  split <;> exact ⟨rfl, fun j => by simp⟩

/-- With no fall of its charge, out of SPINNING_UP and in a bank not in OVERDRAW, an entry into FAULT or EMPTY
has no reaction (R33, R38, R49). -/
theorem State.reactDown_none {was : Slot} {i : SlotId} {s : State}
    (hc : was.charge ≤ (s.slot i).charge) (hs : was.ctx.state ≠ .spinningUp)
    (hb : (s.bank was.ctx.map.bank).overdraw = false) : State.reactDown was i s = s := by
  have h1 : ¬ (s.slot i).charge < was.charge := by omega
  simp [State.reactDown, State.react, State.shed, h1, hs, hb]

/-! ## The slots after reset -/

theorem State.afterReset_slot (present powerFault : Vector Bool 10) (dock handle : Bool) (i : SlotId) :
    (State.afterReset present powerFault dock handle).slot i
      = Slot.reset (Config.defaults.slots[i]) present[i] powerFault[i] := by
  fin_cases i <;> rfl

theorem Config.defaults_enabled (i : SlotId) : (Config.defaults.slots[i]).enabled = true := by
  revert i; decide

theorem State.afterReset_bank (present powerFault : Vector Bool 10) (dock handle : Bool) (b : BankId) :
    (State.afterReset present powerFault dock handle).bank b = Bank.reset := by
  fin_cases b <;> rfl

theorem Slot.reset_fit {full : Prop} (m : SlotMap) (hm : m.enabled = true) (present powerFault : Bool)
    (hl : powerFault = true → present = false) : (Slot.reset m present powerFault).Fit full m := by
  refine Slot.AtRest.fit ⟨?_, rfl, rfl, rfl, rfl, rfl, rfl, rfl, rfl, rfl, rfl⟩ (fun e => ?_)
    fun _ => ⟨rfl, fun _ => hm, fun _ => ⟨rfl, rfl⟩⟩
  · cases present <;> rfl
  · rw [hl e]; exact .inr rfl

/-- A seated slot found tripped at the start is in FAULT with POWER_TRIP; any other is as after reset (R3). -/
def Slot.started (m : SlotMap) (present powerFault : Bool) : Slot :=
  let x := Slot.reset m present powerFault
  if present && powerFault then
    { x with
      ctx := { x.ctx with state := .fault }
      record :=
        some { code := .powerTrip, tag := none, slotState := .off, motion := .settling, held := 0,
               requeued := none, overrun := 0 }
      notice := true }
  else x

theorem Slot.started_fit {full : Prop} (m : SlotMap) (hm : m.enabled = true) (present powerFault : Bool) :
    (Slot.started m present powerFault).Fit full m := by
  unfold Slot.started
  split
  · exact Slot.AtRest.fit ⟨rfl, rfl, rfl, rfl, rfl, rfl, rfl, rfl, rfl, rfl, rfl⟩ (fun _ => .inl rfl)
      fun _ => ⟨rfl, fun _ => hm, fun _ => ⟨rfl, rfl⟩⟩
  · next h =>
    refine Slot.reset_fit m hm present powerFault fun e => ?_
    simpa [e] using h

/-- The state of the start: at every slot of a list as started, at every other as after reset, the rest as
after reset. -/
structure State.StartedAt (old base : State) (l : List SlotId) (t : State) : Prop where
  slots : ∀ i, t.slot i = if i ∈ l then
      Slot.started (Config.defaults.slots[i]) (old.slot i).presentLine (old.slot i).powerFaultLine
    else Slot.reset (Config.defaults.slots[i]) (old.slot i).presentLine (old.slot i).powerFaultLine
  admission : t.admission = base.admission
  ctrl : t.ctrl = base.ctrl
  keeps : base.Keeps t

/-- The state at the start before any tripped slot enters FAULT (R3). -/
def State.startBase (s : State) : State :=
  State.keepOutside s (State.afterReset s.presentLines s.powerFaultLines s.dockLine s.handleLine)

theorem State.startBase_slot (s : State) (i : SlotId) :
    s.startBase.slot i
      = Slot.reset (Config.defaults.slots[i]) (s.slot i).presentLine (s.slot i).powerFaultLine := by
  refine (State.afterReset_slot s.presentLines s.powerFaultLines s.dockLine s.handleLine i).trans ?_
  simp [State.presentLines, State.powerFaultLines, State.slot]

theorem State.startBase_bank (s : State) (b : BankId) : s.startBase.bank b = Bank.reset :=
  State.afterReset_bank s.presentLines s.powerFaultLines s.dockLine s.handleLine b

/-- A slot as after reset, seated and tripped, enters FAULT: nothing else changes (R3, R25). -/
theorem State.enterFault_atStart {u : State} {i : SlotId} {m : SlotMap}
    (hx : u.slot i = Slot.reset m true true) (hm : u.profile.slots[i] = m) (hen : m.enabled = true)
    (hq : u.admission.queue = []) (hb : ∀ b, (u.bank b).overdraw = false)
    (hmo : u.motion.state = .settling) :
    (u.enterFault i .powerTrip).slot i = Slot.started m true true
      ∧ (∀ j, j ≠ i → (u.enterFault i .powerTrip).slot j = u.slot j)
      ∧ (u.enterFault i .powerTrip).admission = u.admission
      ∧ (u.enterFault i .powerTrip).ctrl = u.ctrl := by
  let v := u.submit i .powerTrip none none .off 0
  let w := (((v.enter i .fault false false).modPass i Passage.emptied).modCtx i
    (fun c => { c with spinMark := false, emergency := false })).modCtx i
    (fun c => { c with faultAck := false })
  have hux : u.work i = Slot.reset m true true := by rw [State.work, hx]; rfl
  have hv : v.work i = (Slot.reset m true true).noted u.profile u.motion.state .powerTrip none none .off 0 := by
    rw [← hux]; exact State.work_submit u i _ _ _ _ _
  have hdown : v.enterDown i .fault codeSlotFault
      = ((v.enter i .fault false false).modPass i Passage.emptied).modCtx i
          (fun c => { c with spinMark := false, emergency := false }) := by
    refine State.enterDown_silent ?_ ?_ _ _
    · rw [State.slot_pass, hv]; rfl
    · rw [State.slot_ctx, hv]; exact fun e => by cases e
  have hwp : (w.profile.slots[i]).enabled = true := by
    change (u.profile.slots[i]).enabled = true
    rw [hm]; exact hen
  have hwork : (w.takeMap i).work i = Slot.started m true true := by
    rw [State.work_takeMap_enabled hwp]
    simp only [w, State.work_modCtx, State.work_modPass, State.work_enter, hv]
    change Slot.mapped (u.profile.slots[i]) _ _ = _
    rw [hm, hmo]
    rfl
  obtain ⟨hctrl, hup⟩ := State.takeMap_silent hwp
  have hfault : u.enterFault i .powerTrip = w.takeMap i := by
    have hstate : (u.slot i).ctx.state = .off := by rw [hx]; rfl
    have hlen : (u.slot i).pass.hold.length = 0 := by rw [hx]; rfl
    unfold State.enterFault
    rw [hstate, hlen, hdown]
    refine State.reactDown_none ?_ ?_ ?_
    · rw [hx]; exact Nat.zero_le _
    · rw [hx]; exact fun e => by cases e
    · have o : w.OnlyAt i (w.takeMap i) := State.OnlyAt.rfl.takeMap
      exact (congrArg Bank.overdraw (o.bank _)).trans (hb _)
  have ho : u.OnlyAt i (w.takeMap i) :=
    (((((State.OnlyAt.rfl.submit _ _ _ _ _).enter _ _ _).modPass _).modCtx _).modCtx _).takeMap
  have hupj : ∀ j, (w.takeMap i).up j = u.up j := fun j => (hup j).trans (by simp [w, v])
  rw [hfault]
  refine ⟨?_, fun j hj => ?_, ?_, hctrl⟩
  · rw [State.slot_eq_work, hwork, hupj, State.up, hx]
    rfl
  · rw [State.slot_eq_work, State.slot_eq_work, ho.others j hj, hupj]
  · have hqw : (w.takeMap i).admission.queue = u.admission.queue := by
      have hn : w.NoEntry i := v.enter_noEntry i .fault false false
      rw [State.takeMap_queue_of_noEntry hn]
      change u.admission.queue.filter _ = _
      rw [hq]; rfl
    have hk : w.Keeps (w.takeMap i) := (State.Keeps.rfl w).takeMap i
    have hbanks : (w.takeMap i).admission.banks = u.admission.banks := by
      have := State.OnlyAt.bank ho
      apply Vector.ext
      intro k hk
      exact this ⟨k, hk⟩
    have hd := hk.dock
    have hdd := hk.dockDebounce
    cases ha : (w.takeMap i).admission
    cases hu : u.admission
    simp only [ha, hu] at hqw hbanks
    have hd' : w.admission.dock = u.admission.dock := rfl
    have hdd' : w.admission.dockDebounce = u.admission.dockDebounce := rfl
    rw [hd', ha, hu] at hd
    rw [hdd', ha, hu] at hdd
    simp only at hd hdd
    rw [hqw, hbanks, hd, hdd]

theorem State.tripAtStart_step {old base u : State} {l : List SlotId} (i : SlotId)
    (h : State.StartedAt old base l u) (hi : i ∉ l) (hbase : base = old.startBase) :
    State.StartedAt old base (l ++ [i]) (u.tripAtStart i) := by
  have hx := h.slots i
  rw [if_neg hi] at hx
  have hkeep : base.Keeps (u.tripAtStart i) := by
    unfold State.tripAtStart
    split
    · exact h.keeps.enterFault i _
    · exact h.keeps
  unfold State.tripAtStart at hkeep ⊢
  by_cases htrip : (old.slot i).presentLine = true ∧ (old.slot i).powerFaultLine = true
  · have hon : (u.slot i).ctx.state == .off && (u.slot i).ctx.latch := by rw [hx]; simp [Slot.reset, htrip]
    rw [if_pos hon] at hkeep ⊢
    rw [htrip.1, htrip.2] at hx
    have hprof : u.profile = Config.defaults := by rw [h.keeps.profile, hbase]; rfl
    obtain ⟨h1, h2, h3, h4⟩ := State.enterFault_atStart hx (by rw [hprof]) (Config.defaults_enabled i)
      (by rw [h.admission, hbase]; rfl)
      (fun b => by
        have : u.bank b = base.bank b := by simp [State.bank, h.admission]
        rw [this, hbase, State.startBase_bank]; rfl)
      (by rw [h.keeps.motion, hbase]; rfl)
    refine ⟨fun j => ?_, h3.trans h.admission, h4.trans h.ctrl, hkeep⟩
    by_cases hj : j = i
    · subst hj; simp [h1, htrip]
    · rw [h2 j hj, h.slots j]; simp [hj]
  · have hoff : ¬ ((u.slot i).ctx.state == .off && (u.slot i).ctx.latch) = true := by
      rw [hx]
      cases hp : (old.slot i).presentLine <;> cases hf : (old.slot i).powerFaultLine <;>
        simp_all [Slot.reset]
    rw [if_neg hoff] at hkeep ⊢
    refine ⟨fun j => ?_, h.admission, h.ctrl, hkeep⟩
    by_cases hj : j = i
    · subst hj
      have hnot : ((old.slot j).presentLine && (old.slot j).powerFaultLine) = false := by
        rw [← Bool.not_eq_true, Bool.and_eq_true]; exact htrip
      simp [hx, Slot.started, hnot]
    · rw [h.slots j]; simp [hj]

theorem State.startedAt_foldl {old base : State} (hbase : base = old.startBase) (l done : List SlotId)
    (u : State) (h : State.StartedAt old base done u) (hn : (done ++ l).Nodup) :
    State.StartedAt old base (done ++ l) (l.foldl State.tripAtStart u) := by
  induction l generalizing done u with
  | nil => simpa using h
  | cons i rest ih =>
    have hi : i ∉ done := fun hm =>
      (List.disjoint_of_nodup_append hn) hm List.mem_cons_self
    have hstep := State.tripAtStart_step i h hi hbase
    have := ih (done ++ [i]) _ hstep (by simpa using hn)
    simpa using this

/-- The start: every slot as started, and the rest as after reset (R3). -/
theorem State.startUp_startedAt (s : State) : State.StartedAt s s.startBase allSlots s.startUp := by
  have h := State.startedAt_foldl (old := s) rfl allSlots [] s.startBase
    ⟨fun i => by simp [State.startBase_slot], rfl, rfl, State.Keeps.rfl _⟩ (by decide)
  exact h

theorem State.startUp_slot (s : State) (i : SlotId) :
    s.startUp.slot i
      = Slot.started (Config.defaults.slots[i]) (s.slot i).presentLine (s.slot i).powerFaultLine := by
  rw [s.startUp_startedAt.slots i, if_pos (mem_allSlots i)]

/-- The part is sound at the start (R3). -/
theorem State.startUp_fit (full : Prop) (s : State) : s.startUp.Fit full where
  slots i := by
    have hp : s.startUp.profile = Config.defaults := s.startUp_startedAt.keeps.profile
    have hw : s.startUp.work i
        = Slot.started (Config.defaults.slots[i]) (s.slot i).presentLine (s.slot i).powerFaultLine := by
      rw [State.work, State.startUp_slot]
      unfold Slot.started
      cases (s.slot i).presentLine <;> cases (s.slot i).powerFaultLine <;> rfl
    rw [hw, hp]
    exact Slot.started_fit _ (Config.defaults_enabled i) _ _
  queue := by
    have hq : s.startUp.admission.queue = [] := congrArg Admission.queue s.startUp_startedAt.admission
    exact ⟨by simp [hq], by simp [hq]⟩

/-! ## The statements -/

/-- Settles O5: with nothing waiting on the controller link, the start is the outcome. -/
theorem resetDeassertStarts : Obligations.ResetDeassertStarts := by
  unfold Obligations.ResetDeassertStarts
  intro s hw
  have h := s.startUp_startedAt
  refine ⟨s.startUp, ?_, fun i => ?_, ?_⟩
  · simp [exec, execResetDeassert, hw, State.drain]
  · rw [State.startUp_slot]
    unfold Slot.started
    cases (s.slot i).presentLine <;> cases (s.slot i).powerFaultLine <;>
      exact ⟨rfl, rfl, rfl, rfl, rfl, rfl, rfl, rfl, rfl, rfl, rfl⟩
  · have hctrl : s.startUp.ctrl = { CtrlPort.reset with waiting := s.ctrl.waiting } := h.ctrl
    rw [hctrl, hw]
    refine ⟨h.keeps.dock, h.keeps.dockDebounce, congrArg Admission.queue h.admission, fun b => ?_,
      h.keeps.park, h.keeps.motion, h.keeps.loader, rfl, h.keeps.resetAsserted, h.keeps.dockLine,
      h.keeps.handleLine, h.keeps.now, h.keeps.pending⟩
    have : s.startUp.bank b = s.startBase.bank b := by simp [State.bank, h.admission]
    rw [this, State.startBase_bank]
    rfl

theorem State.holdReset_slot (s : State) (i : SlotId) :
    s.holdReset.slot i
      = Slot.reset (Config.defaults.slots[i]) (s.slot i).presentLine (s.slot i).powerFaultLine :=
  State.startBase_slot s i

theorem State.holdReset_bank (s : State) (b : BankId) : s.holdReset.bank b = Bank.reset :=
  State.startBase_bank s b

theorem State.noticeLine_eq_false {s : State} (hs : ∀ i, (s.slot i).notice = false)
    (hc : s.ctrl.deviceNotice = false) : s.noticeLine = false := by
  have hany : s.anySlotNotice = false := by
    rw [State.anySlotNotice, List.any_eq_false]
    intro x hx
    obtain ⟨k, hk, rfl⟩ := List.mem_iff_getElem.mp hx
    have hk : k < 10 := by simpa using hk
    simpa [State.slot] using hs ⟨k, hk⟩
  rw [State.noticeLine, hany, hc]
  rfl

/-- Settles O4: under RESET every field stands at its reset value, and the reads and timers are stopped. -/
theorem resetAssertStopsThePart : Obligations.ResetAssertStopsThePart := by
  unfold Obligations.ResetAssertStopsThePart
  intro s
  refine ⟨s.holdReset, rfl, rfl, fun i => ?_, ?_, rfl, rfl, rfl, rfl, rfl, fun b => ?_, rfl, rfl, rfl,
    rfl, rfl, rfl, rfl, rfl⟩
  · rw [State.holdReset_slot]
    refine ⟨?_, rfl, rfl, rfl, rfl, rfl, rfl, rfl, rfl, rfl, rfl, rfl⟩
    have : s.holdReset.resetAsserted = true := rfl
    simp [State.powerEnable, this]
  · exact State.noticeLine_eq_false (fun i => by rw [State.holdReset_slot]; rfl) rfl
  · rw [State.holdReset_bank]
    rfl

/-- Settles O60: the reset state has ten slots at rest and nothing queued, so each law holds by computation. -/
theorem resetMeetsTheLaws : Obligations.ResetMeetsTheLaws := by
  unfold Obligations.ResetMeetsTheLaws
  refine ⟨by decide, by decide, by decide, by decide, by decide, by decide, by decide, by decide,
    by decide, by decide, by decide, by decide⟩

end Sys2Proof.Machine
end

section
/-! PROOFS. Every command keeps the part sound: with RESET deasserted by the laws of each operation, under RESET because
no block is touched. -/

namespace Sys2Proof.Machine

/-! ## With RESET deasserted -/

section fit

variable {full : Prop} {s : State}

theorem State.Fit.dockMoves (h : s.Fit full) : s.dockMoves.Fit full := h.setDock s.admission.dock _

theorem State.Fit.handleMoves (h : s.Fit full) : s.handleMoves.Fit full := h.setPark _

theorem State.Fit.atFaultDeadline (h : s.Fit full) (i : SlotId) (st : SlotSt) (cause : SenseCode) :
    (State.atDeadline i st (fun t => t.enterFault i cause) s).Fit full :=
  h.atDeadline st _ fun _ hu _ => hu.enterFault cause

theorem State.Fit.atSpinDeadline (h : s.Fit full) (i : SlotId) :
    (State.atDeadline i .spinningUp (fun t => t.spinFails i .timeout) s).Fit full :=
  h.atDeadline .spinningUp _ fun _ hu hst => hu.spinFails (by rw [hst]; rfl) .timeout

theorem State.Fit.atLoadDeadline (h : s.Fit full) (i : SlotId) :
    (State.atDeadline i .loading (fun t => t.loadFails i) s).Fit full :=
  h.atDeadline .loading _ fun _ hu hst => hu.loadFails (by rw [hst]; rfl)

/-- Every command but the assertion of RESET leaves a sound part sound. -/
theorem State.Fit.exec {t : State} (h : s.Fit full) {c : Instr} (hc : c ≠ .resetAssert)
    (ht : exec c s = .next t) : t.Fit full := by
  cases c with
  | resetAssert => exact absurd rfl hc
  | resetDeassert => cases ht; exact (State.startUp_fit full s).drain _
  | linkReset => cases ht; exact h.arriveCtrl _
  | read c | write c | verify c | flush c | identify c | otherAttached op c | sense c | probe c | spinUp c
  | loadHeads c | unloadHeads c | spinDown c | powerOff c | abort c | data slot d =>
    cases ht; exact h.arriveCtrl _
  | frameDiscarded link bytes =>
    cases ht
    cases link with
    | controller => exact h.arriveCtrl _
    | drive i => exact h.arriveDrive _
  | driveCompletion i r | driveData i d | dataRequest i r | controlReply i op answer | stateReply i report
  | driveAlertSelfUnload i | driveAlertFault i => cases ht; exact h.arriveDrive _
  | presentAsserted i => cases ht; exact (h.setPresent _).live (h.setPresent _).seated
  | presentDeasserted i => cases ht; exact (h.setPresent _).live (h.setPresent _).unseated
  | presentDebounceComplete i => cases ht; exact h.live h.seatingDone
  | powerFaultAsserted i => cases ht; exact (h.setPowerFault _).live (h.setPowerFault _).tripped
  | powerFaultDeasserted i => cases ht; exact (h.setPowerFault _).live (h.setPowerFault _).untripped
  | dockChange level => cases ht; exact (h.setDockLine _).live (h.setDockLine _).dockMoves
  | dockDebounceComplete => cases ht; exact h.live h.dockSettles
  | handleChange level => cases ht; exact (h.setHandleLine _).live (h.setHandleLine _).handleMoves
  | handleDebounceComplete => cases ht; exact h.live h.handleSettles
  | reloadEdge => cases ht; exact h.live h.takeReload
  | shockTestEdge => cases ht; exact h.live (h.setMonitor _)
  | dataReadyEdge => cases ht; exact h.live h.takeDataReady
  | sample x y z => cases ht; exact h.live (h.takeSample x y z)
  | lossTimerExpiry => cases ht; exact h.live h.loseSensor
  | powerDeadlineExpiry i | unloadDeadlineExpiry i | stopDeadlineExpiry i =>
    cases ht; exact h.live (h.atFaultDeadline i _ _)
  | spinDeadlineExpiry i => cases ht; exact h.live (h.atSpinDeadline i)
  | loadDeadlineExpiry i => cases ht; exact h.live (h.atLoadDeadline i)
  | queryScheduleExpiry i => cases ht; exact h.live h.queryExpires
  | idleTimerExpiry i => cases ht; exact h.live h.idleExpires
  | staggerTimerExpiry b => cases ht; exact h.live (h.staggerExpires b)
  | transitTimerExpiry => cases ht; exact h.live h.transitExpires
  | holdDeadlineExpiry i tag => cases ht; exact h.live (h.holdExpires tag)
  | profileReadComplete image => cases ht; exact h.live (h.takeImage image)
  | readLimitExpiry => cases ht; exact h.live h.readTimesOut
  | driveFrameSent i => cases ht; exact h.live h.downSent
  | upstreamFrameSent => cases ht; exact h.live h.upSent

end fit

/-! ## Under RESET -/

/-- From s to t, under RESET, no slot changed but for its lines, its records and what waits on its links, and
neither the admission queue nor the profile changed. -/
structure State.HeldInReset (s t : State) : Prop where
  reset : t.resetAsserted = true
  ctx : ∀ i, (t.slot i).ctx = (s.slot i).ctx
  pass : ∀ i, (t.slot i).pass = (s.slot i).pass
  port : ∀ i, (t.slot i).port = (s.slot i).port
  charge : ∀ i, (t.slot i).charge = (s.slot i).charge
  fence : ∀ i, (t.slot i).fence = (s.slot i).fence
  queue : t.admission.queue = s.admission.queue
  profile : t.profile = s.profile

section reset

variable {s t : State}

theorem State.HeldInReset.rfl (h : s.resetAsserted = true) : s.HeldInReset s :=
  ⟨h, fun _ => Eq.refl _, fun _ => Eq.refl _, fun _ => Eq.refl _, fun _ => Eq.refl _, fun _ => Eq.refl _,
    Eq.refl _, Eq.refl _⟩

/-- A change of one slot's lines. -/
theorem State.HeldInReset.modSlot (h : s.resetAsserted = true) (i : SlotId) (f : Slot → Slot)
    (hf : ∀ x, (f x).ctx = x.ctx ∧ (f x).pass = x.pass ∧ (f x).port = x.port ∧ (f x).charge = x.charge
      ∧ (f x).fence = x.fence) : s.HeldInReset (s.modSlot i f) := by
  have hslot : ∀ j, (s.modSlot i f).slot j = s.slot j ∨ (s.modSlot i f).slot j = f (s.slot j) := fun j => by
    by_cases hj : j = i
    · subst hj; exact .inr (State.slot_modSlot_self _ _ _)
    · exact .inl (by simp [hj])
  refine ⟨h, fun j => ?_, fun j => ?_, fun j => ?_, fun j => ?_, fun j => ?_, Eq.refl _, Eq.refl _⟩ <;>
    rcases hslot j with e | e <;> simp only [e, hf]

theorem State.setPresent_heldInReset (h : s.resetAsserted = true) (i : SlotId) (level : Bool) :
    s.HeldInReset (s.setPresent i level) :=
  State.HeldInReset.modSlot h i (fun x => { x with presentLine := level })
    fun _ => ⟨rfl, rfl, rfl, rfl, rfl⟩

theorem State.setPowerFault_heldInReset (h : s.resetAsserted = true) (i : SlotId) (level : Bool) :
    s.HeldInReset (s.setPowerFault i level) :=
  State.HeldInReset.modSlot h i (fun x => { x with powerFaultLine := level })
    fun _ => ⟨rfl, rfl, rfl, rfl, rfl⟩

theorem State.drainDrives_reset (h : s.resetAsserted = true) (l : List SlotId) :
    s.drainDrives l = none := by
  induction l with
  | nil => rfl
  | cons i rest ih =>
    unfold State.drainDrives
    split
    · exact ih
    · simpa [State.canTakeDrive, h] using ih

/-- Under RESET no frame is taken (R141). -/
theorem State.drain_reset (h : s.resetAsserted = true) (n : Nat) : State.drain n s = s := by
  have hnone : s.drainOnce = none := by
    unfold State.drainOnce
    split
    · exact State.drainDrives_reset h _
    · simpa [State.canTakeCtrl, h] using State.drainDrives_reset h _
  cases n with
  | zero => rfl
  | succ n => simp [State.drain, hnone]

theorem State.arriveCtrl_reset (h : s.resetAsserted = true) (f : CtrlFrame) :
    s.HeldInReset (s.arriveCtrl f) := by
  have e : s.arriveCtrl f = s.setCtrlWaiting (s.ctrl.waiting ++ [f]) :=
    State.drain_reset (s := s.setCtrlWaiting (s.ctrl.waiting ++ [f])) h _
  rw [e]
  exact { State.HeldInReset.rfl h with }

theorem State.arriveDrive_reset (h : s.resetAsserted = true) (i : SlotId) (f : DriveFrame) :
    s.HeldInReset (s.arriveDrive i f) := by
  rw [State.arriveDrive, if_pos h]
  exact State.HeldInReset.rfl h

theorem State.live_heldInReset (h : s.resetAsserted = true) (ev : State → State) :
    s.HeldInReset (State.live ev s) := by
  rw [State.live_reset h]
  exact State.HeldInReset.rfl h

theorem State.lineEvent_heldInReset {record : State → State} (h : s.HeldInReset (record s))
    (ev : State → State) : s.HeldInReset (State.lineEvent record ev s) := by
  rw [State.lineEvent, State.live_reset h.reset]
  exact h

/-- Under RESET a command that does not move the RESET line touches no block (log entry 5). -/
theorem State.exec_heldInReset (h : s.resetAsserted = true) {c : Instr} (hc : c ≠ .resetAssert)
    (hd : c ≠ .resetDeassert) (ht : exec c s = .next t) : s.HeldInReset t := by
  cases c with
  | resetAssert => exact absurd rfl hc
  | resetDeassert => exact absurd rfl hd
  | linkReset => cases ht; exact State.arriveCtrl_reset h _
  | read c | write c | verify c | flush c | identify c | otherAttached op c | sense c | probe c | spinUp c
  | loadHeads c | unloadHeads c | spinDown c | powerOff c | abort c | data slot d =>
    cases ht; exact State.arriveCtrl_reset h _
  | frameDiscarded link bytes =>
    cases ht
    cases link with
    | controller => exact State.arriveCtrl_reset h _
    | drive i => exact State.arriveDrive_reset h i _
  | driveCompletion i r | driveData i d | dataRequest i r | controlReply i op answer | stateReply i report
  | driveAlertSelfUnload i | driveAlertFault i => cases ht; exact State.arriveDrive_reset h i _
  | presentAsserted i | presentDeasserted i =>
    cases ht; exact State.lineEvent_heldInReset (State.setPresent_heldInReset h i _) _
  | powerFaultAsserted i | powerFaultDeasserted i =>
    cases ht; exact State.lineEvent_heldInReset (State.setPowerFault_heldInReset h i _) _
  | dockChange level | handleChange level =>
    cases ht; exact State.lineEvent_heldInReset { State.HeldInReset.rfl h with } _
  | presentDebounceComplete i | powerDeadlineExpiry i | unloadDeadlineExpiry i | stopDeadlineExpiry i
  | spinDeadlineExpiry i | loadDeadlineExpiry i | queryScheduleExpiry i | idleTimerExpiry i
  | driveFrameSent i => cases ht; exact State.live_heldInReset h _
  | dockDebounceComplete | handleDebounceComplete | reloadEdge | shockTestEdge | dataReadyEdge
  | lossTimerExpiry | transitTimerExpiry | readLimitExpiry | upstreamFrameSent =>
    cases ht; exact State.live_heldInReset h _
  | sample x y z => cases ht; exact State.live_heldInReset h _
  | staggerTimerExpiry b => cases ht; exact State.live_heldInReset h _
  | holdDeadlineExpiry i tag => cases ht; exact State.live_heldInReset h _
  | profileReadComplete image => cases ht; exact State.live_heldInReset h _

theorem State.HeldInReset.sound (k : s.HeldInReset t) (h : s.Sound) : t.Sound := by
  obtain ⟨hctl, hqueue, hquiet, -⟩ := h
  refine ⟨fun i => ?_, ?_, fun i => ?_, .inl k.reset⟩
  · simpa only [Slot.Controlled, k.ctx, k.port, k.fence] using hctl i
  · simpa only [State.QueueOk, State.EntryOk, k.queue, k.ctx] using hqueue
  · simpa only [Slot.Quiet, k.ctx, k.pass, k.charge, k.port] using hquiet i

theorem State.HeldInReset.maps (k : s.HeldInReset t) (h : s.MapsOk) : t.MapsOk := by
  intro i
  simpa only [k.ctx, k.profile] using h i

theorem State.HeldInReset.emptied (k : s.HeldInReset t) (h : ∀ i, (s.slot i).Emptied) (i : SlotId) :
    (t.slot i).Emptied := by
  simpa only [Slot.Emptied, k.ctx, k.pass, k.port] using h i

/-! ## The assertion of RESET -/

theorem Slot.reset_controlled (m : SlotMap) (present powerFault : Bool) :
    (Slot.reset m present powerFault).Controlled := by
  cases present <;> exact ⟨rfl, rfl, rfl, rfl, Bool.noConfusion, Nat.zero_le 3⟩

theorem Slot.reset_quiet (m : SlotMap) (present powerFault : Bool) :
    (Slot.reset m present powerFault).Quiet :=
  ⟨fun _ => ⟨rfl, rfl⟩, fun _ => rfl, Bool.noConfusion⟩

theorem State.holdReset_sound (s : State) : s.holdReset.Sound := by
  refine ⟨fun i => ?_, ⟨fun e he => (List.not_mem_nil he).elim, List.nodup_nil⟩, fun i => ?_, .inl rfl⟩
  · rw [State.holdReset_slot]; exact Slot.reset_controlled _ _ _
  · rw [State.holdReset_slot]; exact Slot.reset_quiet _ _ _

theorem State.holdReset_laws (s : State) : s.holdReset.MapsOk ∧ ∀ i, (s.holdReset.slot i).Emptied := by
  refine ⟨fun i => ?_, fun i => ?_⟩ <;> rw [State.holdReset_slot]
  · exact ⟨fun _ => rfl, fun _ => Config.defaults_enabled i⟩
  · exact ⟨fun _ => ⟨rfl, rfl, rfl⟩, Nat.zero_lt_succ 2, Nat.zero_lt_succ 2⟩

/-! ## Between the statement and its slot-wise form -/

theorem State.Sound.fit (h : s.Sound) (hr : s.resetAsserted = false) : s.Fit False := by
  obtain ⟨hctl, hqueue, hquiet, hlatch⟩ := h
  have hl := hlatch.resolve_left (by simp [hr])
  exact ⟨fun i => ⟨hctl i, hquiet i, hl i, False.elim, False.elim⟩, hqueue⟩

theorem State.Sound.fit_full (h : s.Sound) (hr : s.resetAsserted = false) (hm : s.MapsOk)
    (he : ∀ i, (s.slot i).Emptied) : s.Fit True := by
  have hs := h.fit hr
  exact ⟨fun i => ⟨(hs.slots i).controlled, (hs.slots i).quiet, (hs.slots i).latch, fun _ => he i,
    fun _ => hm i⟩, hs.queue⟩

theorem State.Fit.sound {full : Prop} (h : s.Fit full) : s.Sound :=
  ⟨fun i => (h.slots i).controlled, h.queue, fun i => (h.slots i).quiet, .inr fun i => (h.slots i).latch⟩

theorem State.Fit.laws (h : s.Fit True) : s.MapsOk ∧ ∀ i, (s.slot i).Emptied :=
  ⟨fun i => (h.slots i).mapped trivial, fun i => (h.slots i).emptied trivial⟩

/-! ## The statement -/

theorem exec_sound {c : Instr} (ht : exec c s = .next t) (h : s.Sound) : t.Sound := by
  by_cases hc : c = .resetAssert
  · subst hc; cases ht; exact s.holdReset_sound
  by_cases hd : c = .resetDeassert
  · subst hd; cases ht; exact ((State.startUp_fit False s).drain _).sound
  by_cases hr : s.resetAsserted = true
  · exact (State.exec_heldInReset hr hc hd ht).sound h
  · exact ((h.fit (by simpa using hr)).exec hc ht).sound

theorem exec_laws {c : Instr} (ht : exec c s = .next t) (h : s.Sound) (hm : s.MapsOk)
    (he : ∀ i, (s.slot i).Emptied) : t.MapsOk ∧ ∀ i, (t.slot i).Emptied := by
  by_cases hc : c = .resetAssert
  · subst hc; cases ht; exact s.holdReset_laws
  by_cases hd : c = .resetDeassert
  · subst hd; cases ht; exact ((State.startUp_fit True s).drain _).laws
  by_cases hr : s.resetAsserted = true
  · have k := State.exec_heldInReset hr hc hd ht
    exact ⟨k.maps hm, k.emptied he⟩
  · exact ((h.fit_full (by simpa using hr) hm he).exec hc ht).laws

/-- The power enable follows the state: of a powered slot the latch is clear but under RESET (R21, R22). -/
theorem State.Sound.powerEnable_eq (h : s.Sound) (i : SlotId) :
    s.powerEnable i = ((s.slot i).ctx.state.powered && !s.resetAsserted) := by
  obtain ⟨-, -, -, hreset | hlatch⟩ := h
  · simp [State.powerEnable, hreset]
  · change ((s.slot i).ctx.state.powered && !(s.slot i).ctx.latch && !s.resetAsserted) = _
    cases hl : (s.slot i).ctx.latch with
    | false => simp
    | true => rcases hlatch i hl with e | e <;> simp [e, SlotSt.powered]

end reset

/-- Settles O55: an idle millisecond touches no slot, and every command keeps the laws. -/
theorem soundnessIsKept : Obligations.SoundnessIsKept := by
  unfold Obligations.SoundnessIsKept
  refine ⟨fun s t ht h => ?_, fun s h i => h.powerEnable_eq i, fun s t ht h hm he => ?_⟩ <;>
    unfold step at ht <;> split at ht
  · cases ht; exact h
  · exact exec_sound ht h
  · cases ht; exact ⟨hm, he⟩
  · exact exec_laws ht h hm he

end Sys2Proof.Machine
end

section
/-! PROOFS. What the admission unit leaves to a slot that it is not to lower: the slot stands as it is, with the entry of its
next raising step in the queue, or is granted that step; nothing of it goes upstream. -/

namespace Sys2Proof.Machine

/-! ## What every change of slots leaves -/

/-- From s to t, the blocks outside the slots stand, a link in transmission stays so and one in order too, the
budgets stand, and no bank comes into OVERDRAW. -/
structure State.Flows (s t : State) : Prop where
  keeps : s.Keeps t
  sending : s.ctrl.sending ≠ none → t.ctrl.sending ≠ none
  working : s.UpWorking → t.UpWorking
  budget : ∀ b, (t.bank b).budget = (s.bank b).budget
  overdraw : ∀ b, (t.bank b).overdraw = true → (s.bank b).overdraw = true

/-- From s to t, moreover, nothing joined or left the upstream queue of slot i, on a link in order. -/
structure State.Leaves (i : SlotId) (s t : State) : Prop extends s.Flows t where
  up : s.UpWorking → t.up i = s.up i

section relations

variable {i j : SlotId} {s t u : State}

theorem State.Flows.rfl : s.Flows s := ⟨State.Keeps.rfl s, id, id, fun _ => Eq.refl _, fun _ => id⟩

theorem State.Flows.trans (h : s.Flows t) (k : t.Flows u) : s.Flows u where
  keeps := h.keeps.trans k.keeps
  sending hs := k.sending (h.sending hs)
  working hu := k.working (h.working hu)
  budget b := (k.budget b).trans (h.budget b)
  overdraw b hb := h.overdraw b (k.overdraw b hb)

theorem State.Leaves.rfl : s.Leaves i s := ⟨State.Flows.rfl, fun _ => Eq.refl _⟩

theorem State.Leaves.trans (h : s.Leaves i t) (k : t.Leaves i u) : s.Leaves i u :=
  ⟨h.toFlows.trans k.toFlows, fun hu => (k.up (h.working hu)).trans (h.up hu)⟩

/-- What stays out of OVERDRAW. -/
theorem State.Flows.clear (h : s.Flows t) {b : BankId} (hb : (s.bank b).overdraw = false) :
    (t.bank b).overdraw = false := by
  rw [← Bool.not_eq_true]
  exact fun e => by simp [h.overdraw b e] at hb

theorem State.OnlyAt.flows (o : s.OnlyAt i t) (k : s.Keeps t) : s.Flows t :=
  ⟨k, o.sending, fun hu => (o.upWorking hu).1, fun b => congrArg Bank.budget (o.bank b),
    fun b hb => by rwa [o.bank b] at hb⟩

/-- An operation on slot j leaves what waits upstream of another slot. -/
theorem State.OnlyAt.leaves (o : s.OnlyAt j t) (k : s.Keeps t) (hj : i ≠ j) : s.Leaves i t :=
  ⟨o.flows k, fun hu => (o.upWorking hu).2 i hj⟩

/-- An operation on slot i that hands nothing up. -/
theorem State.OnlyAt.leaves_self (o : s.OnlyAt i t) (k : s.Keeps t) (hu : t.up i = s.up i) :
    s.Leaves i t := ⟨o.flows k, fun _ => hu⟩

theorem State.Leaves.up_busy (h : s.Leaves i t) (hs : s.ctrl.sending ≠ none) : t.up i = s.up i :=
  h.up (.of_busy hs)

/-- The blocks that a claim names as kept. -/
theorem State.Keeps.rest (k : s.Keeps t) : s.RestKept t :=
  ⟨k.motion, k.park, k.loader, k.resetAsserted, k.dockLine, k.handleLine, k.pending⟩

end relations

/-! ## A slot that stands -/

/-- The entry of a raising step of a slot, as its placement makes it (R36). -/
def Slot.entry (i : SlotId) (x : Slot) (k : Kind) : AdmEntry :=
  { slot := i, kind := k, bank := x.ctx.map.bank, retried := false }

/-- The entries of slot i in the admission queue, in order. -/
def State.entriesOf (s : State) (i : SlotId) : List AdmEntry :=
  s.admission.queue.filter (fun e => e.slot == i)

/-- A slot is no shed candidate by its work or its state (R47). -/
def Slot.Busy (x : Slot) : Prop :=
  x.pass.hold ≠ [] ∨ x.pass.flight ≠ [] ∨ (x.ctx.state ≠ .idle ∧ x.ctx.state ≠ .spun)

/-- Slot i stands as x, with the entry of its next raising step in the queue if it asks for one, or is granted
that step; and it is no candidate of a bank in OVERDRAW. -/
structure State.Stands (i : SlotId) (k : Option Kind) (x : Slot) (s : State) : Prop where
  place : (s.work i = x ∧ s.entriesOf i = (k.map (x.entry i)).toList)
    ∨ ∃ kind, k = some kind ∧ s.loader.readState ≠ .powerOnRead
      ∧ s.work i = x.enter s.profile s.now kind.target true false ∧ s.entriesOf i = []
  safe : x.Busy ∨ (s.bank x.ctx.map.bank).overdraw = false

/-- From s to t, nothing of slot i went upstream, and it stands as x. -/
def State.Bears (i : SlotId) (k : Option Kind) (x : Slot) (s t : State) : Prop :=
  s.Leaves i t ∧ t.Stands i k x

section stands

variable {i : SlotId} {k : Option Kind} {x : Slot} {s t : State}

theorem State.entriesOf_eq_nil : s.entriesOf i = [] ↔ s.NoEntry i := by
  simp [State.entriesOf, State.NoEntry, List.filter_eq_nil_iff]

theorem State.withdraw_entriesOf (s : State) (i : SlotId) : (s.withdraw i).entriesOf i = [] := by
  rw [State.entriesOf_eq_nil]
  intro e he
  simpa using (List.mem_filter.mp he).2

/-- Entries of one slot are not touched by an operation on another. -/
theorem State.OnlyAt.entriesOf_eq {j : SlotId} (o : s.OnlyAt j t) (hj : i ≠ j) :
    t.entriesOf i = s.entriesOf i := by
  have hsub : ∀ q : List AdmEntry,
      (q.filter (fun e => e.slot != j)).filter (fun e => e.slot == i) = q.filter (fun e => e.slot == i) := by
    intro q
    rw [List.filter_filter]
    refine List.filter_congr fun e _ => ?_
    by_cases he : e.slot = i
    · simp [he, hj]
    · simp [he]
  have := congrArg (List.filter fun e => e.slot == i) o.entries
  rwa [hsub, hsub] at this

/-- A slot that stands without a raising step to ask for. -/
theorem State.Stands.of_work (hw : s.work i = x) (hn : s.NoEntry i)
    (hs : x.Busy ∨ (s.bank x.ctx.map.bank).overdraw = false) : s.Stands i none x :=
  ⟨.inl ⟨hw, State.entriesOf_eq_nil.mpr hn⟩, hs⟩

theorem State.Stands.work_eq (h : s.Stands i none x) : s.work i = x := by
  rcases h.place with ⟨hw, -⟩ | ⟨_, hk, -, -⟩
  · exact hw
  · cases hk

theorem State.Stands.noEntry (h : s.Stands i none x) : s.NoEntry i := by
  rcases h.place with ⟨-, he⟩ | ⟨_, hk, -⟩
  · exact State.entriesOf_eq_nil.mp he
  · cases hk

/-- Whatever stands, or is granted, keeps what a grant keeps. -/
theorem State.Stands.kept (h : s.Stands i k x) {α : Type} (f : Slot → α)
    (hf : ∀ p n st r b, f (x.enter p n st r b) = f x) : f (s.work i) = f x := by
  rcases h.place with ⟨hw, -⟩ | ⟨kind, -, -, hw, -⟩
  · rw [hw]
  · rw [hw, hf]

theorem State.Stands.pass (h : s.Stands i k x) : (s.slot i).pass = x.pass :=
  h.kept (fun y => y.pass) fun _ _ _ _ _ => rfl

theorem State.Stands.map (h : s.Stands i k x) : (s.slot i).ctx.map = x.ctx.map :=
  h.kept (fun y => y.ctx.map) fun _ _ _ _ _ => rfl
theorem State.Stands.faultAck (h : s.Stands i k x) : (s.slot i).ctx.faultAck = x.ctx.faultAck :=
  h.kept (fun y => y.ctx.faultAck) fun _ _ _ _ _ => rfl
theorem State.Stands.lastActivity (h : s.Stands i k x) : (s.slot i).ctx.lastActivity = x.ctx.lastActivity :=
  h.kept (fun y => y.ctx.lastActivity) fun _ _ _ _ _ => rfl
theorem State.Stands.emergency (h : s.Stands i k x) : (s.slot i).ctx.emergency = x.ctx.emergency :=
  h.kept (fun y => y.ctx.emergency) fun _ _ _ _ _ => rfl
theorem State.Stands.record (h : s.Stands i k x) : (s.slot i).record = x.record :=
  h.kept (fun y => y.record) fun _ _ _ _ _ => rfl
theorem State.Stands.notice (h : s.Stands i k x) : (s.slot i).notice = x.notice :=
  h.kept (fun y => y.notice) fun _ _ _ _ _ => rfl
theorem State.Stands.requeues (h : s.Stands i k x) : (s.slot i).requeues = x.requeues :=
  h.kept (fun y => y.requeues) fun _ _ _ _ _ => rfl

/-- A slot that stands is not touched by a shed of a bank in OVERDRAW. -/
theorem State.Stands.not_candidate (h : s.Stands i k x) {b : BankId} (hb : (s.bank b).overdraw = true) :
    s.candidate b i = false := by
  rw [← Bool.not_eq_true, State.candidate_iff]
  rintro ⟨hmap, hst, hhold, hflight⟩
  have hpass := h.pass
  have hbank := h.map
  rcases h.safe with hbusy | hover
  · rcases hbusy with h1 | h1 | ⟨h1, h2⟩
    · exact h1 (hpass ▸ hhold)
    · exact h1 (hpass ▸ hflight)
    · rcases h.place with ⟨hw, -⟩ | ⟨kind, -, -, hw, -⟩
      · rw [State.slot_ctx, hw] at hst
        exact hst.elim h2 h1
      · rw [State.slot_ctx, hw] at hst
        cases kind <;> simp [Kind.target] at hst
  · rw [← hbank, hmap, hb] at hover
    cases hover

end stands

/-! ## The scan -/

section scan

variable {i : SlotId} {k : Option Kind} {x : Slot} {s t : State}

theorem State.grant_eq (s : State) (e : AdmEntry) :
    s.grant e = s.enter e.slot e.kind.target true e.retried
      ∨ s.grant e = (s.enter e.slot e.kind.target true e.retried).startStagger e.bank := by
  unfold State.grant
  cases e.kind
  · exact .inl rfl
  · exact .inr rfl
  · exact .inl rfl

@[simp] theorem State.startStagger_work (s : State) (b : BankId) (j : SlotId) :
    (s.startStagger b).work j = s.work j := by
  unfold State.startStagger
  split <;> rfl

@[simp] theorem State.startStagger_up (s : State) (b : BankId) (j : SlotId) :
    (s.startStagger b).up j = s.up j := by
  unfold State.startStagger
  split <;> rfl

@[simp] theorem State.startStagger_queue (s : State) (b : BankId) :
    (s.startStagger b).admission.queue = s.admission.queue := by
  unfold State.startStagger
  split <;> rfl

@[simp] theorem State.startStagger_ctrl (s : State) (b : BankId) : (s.startStagger b).ctrl = s.ctrl := by
  unfold State.startStagger
  split <;> rfl

theorem State.startStagger_account (s : State) (b d : BankId) :
    ((s.startStagger b).bank d).budget = (s.bank d).budget
      ∧ ((s.startStagger b).bank d).overdraw = (s.bank d).overdraw := by
  unfold State.startStagger
  split
  · exact ⟨rfl, rfl⟩
  · by_cases hd : d = b
    · subst hd; simp
    · simp [hd]

theorem State.grant_work_self (s : State) (e : AdmEntry) :
    (s.grant e).work e.slot = (s.work e.slot).enter s.profile s.now e.kind.target true e.retried := by
  rcases s.grant_eq e with h | h <;> simp [h]

theorem State.grant_queue (s : State) (e : AdmEntry) :
    (s.grant e).admission.queue = s.admission.queue.filter (fun f => f.slot != e.slot) := by
  rcases s.grant_eq e with h | h <;> simp [h]

@[simp] theorem State.grant_ctrl (s : State) (e : AdmEntry) : (s.grant e).ctrl = s.ctrl := by
  rcases s.grant_eq e with h | h <;> simp [h]

@[simp] theorem State.grant_up (s : State) (e : AdmEntry) (j : SlotId) : (s.grant e).up j = s.up j := by
  rcases s.grant_eq e with h | h <;> simp [h]

theorem State.grant_account (s : State) (e : AdmEntry) (d : BankId) :
    ((s.grant e).bank d).budget = (s.bank d).budget
      ∧ ((s.grant e).bank d).overdraw = (s.bank d).overdraw := by
  rcases s.grant_eq e with h | h
  · rw [h]; exact ⟨rfl, rfl⟩
  · rw [h]; exact State.startStagger_account _ _ _

/-- A change that touches neither the controller link nor what waits on it leaves it as it is. -/
theorem State.Leaves.of_ctrl (hk : s.Keeps t) (hc : t.ctrl = s.ctrl) (hu : ∀ j, t.up j = s.up j)
    (hb : ∀ b, (t.bank b).budget = (s.bank b).budget
      ∧ ((t.bank b).overdraw = true → (s.bank b).overdraw = true)) : s.Leaves i t :=
  ⟨⟨hk, by rw [hc]; exact id, fun h => h.of_eq hc hu, fun b => (hb b).1, fun b => (hb b).2⟩, fun _ => hu i⟩

theorem State.Leaves.grant (s : State) (e : AdmEntry) : s.Leaves i (s.grant e) :=
  .of_ctrl ((State.Keeps.rfl s).grant e) (s.grant_ctrl e) (s.grant_up e) fun b => by
    rw [(s.grant_account e b).1, (s.grant_account e b).2]
    exact ⟨Eq.refl _, id⟩

@[simp] theorem State.scanOver_ctrl (q : List AdmEntry) (m : Marks) (s : State) :
    (State.scanOver q m s).ctrl = s.ctrl := by
  induction q generalizing m s with
  | nil => rfl
  | cons e rest ih =>
    unfold State.scanOver
    repeat' split
    all_goals simp [ih]

@[simp] theorem State.scanOver_up (q : List AdmEntry) (m : Marks) (s : State) (j : SlotId) :
    (State.scanOver q m s).up j = s.up j := by
  induction q generalizing m s with
  | nil => rfl
  | cons e rest ih =>
    unfold State.scanOver
    repeat' split
    all_goals simp [ih]

@[simp] theorem State.scan_ctrl (s : State) : s.scan.ctrl = s.ctrl := by
  unfold State.scan
  split <;> simp

@[simp] theorem State.scan_up (s : State) (j : SlotId) : s.scan.up j = s.up j := by
  unfold State.scan
  split <;> simp

theorem State.grant_entriesOf_ne (s : State) (e : AdmEntry) (h : e.slot ≠ i) :
    (s.grant e).entriesOf i = s.entriesOf i := by
  rw [State.entriesOf, State.grant_queue, List.filter_filter]
  refine List.filter_congr fun f _ => ?_
  by_cases hf : f.slot = i
  · simp [hf, Ne.symm h]
  · simp [hf]

/-- The grant of another slot's entry leaves a slot that stands. -/
theorem State.Stands.grant_ne (h : s.Stands i k x) {e : AdmEntry} (he : e.slot ≠ i) :
    (s.grant e).Stands i k x := by
  have hkeep := (State.Keeps.rfl s).grant e
  refine ⟨?_, by rw [(s.grant_account e _).2]; exact h.safe⟩
  rw [State.grant_work_ne s e he.symm, s.grant_entriesOf_ne e he, hkeep.profile, hkeep.now, hkeep.loader]
  exact h.place

/-- The grant of its own entry. -/
theorem State.Stands.grant_self {kind : Kind} (h : s.Stands i (some kind) x) (hw : s.work i = x)
    (hl : s.loader.readState ≠ .powerOnRead) :
    (s.grant (x.entry i kind)).Stands i (some kind) x := by
  have hkeep := (State.Keeps.rfl s).grant (x.entry i kind)
  have hwork := s.grant_work_self (x.entry i kind)
  change (s.grant (x.entry i kind)).work i = (s.work i).enter s.profile s.now kind.target true false at hwork
  refine ⟨.inr ⟨kind, rfl, by rwa [hkeep.loader], ?_, ?_⟩, by rw [(s.grant_account _ _).2]; exact h.safe⟩
  · rw [hwork, hw, hkeep.profile, hkeep.now]
  · rw [State.entriesOf_eq_nil]
    intro f hf
    rw [State.grant_queue] at hf
    have := (List.mem_filter.mp hf).2
    simpa [Slot.entry] using this

/-- The scan over entries of which those of slot i are none, or the one of its raising step. -/
theorem State.Stands.scanOver (q : List AdmEntry) (m : Marks) (h : s.Stands i k x)
    (hl : s.loader.readState ≠ .powerOnRead)
    (hq : q.filter (fun e => e.slot == i) = []
      ∨ (s.work i = x ∧ ∃ kind, k = some kind ∧ q.filter (fun e => e.slot == i) = [x.entry i kind])) :
    State.Bears i k x s (State.scanOver q m s) := by
  induction q generalizing s m with
  | nil => exact ⟨State.Leaves.rfl, h⟩
  | cons e rest ih =>
    have hskip : ∀ m', State.Bears i k x s (State.scanOver rest m' s) := fun m' => by
      refine ih m' h hl ?_
      by_cases he : e.slot = i
      · rcases hq with hn | ⟨-, kind, -, hn⟩
        · simp [he] at hn
        · rw [List.filter_cons_of_pos (by simp [he])] at hn
          exact .inl (List.cons.inj hn).2
      · rwa [List.filter_cons_of_neg (by simp [he])] at hq
    have hgrant : State.Bears i k x s (State.scanOver rest m (s.grant e)) := by
      have hl' : (s.grant e).loader.readState ≠ .powerOnRead := by
        rwa [((State.Keeps.rfl s).grant e).loader]
      have hstep : State.Bears i k x (s.grant e) (State.scanOver rest m (s.grant e)) := by
        by_cases he : e.slot = i
        · rcases hq with hn | ⟨hw, kind, hk, hn⟩
          · simp [he] at hn
          · rw [List.filter_cons_of_pos (by simp [he])] at hn
            obtain ⟨rfl, hrest⟩ := List.cons.inj hn
            subst hk
            exact ih m (h.grant_self hw hl) hl' (.inl hrest)
        · refine ih m (h.grant_ne he) hl' ?_
          rw [List.filter_cons_of_neg (by simp [he])] at hq
          rwa [State.grant_work_ne s e (Ne.symm he)]
      exact ⟨(State.Leaves.grant s e).trans hstep.1, hstep.2⟩
    unfold State.scanOver
    repeat' split
    all_goals first | exact hgrant | exact hskip _

theorem State.Stands.scan (h : s.Stands i k x) : State.Bears i k x s s.scan := by
  unfold State.scan
  split
  · exact ⟨State.Leaves.rfl, h⟩
  · next hl =>
    refine h.scanOver _ _ hl ?_
    rcases h.place with ⟨hw, he⟩ | ⟨kind, -, -, -, he⟩
    · cases k with
      | none => exact .inl he
      | some kind => exact .inr ⟨hw, kind, rfl, he⟩
    · exact .inl he

end scan

/-! ## OVERDRAW, shedding and the reactions -/

section shed

variable {i : SlotId} {k : Option Kind} {x : Slot} {s t : State}

theorem State.Bears.of_stands (h : s.Stands i k x) : State.Bears i k x s s := ⟨State.Leaves.rfl, h⟩

theorem State.Bears.andThen {u : State} (h : State.Bears i k x s t)
    (hn : t.Stands i k x → State.Bears i k x t u) : State.Bears i k x s u :=
  ⟨h.1.trans (hn h.2).1, (hn h.2).2⟩

theorem State.Bears.scan (h : State.Bears i k x s t) : State.Bears i k x s t.scan := h.andThen (·.scan)

/-- An operation on another slot leaves a slot that stands. -/
theorem State.Stands.of_onlyAt {j : SlotId} (h : s.Stands i k x) (o : s.OnlyAt j t) (hk : s.Keeps t)
    (hj : i ≠ j) : t.Stands i k x := by
  refine ⟨?_, by rw [o.bank]; exact h.safe⟩
  rw [o.others i hj, o.entriesOf_eq hj, hk.profile, hk.now, hk.loader]
  exact h.place

theorem State.Stands.orderDown_ne {j : SlotId} (h : s.Stands i k x) (hj : i ≠ j) :
    State.Bears i k x s (s.orderDown j) := by
  have o : s.OnlyAt j (s.orderDown j) := State.OnlyAt.rfl.orderDown
  have hk := (State.Keeps.rfl s).orderDown j
  exact ⟨o.leaves hk hj, h.of_onlyAt o hk hj⟩

theorem State.Stands.shedRounds (h : s.Stands i k x) (n : Nat) (b : BankId)
    (hb : (s.bank b).overdraw = true) : State.Bears i k x s (State.shedRounds n b s) := by
  induction n generalizing s with
  | zero => exact .of_stands h
  | succ n ih =>
    unfold State.shedRounds
    split
    · split
      · exact .of_stands h
      · next j hj =>
        have hne : i ≠ j := by
          rintro rfl
          have := State.shedChoice_candidate hj
          rw [h.not_candidate hb] at this
          cases this
        have o : s.OnlyAt j (s.orderDown j) := State.OnlyAt.rfl.orderDown
        exact (h.orderDown_ne hne).andThen fun h' => ih h' (by rw [o.bank]; exact hb)
    · exact .of_stands h

theorem State.Stands.clearIfFits (h : s.Stands i k x) (b : BankId) :
    State.Bears i k x s (s.clearIfFits b) := by
  unfold State.clearIfFits
  split
  · have hbank : ∀ d, ((s.modBank b fun a => { a with overdraw := false }).bank d).budget
        = (s.bank d).budget
        ∧ (((s.modBank b fun a => { a with overdraw := false }).bank d).overdraw = true →
          (s.bank d).overdraw = true) := fun d => by
      by_cases hd : d = b
      · subst hd; simp
      · simp [hd]
    have hl : s.Leaves i (s.modBank b fun a => { a with overdraw := false }) :=
      .of_ctrl ((State.Keeps.rfl s).modBank b _) rfl (fun _ => rfl) hbank
    refine State.Bears.scan ⟨hl, ⟨h.place, ?_⟩⟩
    exact h.safe.imp id fun hover => hl.clear hover
  · exact .of_stands h

theorem State.Stands.shed (h : s.Stands i k x) (b : BankId) : State.Bears i k x s (s.shed b) := by
  unfold State.shed
  split
  · next hb => exact (h.shedRounds 10 b hb).andThen (·.clearIfFits b)
  · exact .of_stands h

theorem State.Stands.sumFell (h : s.Stands i k x) (b : BankId) : State.Bears i k x s (s.sumFell b) := by
  unfold State.sumFell State.evaluate
  repeat' split
  · exact h.clearIfFits b
  · exact h.shed b
  · exact h.scan

theorem State.Stands.react (h : s.Stands i k x) (was : Slot) (j : SlotId) :
    State.Bears i k x s (State.react was j s) := by
  have h1 : State.Bears i k x s
      (if (s.slot j).charge < was.charge then s.sumFell was.ctx.map.bank else s) := by
    split
    · exact h.sumFell _
    · exact .of_stands h
  unfold State.react
  simp only
  split
  · exact h1.scan
  · exact h1

theorem State.Bears.shed (h : State.Bears i k x s t) (b : BankId) : State.Bears i k x s (t.shed b) :=
  h.andThen (·.shed b)

theorem State.Bears.react (h : State.Bears i k x s t) (was : Slot) (j : SlotId) :
    State.Bears i k x s (State.react was j t) := h.andThen (·.react was j)

theorem State.shed_of_clear {b : BankId} (h : (s.bank b).overdraw = false) : s.shed b = s := by
  simp [State.shed, h]

end shed

end Sys2Proof.Machine
end

section
/-! PROOFS. What follows a change of a slot (`State.settle`): where nothing can be served, the demand is reported and the entry
of the next raising step is placed or withdrawn, and no more. -/

namespace Sys2Proof.Machine

/-! ## Demand, and a head that waits -/

/-- A slot whose demand is that of its head entry (R108). -/
def Slot.demanding (x : Slot) : Slot := x.withPass fun a => { a with demand := demandOf a.hold }

/-- The raising step that a slot asks for (R29). -/
def Slot.raise (x : Slot) : Option Kind :=
  match x.ctx.state.nextKind with
  | none => none
  | some k => if x.ctx.state.rank < demandRank x.pass.demand then some k else none

/-- The serving stops at a head entry in a state (R109, R110). -/
def HoldEntry.Stops (e : HoldEntry) (st : SlotSt) (flight : List InFlight) : Prop :=
  match e.cmd.op.cls with
  | .media => st.holds .loaded = false
  | .attached => st.holds .idle = false
  | .raising l => st.holds l = false
  | .lowering _ => flight ≠ [] ∨ (st.settled = false ∧ e.begin = e)
  | .probe => True
  | .abort => True

/-- Nothing of a hold queue is served: a fence stands, or the head entry stops the serving (R109, R118). -/
def Slot.Waits (x : Slot) : Prop :=
  x.fence = true ∨ ∀ e ∈ x.pass.hold.head?, e.Stops x.ctx.state x.pass.flight

/-- A slot has reported its demand, asks for the step given, and has nothing to serve. -/
structure Slot.Resting (x : Slot) (k : Option Kind) : Prop where
  waits : x.Waits
  demand : x.pass.demand = demandOf x.pass.hold
  raise : x.raise = k

section serve

variable {i : SlotId} {k : Option Kind} {x : Slot} {s t : State}

theorem State.modSlot_eq_self {f : Slot → Slot} (h : f (s.slot i) = s.slot i) : s.modSlot i f = s := by
  apply State.ext_slots <;> try simp
  intro j
  by_cases hj : j = i
  · subst hj; simp [h]
  · simp [hj]

theorem State.modPass_eq_self {f : Passage → Passage} (h : f (s.slot i).pass = (s.slot i).pass) :
    s.modPass i f = s := by
  refine State.modSlot_eq_self ?_
  simp only [h]

theorem State.withdraw_eq_self (h : s.NoEntry i) : s.withdraw i = s := by
  rw [State.withdraw, h.filter_eq]
  rfl

theorem State.reportDemand_eq_self (h : (s.slot i).pass.demand = demandOf (s.slot i).pass.hold) :
    s.reportDemand i = s := by
  refine State.modPass_eq_self ?_
  rw [← h]

theorem State.beginHead_eq_self {e : HoldEntry} {rest : List HoldEntry}
    (h : (s.slot i).pass.hold = e :: rest) (he : e.begin = e) : s.beginHead i = s := by
  refine State.modPass_eq_self ?_
  cases hp : (s.slot i).pass with
  | mk hold flight aborts nextSeq demand =>
    rw [hp] at h
    subst h
    simp [he]

/-- A slot with nothing to serve is left by the serving (R109). -/
theorem State.serveRounds_waits (h : (s.work i).Waits) (n : Nat) : State.serveRounds n i s = s := by
  cases n with
  | zero => rfl
  | succ n =>
    unfold State.serveRounds
    rcases h with hf | hstop
    · rw [State.slot_fence, hf]; rfl
    · split
      · rfl
      · split
        · rfl
        · next e rest hhold =>
          have he : e.Stops (s.slot i).ctx.state (s.slot i).pass.flight := hstop e (by
            rw [State.slot_pass] at hhold
            rw [hhold]; rfl)
          unfold HoldEntry.Stops at he
          split <;> simp only [*] at he ⊢
          · simp [he]
          · simp [he]
          · simp [he]
          · rcases he with hn | ⟨hset, hbegin⟩
            · simp [hn]
            · simp only [hset, Bool.not_false, if_true, State.beginHead_eq_self hhold hbegin]
              split <;> rfl

theorem State.serve_waits (h : (s.work i).Waits) : s.serve i = s := State.serveRounds_waits h _

theorem Kind.target_rank (k : Kind) : k.target.rank = k.source.rank := by cases k <;> rfl

theorem Slot.raise_of_nextKind {kind : Kind} (h : x.ctx.state.nextKind = some kind) :
    x.raise = if x.ctx.state.rank < demandRank x.pass.demand then some kind else none := by
  unfold Slot.raise
  rw [h]

theorem Slot.raise_of_nextKind_none (h : x.ctx.state.nextKind = none) : x.raise = none := by
  unfold Slot.raise
  rw [h]

theorem Slot.raise_of_demand_none (h : x.pass.demand = none) : x.raise = none := by
  cases hk : x.ctx.state.nextKind with
  | none => exact Slot.raise_of_nextKind_none hk
  | some k => simp [Slot.raise_of_nextKind hk, h, demandRank]

theorem Slot.raise_some {kind : Kind} (h : x.raise = some kind) :
    x.ctx.state = kind.source ∧ x.ctx.state.rank < demandRank x.pass.demand := by
  cases hk : x.ctx.state.nextKind with
  | none => rw [Slot.raise_of_nextKind_none hk] at h; cases h
  | some k =>
    rw [Slot.raise_of_nextKind hk] at h
    by_cases hr : x.ctx.state.rank < demandRank x.pass.demand
    · rw [if_pos hr] at h
      cases h
      exact ⟨SlotSt.source_of_nextKind hk, hr⟩
    · rw [if_neg hr] at h
      cases h

theorem State.compare_of_nextKind {kind : Kind} (h : (s.slot i).ctx.state.nextKind = some kind) :
    s.compare i
      = if (s.slot i).ctx.state.rank < demandRank (s.slot i).pass.demand then s.place i kind false
        else s.withdraw i := by
  unfold State.compare
  rw [h]

/-- A slot that asks for no step has its entry withdrawn (R29). -/
theorem State.compare_withdraws (h : (s.work i).raise = none) : s.compare i = s.withdraw i := by
  cases hk : (s.slot i).ctx.state.nextKind with
  | none =>
    unfold State.compare
    rw [hk]
  | some k =>
    have hlt : ¬ (s.work i).ctx.state.rank < demandRank (s.work i).pass.demand := fun hr => by
      rw [Slot.raise_of_nextKind (x := s.work i) hk, if_pos hr] at h
      cases h
    exact (State.compare_of_nextKind hk).trans (if_neg hlt)

/-- A slot that asks for one has its entry placed (R29, R36). -/
theorem State.compare_places {kind : Kind} (h : (s.work i).raise = some kind) :
    s.compare i = s.place i kind false := by
  cases hk : (s.slot i).ctx.state.nextKind with
  | none => rw [Slot.raise_of_nextKind_none (x := s.work i) hk] at h; cases h
  | some k =>
    rw [Slot.raise_of_nextKind (x := s.work i) hk] at h
    by_cases hlt : (s.work i).ctx.state.rank < demandRank (s.work i).pass.demand
    · rw [if_pos hlt] at h
      cases h
      exact (State.compare_of_nextKind hk).trans (if_pos hlt)
    · rw [if_neg hlt] at h
      cases h

theorem Kind.nextKind_target (k : Kind) : k.target.nextKind = none := by cases k <;> rfl

/-- A head that gives a demand is no lowering entry. -/
theorem need_of_demandRank {hold : List HoldEntry} (h : 0 < demandRank (demandOf hold)) :
    ∃ e rest l, hold = e :: rest ∧ e.inProgress = false ∧ e.cmd.op.need = some l := by
  cases hold with
  | nil => simp [demandOf, demandRank] at h
  | cons e rest =>
    by_cases hp : e.inProgress = true
    · simp [demandOf, demandRank, hp] at h
    · cases hl : e.cmd.op.need with
      | none => simp [demandOf, demandRank, hp, hl] at h
      | some l => exact ⟨e, rest, l, rfl, by simpa using hp, hl⟩

theorem HoldEntry.Stops.of_rank {e : HoldEntry} {st st' : SlotSt} {w : List InFlight} {l : Level}
    (h : e.Stops st w) (hl : e.cmd.op.need = some l) (hr : st'.rank = st.rank) : e.Stops st' w := by
  unfold HoldEntry.Stops at *
  unfold Op.need OpClass.need at hl
  split <;> simp_all [SlotSt.holds]

/-- A slot that waits still waits when it is granted the step it asks for (R109). -/
theorem Slot.Resting.granted {kind : Kind} (h : x.Resting (some kind)) (p : Profile) (n : Nat) :
    (x.enter p n kind.target true false).Waits := by
  obtain ⟨hst, hrank⟩ := Slot.raise_some h.raise
  rcases h.waits with hf | hstop
  · exact .inl (by simp [hf, Kind.target_powered])
  · refine .inr fun e he => ?_
    have hdem : 0 < demandRank (demandOf x.pass.hold) := by
      rw [← h.demand]
      omega
    obtain ⟨e', rest, l, hhold, -, hneed⟩ := need_of_demandRank hdem
    have hee : e' = e := by
      simp only [Slot.enter_pass, hhold, List.head?_cons, Option.mem_def, Option.some.injEq] at he
      exact he
    subst hee
    refine (hstop e' (by simpa using he)).of_rank hneed ?_
    rw [Slot.enter_state, hst, Kind.target_rank]

theorem State.Stands.waits (h : s.Stands i k x) (hr : x.Resting k) : (s.work i).Waits := by
  rcases h.place with ⟨hw, -⟩ | ⟨kind, rfl, -, hw, -⟩
  · rw [hw]; exact hr.waits
  · rw [hw]; exact hr.granted _ _

/-- A report of a slot that rests changes nothing (R29, R108). -/
theorem State.Stands.report (h : s.Stands i k x) (hr : x.Resting k) : s.report i = s := by
  have hpass := h.pass
  rw [State.report, State.reportDemand_eq_self (by rw [hpass]; exact hr.demand)]
  rcases h.place with ⟨hw, hent⟩ | ⟨kind, rfl, -, hw, hent⟩
  · cases k with
    | none =>
      rw [State.compare_withdraws (by rw [hw]; exact hr.raise)]
      exact State.withdraw_eq_self (State.entriesOf_eq_nil.mp hent)
    | some kind =>
      have hany : s.admission.queue.any (fun e => e.slot == i) = true := by
        have hmem : x.entry i kind ∈ s.entriesOf i := by rw [hent]; simp
        exact List.any_eq_true.mpr ⟨_, (List.mem_filter.mp hmem).1, by simp [Slot.entry]⟩
      rw [State.compare_places (by rw [hw]; exact hr.raise), State.place, hany]
      rfl
  · rw [State.compare_withdraws (by
      rw [hw]
      exact Slot.raise_of_nextKind_none kind.nextKind_target)]
    exact State.withdraw_eq_self (State.entriesOf_eq_nil.mp hent)

theorem State.Stands.reportAndServe (h : s.Stands i k x) (hr : x.Resting k) : s.reportAndServe i = s := by
  rw [State.reportAndServe, h.report hr]
  exact State.serve_waits (h.waits hr)

theorem State.Stands.settleEnd (h : s.Stands i k x) (hr : x.Resting k) :
    State.Bears i k x s (State.settleEnd i s) := by
  unfold State.settleEnd
  rw [h.reportAndServe hr]
  exact h.shed _

theorem State.parkTest_eq_self (h : s.park.lowering = false ∨ s.abovePark i = false) : s.parkTest i = s := by
  unfold State.parkTest
  rcases h with h | h <;> simp [h]

/-- A slot that is neither in SPUN nor in IDLE is at or below the park level (R91). -/
theorem State.abovePark_of_state (h1 : (s.slot i).ctx.state ≠ .idle) (h2 : (s.slot i).ctx.state ≠ .spun) :
    s.abovePark i = false := by
  unfold State.abovePark
  simp [h1, h2]

/-- Park control leaves a slot that stands where no lowering phase is on, or out of IDLE and SPUN. -/
theorem State.Stands.parkTest (h : s.Stands i k x)
    (hp : s.park.lowering = false ∨ (x.ctx.state ≠ .idle ∧ x.ctx.state ≠ .spun)) : s.parkTest i = s := by
  refine State.parkTest_eq_self (hp.imp id fun ⟨h1, h2⟩ => ?_)
  rcases h.place with ⟨hw, -⟩ | ⟨kind, rfl, -, hw, -⟩
  · exact State.abovePark_of_state (by rwa [State.slot_ctx, hw]) (by rwa [State.slot_ctx, hw])
  · refine State.abovePark_of_state ?_ ?_ <;> rw [State.slot_ctx, hw] <;> cases kind <;>
      simp [Kind.target]

/-- The rest of what follows a change of slot i, after its first serving. -/
theorem State.Bears.settled (h : State.Bears i k x s t) (hr : x.Resting k)
    (hp : s.park.lowering = false ∨ (x.ctx.state ≠ .idle ∧ x.ctx.state ≠ .spun)) :
    State.Bears i k x s (State.settleEnd i (t.parkTest i)) := by
  rw [h.2.parkTest (by rwa [h.1.keeps.park])]
  exact h.andThen (·.settleEnd hr)

/-! ## The first report -/

theorem Slot.demanding_raise_some {kind : Kind} (h : x.demanding.raise = some kind) : x.pass.hold ≠ [] := by
  intro hn
  obtain ⟨-, hr⟩ := Slot.raise_some h
  simp [Slot.demanding, Slot.withPass, hn, demandOf, demandRank] at hr

theorem State.work_report_demand (s : State) (i : SlotId) :
    (s.reportDemand i).work i = (s.work i).demanding := State.work_reportDemand s i

theorem State.reportDemand_leaves (s : State) (i : SlotId) : s.Leaves i (s.reportDemand i) :=
  State.OnlyAt.rfl.reportDemand.leaves_self ((State.Keeps.rfl s).reportDemand i) (State.up_modPass _ _ _ _)

theorem State.withdraw_leaves (s : State) (i : SlotId) : s.Leaves i (s.withdraw i) :=
  State.OnlyAt.rfl.withdraw.leaves_self ((State.Keeps.rfl s).withdraw i) rfl

theorem State.setQueue_leaves (s : State) (i : SlotId) (q : List AdmEntry) : s.Leaves i (s.setQueue q) :=
  .of_ctrl ((State.Keeps.rfl s).setQueue q) rfl (fun _ => rfl) fun _ => ⟨rfl, id⟩

/-- Where a slot asks for no step, its report withdraws its entry (R29). -/
theorem State.report_withdraws (h : (s.work i).demanding.raise = none) :
    s.report i = (s.reportDemand i).withdraw i :=
  State.compare_withdraws (by rwa [State.work_report_demand])

/-- Where it asks for one and has no entry, the entry is placed, with a scan (R29, R36). -/
theorem State.report_places {kind : Kind} (h : (s.work i).demanding.raise = some kind) (hn : s.NoEntry i) :
    s.report i = ((s.reportDemand i).setQueue
      (s.admission.queue ++ [(s.work i).demanding.entry i kind])).scan := by
  have hany : s.admission.queue.any (fun e => e.slot == i) = false := by
    rw [List.any_eq_false]
    intro e he
    simpa using hn e he
  rw [State.report, State.compare_places (by rwa [State.work_report_demand]), State.place,
    State.reportDemand_queue, hany, ← State.work_report_demand]
  rfl

/-- The report of a slot with no entry, or with no step to ask for (R29, R108). -/
theorem State.report_bears (hn : s.NoEntry i ∨ (s.work i).demanding.raise = none)
    (hs : (s.work i).demanding.raise = none →
      (s.work i).Busy ∨ (s.bank (s.work i).ctx.map.bank).overdraw = false) :
    State.Bears i (s.work i).demanding.raise (s.work i).demanding s (s.report i) := by
  cases hr : (s.work i).demanding.raise with
  | none =>
    rw [State.report_withdraws hr]
    refine ⟨(s.reportDemand_leaves i).trans ((s.reportDemand i).withdraw_leaves i), ?_⟩
    exact .of_work (s.work_report_demand i) (State.entriesOf_eq_nil.mp (State.withdraw_entriesOf _ i)) (hs hr)
  | some kind =>
    have hno : s.NoEntry i := hn.resolve_right (by simp [hr])
    rw [State.report_places hr hno]
    refine State.Bears.scan ⟨(s.reportDemand_leaves i).trans (State.setQueue_leaves _ i _), ?_, ?_⟩
    · refine .inl ⟨s.work_report_demand i, ?_⟩
      have h1 : s.admission.queue.filter (fun e => e.slot == i) = [] := State.entriesOf_eq_nil.mpr hno
      simp [State.entriesOf, h1, Slot.entry]
    · exact .inl (.inl (Slot.demanding_raise_some hr))

/-- The slot rests once it has reported a demand that nothing serves. -/
theorem Slot.resting_demanding (h : x.Waits) : x.demanding.Resting x.demanding.raise := ⟨h, rfl, rfl⟩

/-- What follows a change of slot i of which nothing can be served (R29, R108, R109). -/
theorem State.settle_bears (hw : (s.work i).Waits)
    (hn : s.NoEntry i ∨ (s.work i).demanding.raise = none)
    (hs : (s.work i).demanding.raise = none →
      (s.work i).Busy ∨ (s.bank (s.work i).ctx.map.bank).overdraw = false)
    (hp : s.park.lowering = false ∨ ((s.work i).ctx.state ≠ .idle ∧ (s.work i).ctx.state ≠ .spun)) :
    State.Bears i (s.work i).demanding.raise (s.work i).demanding s (State.settle i s) := by
  have h1 := State.report_bears hn hs
  have hr := Slot.resting_demanding hw
  have hserve : (s.report i).serve i = s.report i := State.serve_waits (h1.2.waits hr)
  unfold State.settle State.reportAndServe
  rw [hserve]
  exact h1.settled hr hp

/-- The same where the slot asks for no step: nothing but its demand and its entry changes, and its bank sheds. -/
theorem State.settle_eq (hw : (s.work i).Waits) (hr : (s.work i).demanding.raise = none)
    (hp : s.park.lowering = false ∨ ((s.work i).ctx.state ≠ .idle ∧ (s.work i).ctx.state ≠ .spun)) :
    State.settle i s = ((s.reportDemand i).withdraw i).shed (s.slot i).ctx.map.bank := by
  let u := (s.reportDemand i).withdraw i
  have hwork : u.work i = (s.work i).demanding := s.work_report_demand i
  have hslot : ∀ v : State, v.work i = (s.work i).demanding → (v.slot i).ctx = (s.slot i).ctx :=
    fun v hv => by rw [State.slot_ctx, hv]; rfl
  have hserve : ∀ v : State, v.work i = (s.work i).demanding → v.serve i = v := fun v hv =>
    State.serve_waits (by rw [hv]; exact hw)
  have h1 : s.reportAndServe i = u := by
    rw [State.reportAndServe, State.report_withdraws hr]
    exact hserve u hwork
  have hraise : (u.work i).demanding.raise = none := by rw [hwork]; exact hr
  have h2 : u.reportAndServe i = u := by
    have hdem : u.reportDemand i = u := State.reportDemand_eq_self (by
      rw [State.slot_pass, hwork]
      rfl)
    rw [State.reportAndServe, State.report_withdraws hraise, hdem,
      State.withdraw_eq_self (State.entriesOf_eq_nil.mp (State.withdraw_entriesOf _ i))]
    exact hserve u hwork
  have h3 : u.parkTest i = u := by
    refine State.parkTest_eq_self (hp.imp id fun ⟨e1, e2⟩ => ?_)
    exact State.abovePark_of_state (by rw [hslot u hwork]; exact e1) (by rw [hslot u hwork]; exact e2)
  unfold State.settle State.settleEnd
  simp only [h1, h3, h2, hslot u hwork]
  rfl

/-! ## Of a slot that has an entry already, and under the power-on load -/

/-- A request for a slot that has an entry is dropped (R36). -/
theorem State.report_drops {kind : Kind} (h : (s.work i).demanding.raise = some kind) (hn : ¬ s.NoEntry i) :
    s.report i = s.reportDemand i := by
  have hany : s.admission.queue.any (fun e => e.slot == i) = true := by
    simp only [State.NoEntry, not_forall, not_not] at hn
    obtain ⟨e, he, hi⟩ := hn
    exact List.any_eq_true.mpr ⟨e, he, by simpa using hi⟩
  rw [State.report, State.compare_places (by rwa [State.work_report_demand]), State.place,
    State.reportDemand_queue, hany]
  rfl

/-- A second report of the same demand changes nothing more, where the first made no scan. -/
theorem State.report_reportDemand (hn : s.report i = s.reportDemand i) :
    (s.reportDemand i).report i = s.reportDemand i := by
  rw [State.report, State.reportDemand_eq_self (s := s.reportDemand i) (by
    rw [State.slot_pass, State.work_report_demand]
    rfl)]
  exact hn

/-- What follows a change of slot i that waits with an entry already in the queue: its bank sheds (R36). -/
theorem State.settle_drops {kind : Kind} (hw : (s.work i).Waits)
    (h : (s.work i).demanding.raise = some kind) (hn : ¬ s.NoEntry i) (hp : s.park.lowering = false) :
    State.settle i s = (s.reportDemand i).shed (s.slot i).ctx.map.bank := by
  have hwork := s.work_report_demand i
  have hserve : (s.reportDemand i).serve i = s.reportDemand i :=
    State.serve_waits (by rw [hwork]; exact hw)
  have hrep := State.report_drops h hn
  have h1 : s.reportAndServe i = s.reportDemand i := by rw [State.reportAndServe, hrep, hserve]
  have h2 : (s.reportDemand i).reportAndServe i = s.reportDemand i := by
    rw [State.reportAndServe, State.report_reportDemand hrep, hserve]
  have h3 : (s.reportDemand i).parkTest i = s.reportDemand i := State.parkTest_eq_self (.inl hp)
  have hctx : ((s.reportDemand i).slot i).ctx = (s.slot i).ctx := by rw [State.slot_ctx, hwork]; rfl
  unfold State.settle State.settleEnd
  simp only [h1, h3, h2, hctx]

/-- While the power-on load is in progress no scan is made (R38). -/
theorem State.scan_powerOn (h : s.loader.readState = .powerOnRead) : s.scan = s := by
  simp [State.scan, h]

theorem State.settle_powerOn {kind : Kind} (hw : (s.work i).Waits)
    (h : (s.work i).demanding.raise = some kind) (hn : s.NoEntry i) (hp : s.park.lowering = false)
    (hl : s.loader.readState = .powerOnRead) (ho : s.overdrawn i = false) :
    State.settle i s
      = (s.reportDemand i).setQueue (s.admission.queue ++ [(s.work i).demanding.entry i kind]) := by
  let u := (s.reportDemand i).setQueue (s.admission.queue ++ [(s.work i).demanding.entry i kind])
  have hrep : s.report i = u := by
    rw [State.report_places h hn]
    exact State.scan_powerOn hl
  have hst : u.Stands i (some kind) (s.work i).demanding := by
    have hb := State.report_bears (.inl hn) fun e => by rw [h] at e; cases e
    rw [h, hrep] at hb
    exact hb.2
  have hr : (s.work i).demanding.Resting (some kind) := h ▸ Slot.resting_demanding hw
  have h1 : s.reportAndServe i = u := by
    rw [State.reportAndServe, hrep]
    exact State.serve_waits (hst.waits hr)
  have hmap : (u.slot i).ctx.map = (s.slot i).ctx.map := hst.map
  have hover : (u.bank (u.slot i).ctx.map.bank).overdraw = false := by rw [hmap]; exact ho
  unfold State.settle State.settleEnd
  rw [h1, State.parkTest_eq_self (s := u) (.inl hp), hst.reportAndServe hr]
  exact State.shed_of_clear hover

/-! ## What is held stays with its slot -/

theorem State.grant_pass (s : State) (e : AdmEntry) (j : SlotId) :
    ((s.grant e).slot j).pass = (s.slot j).pass := by
  by_cases hj : j = e.slot
  · subst hj
    rw [State.slot_pass, State.grant_work_self]
    rfl
  · rw [State.slot_pass, State.grant_work_ne s e hj]
    rfl

theorem State.scanOver_pass (q : List AdmEntry) (m : Marks) (s : State) (j : SlotId) :
    ((State.scanOver q m s).slot j).pass = (s.slot j).pass := by
  induction q generalizing m s with
  | nil => rfl
  | cons e rest ih =>
    unfold State.scanOver
    repeat' split
    all_goals simp only [ih, State.grant_pass]

theorem State.scan_pass (s : State) (j : SlotId) : (s.scan.slot j).pass = (s.slot j).pass := by
  unfold State.scan
  split
  · rfl
  · exact State.scanOver_pass _ _ _ _

theorem State.shedRounds_pass (h : (s.slot i).pass.hold ≠ []) (n : Nat) (b : BankId) :
    ((State.shedRounds n b s).slot i).pass = (s.slot i).pass := by
  induction n generalizing s with
  | zero => rfl
  | succ n ih =>
    unfold State.shedRounds
    split
    · split
      · rfl
      · next j hj =>
        have hne : i ≠ j := by
          rintro rfl
          exact h (State.candidate_iff.mp (State.shedChoice_candidate hj)).2.2.1
        have o : s.OnlyAt j (s.orderDown j) := State.OnlyAt.rfl.orderDown
        have hpass : ((s.orderDown j).slot i).pass = (s.slot i).pass := by
          rw [State.slot_pass, State.slot_pass, o.others i hne]
        rw [ih (by rwa [hpass]), hpass]
    · rfl

/-- A slot with a command held is not shed (R47). -/
theorem State.shed_pass (h : (s.slot i).pass.hold ≠ []) (b : BankId) :
    ((s.shed b).slot i).pass = (s.slot i).pass := by
  have hrounds := State.shedRounds_pass h 10 b
  unfold State.shed State.clearIfFits
  generalize State.shedRounds 10 b s = u at hrounds ⊢
  split
  · split
    · rw [State.scan_pass, State.slot_pass, State.work_modBank]
      exact hrounds
    · exact hrounds
  · rfl

/-- What follows a change of a slot that waits leaves it its queue, and its demand is that of the head. -/
theorem State.settle_pass (hw : (s.work i).Waits) (hh : (s.slot i).pass.hold ≠ [])
    (hp : s.park.lowering = false) :
    ((State.settle i s).slot i).pass
      = { (s.slot i).pass with demand := demandOf (s.slot i).pass.hold } := by
  have hbears : s.NoEntry i ∨ (s.work i).demanding.raise = none →
      ((State.settle i s).slot i).pass
        = { (s.slot i).pass with demand := demandOf (s.slot i).pass.hold } := fun hn =>
    (State.settle_bears hw hn (fun _ => .inl (.inl hh)) (.inl hp)).2.pass
  cases hr : (s.work i).demanding.raise with
  | none => exact hbears (.inr hr)
  | some kind =>
    by_cases hn : s.NoEntry i
    · exact hbears (.inl hn)
    · have hpass : ((s.reportDemand i).slot i).pass
          = { (s.slot i).pass with demand := demandOf (s.slot i).pass.hold } := by
        rw [State.slot_pass, State.work_report_demand]
        rfl
      rw [State.settle_drops hw hr hn hp, State.shed_pass (by rw [hpass]; exact hh), hpass]

end serve

end Sys2Proof.Machine
end

section
/-! PROOFS. The answers that the part makes: their frames as the claims spell them, the states from which a frame goes up
alike, and the commands that are answered at arrival. -/

namespace Sys2Proof.Machine

/-! ## The part's own answers -/

theorem fieldOfSlot_of_slotOfField {f : SlotField} {i : SlotId} (h : slotOfField f = some i) :
    f = fieldOfSlot i := by
  unfold slotOfField at h
  split at h
  · cases h
    simp [fieldOfSlot]
  · cases h

/-- The completion that the part makes is the answer of the claims (R106). -/
theorem State.partCompletion_answer (s : State) {i : SlotId} {c : Cmd} (hc : c.args.slot = fieldOfSlot i)
    (code : Byte) :
    UpFrame.completion (s.partCompletion i c code)
      = interposerAnswer c code (partResidual code c) (s.slot i).ctx.state (s.slot i).pass.hold.length := by
  simp [State.partCompletion, interposerAnswer, hc, State.hint]

theorem partResidual_full {code : Byte} (h : code ≠ codeOk) (c : Cmd) :
    partResidual code c = fullCount c.args := by simp [partResidual, h, fullCount, CmdArgs.count]

theorem State.complete_eq (s : State) {i : SlotId} {c : Cmd} (hc : c.args.slot = fieldOfSlot i) (code : Byte) :
    s.complete i c code
      = (s.handUp i (interposerAnswer c code (partResidual code c) (s.slot i).ctx.state
          (s.slot i).pass.hold.length)).active i := by
  rw [State.complete, s.partCompletion_answer hc]

/-- A refusal is an answer with the full count and a COMMAND entry (R106). -/
theorem State.refuse_eq (s : State) {i : SlotId} {op : Op} {c : CmdArgs} (hc : c.slot = fieldOfSlot i)
    {code : Byte} (h : code ≠ codeOk) (sense : SenseCode) :
    s.refuse i { op := op, args := c } code sense
      = ((s.handUp i (interposerAnswer { op := op, args := c } code (fullCount c) (s.slot i).ctx.state
          (s.slot i).pass.hold.length)).active i).submit i sense (some c.tag) none (s.slot i).ctx.state
          (s.slot i).pass.hold.length := by
  rw [State.refuse, State.completeSensed, s.complete_eq hc, partResidual_full h]

theorem State.grant_notice (s : State) (e : AdmEntry) (j : SlotId) :
    ((s.grant e).slot j).notice = (s.slot j).notice := by
  by_cases hj : j = e.slot
  · subst hj
    rw [State.slot_notice, State.grant_work_self]
    rfl
  · rw [State.slot_notice, State.grant_work_ne s e hj]
    rfl

theorem State.scanOver_notice (q : List AdmEntry) (m : Marks) (s : State) (j : SlotId) :
    ((State.scanOver q m s).slot j).notice = (s.slot j).notice := by
  induction q generalizing m s with
  | nil => rfl
  | cons e rest ih =>
    unfold State.scanOver
    repeat' split
    all_goals simp only [ih, State.grant_notice]

/-! ## A frame goes up alike -/

/-- The frames that wait upstream and the fields of the transit word are the same in both states. -/
structure State.UpAlike (s t : State) : Prop where
  ctrl : t.ctrl = s.ctrl
  up : ∀ j, t.up j = s.up j
  notice : ∀ j, (t.slot j).notice = (s.slot j).notice
  motion : t.motion = s.motion
  park : t.park = s.park
  loader : t.loader = s.loader
  dock : t.admission.dock = s.admission.dock

section alike

variable {s t u : State}

theorem State.UpAlike.rfl : s.UpAlike s :=
  ⟨Eq.refl _, fun _ => Eq.refl _, fun _ => Eq.refl _, Eq.refl _, Eq.refl _, Eq.refl _, Eq.refl _⟩

theorem State.UpAlike.trans (h : s.UpAlike t) (k : t.UpAlike u) : s.UpAlike u :=
  ⟨k.ctrl.trans h.ctrl, fun j => (k.up j).trans (h.up j), fun j => (k.notice j).trans (h.notice j),
    k.motion.trans h.motion, k.park.trans h.park, k.loader.trans h.loader, k.dock.trans h.dock⟩

/-- A change of a slot that leaves its upstream queue and its notice. -/
theorem State.UpAlike.modSlot (h : s.UpAlike t) (i : SlotId) (f : Slot → Slot)
    (hf : ∀ x : Slot, (f x).upstream = x.upstream ∧ (f x).notice = x.notice) :
    s.UpAlike (t.modSlot i f) := by
  refine h.trans ⟨Eq.refl _, fun j => State.up_modSlot t i j f fun x => (hf x).1, fun j => ?_,
    Eq.refl _, Eq.refl _, Eq.refl _, Eq.refl _⟩
  rw [State.slot_modSlot]
  split
  · exact (hf _).2
  · exact Eq.refl _

theorem State.UpAlike.setQueue (h : s.UpAlike t) (q : List AdmEntry) : s.UpAlike (t.setQueue q) :=
  ⟨h.ctrl, h.up, h.notice, h.motion, h.park, h.loader, h.dock⟩

theorem State.UpAlike.withdraw (h : s.UpAlike t) (i : SlotId) : s.UpAlike (t.withdraw i) := h.setQueue _

theorem State.UpAlike.modCtx (h : s.UpAlike t) (i : SlotId) (f : SlotContext → SlotContext) :
    s.UpAlike (t.modCtx i f) := h.modSlot i _ fun _ => ⟨Eq.refl _, Eq.refl _⟩
theorem State.UpAlike.modPass (h : s.UpAlike t) (i : SlotId) (f : Passage → Passage) :
    s.UpAlike (t.modPass i f) := h.modSlot i _ fun _ => ⟨Eq.refl _, Eq.refl _⟩
theorem State.UpAlike.active (h : s.UpAlike t) (i : SlotId) : s.UpAlike (t.active i) :=
  h.modSlot i _ fun _ => ⟨Eq.refl _, Eq.refl _⟩
theorem State.UpAlike.touchIdle (h : s.UpAlike t) (i : SlotId) : s.UpAlike (t.touchIdle i) :=
  h.modSlot i _ fun _ => ⟨Eq.refl _, Eq.refl _⟩
theorem State.UpAlike.enter (h : s.UpAlike t) (i : SlotId) (st : SlotSt) (r k : Bool) :
    s.UpAlike (t.enter i st r k) := (h.withdraw i).modSlot i _ fun _ => ⟨Eq.refl _, Eq.refl _⟩

theorem State.UpAlike.scan (h : s.UpAlike t) : s.UpAlike t.scan := by
  have hk := (State.Keeps.rfl t).scan
  refine h.trans ⟨t.scan_ctrl, t.scan_up, fun j => ?_, hk.motion, hk.park, hk.loader, hk.dock⟩
  unfold State.scan
  split
  · exact Eq.refl _
  · exact State.scanOver_notice _ _ _ j

/-- A slot that takes an enabling entry of the profile hands nothing up (R5). -/
theorem State.UpAlike.takeMap (h : s.UpAlike t) {i : SlotId} (he : (t.profile.slots[i]).enabled = true) :
    s.UpAlike (t.takeMap i) := by
  unfold State.takeMap
  simp only [he, if_true]
  split
  · exact ((h.setQueue _).modCtx i _).modCtx i _
  · exact (h.setQueue _).modCtx i _

theorem State.UpAlike.upstreamAt (h : s.UpAlike t) (p : Fin 11) : t.upstreamAt p = s.upstreamAt p := by
  rcases positionOf_cases p with ⟨j, rfl⟩ | hp
  · rw [State.upstreamAt_positionOf, State.upstreamAt_positionOf, h.up]
  · rw [State.upstreamAt_badSlot t hp, State.upstreamAt_badSlot s hp, h.ctrl]

theorem State.UpAlike.firstWaiting (h : s.UpAlike t) (l : List (Fin 11)) :
    t.firstWaiting l = s.firstWaiting l := by
  induction l with
  | nil => rfl
  | cons p rest ih => simp only [State.firstWaiting, h.upstreamAt, ih]

theorem State.UpAlike.setCtrl (h : s.UpAlike t) (c : CtrlPort) :
    State.UpAlike { s with ctrl := c } { t with ctrl := c } :=
  ⟨Eq.refl _, h.up, h.notice, h.motion, h.park, h.loader, h.dock⟩

theorem State.UpAlike.setUpstream (h : s.UpAlike t) (i : SlotId) (f : List UpFrame → List UpFrame) :
    State.UpAlike (s.modSlot i fun x => { x with upstream := f x.upstream })
      (t.modSlot i fun x => { x with upstream := f x.upstream }) := by
  have hslot : ∀ (v : State) (j : SlotId),
      (v.modSlot i fun x => { x with upstream := f x.upstream }).up j
        = if j = i then f (v.up j) else v.up j := fun v j => by
    simp only [State.up, State.slot_modSlot]
    split <;> rfl
  refine ⟨h.ctrl, fun j => by rw [hslot, hslot, h.up], fun j => ?_, h.motion, h.park, h.loader, h.dock⟩
  simp only [State.slot_modSlot]
  split <;> exact h.notice j

theorem State.UpAlike.setUpstreamAt (h : s.UpAlike t) (p : Fin 11) (q : List UpFrame) :
    (s.setUpstreamAt p q).UpAlike (t.setUpstreamAt p q) := by
  unfold State.setUpstreamAt
  split
  · exact h.setUpstream _ fun _ => q
  · rw [h.ctrl]
    exact h.setCtrl _

theorem State.UpAlike.anySlotNotice (h : s.UpAlike t) : t.anySlotNotice = s.anySlotNotice := by
  have hv : t.slots.map (·.notice) = s.slots.map (·.notice) := by
    apply Vector.ext
    intro k hk
    have hn := h.notice ⟨k, hk⟩
    simpa [State.slot] using hn
  have hl : ∀ v : State, v.anySlotNotice = (v.slots.map (·.notice)).toList.any id := fun v => by
    simp [State.anySlotNotice]
  rw [hl, hl, hv]

theorem State.UpAlike.transitWord (h : s.UpAlike t) : t.transitWord = s.transitWord := by
  simp only [State.transitWord, h.anySlotNotice, h.motion, h.park, h.dock, h.ctrl, h.loader]

theorem State.UpAlike.beginUpstream (h : s.UpAlike t) (f : UpFrame) :
    (s.beginUpstream f).UpAlike (t.beginUpstream f) := by
  unfold State.beginUpstream
  cases f <;> simp only [h.transitWord, h.ctrl] <;> exact h.setCtrl _

theorem State.UpAlike.pickUpstream (h : s.UpAlike t) : s.pickUpstream.UpAlike t.pickUpstream := by
  unfold State.pickUpstream
  simp only [h.ctrl, h.firstWaiting, h.upstreamAt]
  split
  · exact h
  · split
    · exact h
    · next p _ =>
      split
      · exact h
      · next f rest _ =>
        have hs := h.setUpstreamAt p rest
        rw [hs.ctrl]
        exact (hs.setCtrl _).beginUpstream f

/-- Frames of one slot handed up from states alike leave them alike. -/
theorem State.UpAlike.handUp (h : s.UpAlike t) (i : SlotId) (f : UpFrame) :
    (s.handUp i f).UpAlike (t.handUp i f) := (h.setUpstream i (· ++ [f])).pickUpstream

end alike

/-! ## Answers at arrival -/

/-- The command of an operation that is spelled as its own constructor arrives as such (log entry 25). -/
theorem exec_ofCommand {op : Op} (h : op.wellFormed = true) (c : CmdArgs) (s : State) :
    exec (Instr.ofCommand op c) s = .next (s.arriveOp op c) := by
  cases op with
  | other code =>
    have hcode : Op.ofCode code = .other code := by
      have hne : ∀ n ∈ namedOpCodes, code ≠ n := fun n hn e => by
        subst e
        simp [Op.wellFormed, hn] at h
      simp only [namedOpCodes, List.forall_mem_cons] at hne
      obtain ⟨h1, h2, h3, h4, h5, h6, h7, h8, h9, h10, h11, h12, h13, -⟩ := hne
      unfold Op.ofCode
      rw [if_neg h1, if_neg h2, if_neg h3, if_neg h4, if_neg h5, if_neg h6, if_neg h7, if_neg h8, if_neg h9,
        if_neg h10, if_neg h11, if_neg h12, if_neg h13]
    change Host.Outcome.next (s.arriveOp (Op.ofCode code) c) = _
    rw [hcode]
  | read | write | verify | flush | identify | sense | probe | spinUp | loadHeads | unloadHeads | spinDown
  | powerOff | abort => rfl

theorem Op.wellFormed_of_cls {op : Op} (h : op.cls ≠ .attached) : op.wellFormed = true := by
  cases op <;> first | rfl | exact absurd rfl h

/-- A command whose slot field names a slot arrives there (R99, R143). -/
theorem exec_command {s : State} (hr : s.CtrlReady) {op : Op} (hw : op.wellFormed = true) {c : CmdArgs}
    {i : SlotId} (hi : slotOfField c.slot = some i) :
    exec (Instr.ofCommand op c) s = .next (s.arriveCommand i { op := op, args := c }) := by
  rw [exec_ofCommand hw, State.arriveOp_ready hr, State.takeCommand]
  simp [hi]

/-- Settles O13: the answer goes up and the slot is active. -/
theorem probeIsAnswered : Obligations.ProbeIsAnswered := by
  unfold Obligations.ProbeIsAnswered
  intro s i c hr hi
  let t := (s.handUp i (interposerAnswer { op := .probe, args := c } 0x00 0 (s.slot i).ctx.state
    (s.slot i).pass.hold.length)).active i
  have hwork : t.work i = (s.work i).act s.profile s.now := by simp [t]
  refine ⟨?_, ?_, ?_, ?_, ?_⟩
  · rw [show Instr.probe c = Instr.ofCommand .probe c from rfl, exec_command hr rfl hi]
    exact congrArg _ (s.complete_eq (c := { op := .probe, args := c }) (fieldOfSlot_of_slotOfField hi) 0x00)
  · rw [State.slot_ctx, hwork]; rfl
  · rw [State.slot_pass, hwork]; rfl
  · rw [State.slot_ctx, hwork]; rfl
  · rw [State.slot_ctx, hwork]
    exact Slot.act_idleTimer s.profile s.now (s.work i)

end Sys2Proof.Machine
end

section
/-! PROOFS. Commands at arrival: refused, held below the level they need or behind what waits, and taken at a slot whose FAULT
is acknowledged. -/

namespace Sys2Proof.Machine

/-! ## The way of a command to its admission -/

section arrive

variable {s : State} {i : SlotId} {op : Op} {c : CmdArgs}

/-- Every command but PROBE, ABORT and an answered SENSE comes to the checks of its slot (R99, R101). -/
theorem State.arriveCommand_checked (hp : op ≠ .probe) (ha : op ≠ .abort)
    (hs : op = .sense → (s.slot i).record = none ∧ (s.slot i).ctx.state.powered = true) :
    s.arriveCommand i { op := op, args := c } = s.arriveChecked i { op := op, args := c } := by
  cases op with
  | probe => exact absurd rfl hp
  | abort => exact absurd rfl ha
  | sense =>
    obtain ⟨h1, h2⟩ := hs rfl
    simp [State.arriveCommand, State.arriveSense, h1, h2]
  | read | write | verify | flush | identify | spinUp | loadHeads | unloadHeads | spinDown | powerOff
  | other code => rfl

/-- Out of EMPTY and FAULT the checks are those of the admission (R102). -/
theorem State.arriveChecked_admit {cmd : Cmd} (h1 : (s.slot i).ctx.state ≠ .empty)
    (h2 : (s.slot i).ctx.state ≠ .fault) : s.arriveChecked i cmd = s.admitCommand i cmd := by
  unfold State.arriveChecked
  split
  · next e => exact absurd e h1
  · next e => exact absurd e h2
  · rfl

theorem exec_admit (hr : s.CtrlReady) (hw : op.wellFormed = true) (hi : slotOfField c.slot = some i)
    (hp : op ≠ .probe) (ha : op ≠ .abort)
    (hs : op = .sense → (s.slot i).record = none ∧ (s.slot i).ctx.state.powered = true)
    (h1 : (s.slot i).ctx.state ≠ .empty) (h2 : (s.slot i).ctx.state ≠ .fault) :
    exec (Instr.ofCommand op c) s = .next (s.admitCommand i { op := op, args := c }) := by
  rw [exec_command hr hw hi, State.arriveCommand_checked hp ha hs, State.arriveChecked_admit h1 h2]

/-- A command that passes its checks and cannot be forwarded is held (R105). -/
theorem State.admitCommand_holds {cmd : Cmd} (hu : (s.slot i).pass.inUse cmd.args.tag = false)
    (hl : (s.lock && cmd.op.above s.profile.parkLevel) = false)
    (hf : cmd.op.isSpindle = true ∨ (s.slot i).pass.hold ≠ [] ∨ (s.slot i).fence = true
      ∨ ∃ l, cmd.op.need = some l ∧ (s.slot i).ctx.state.holds l = false) :
    s.admitCommand i cmd = State.settle i (s.hold i cmd) := by
  unfold State.admitCommand
  rw [hu, hl]
  simp only [Bool.false_eq_true, if_false]
  rw [if_neg]
  rcases hf with h | h | h | ⟨l, hneed, hlv⟩
  · simp [h]
  · simp [h]
  · simp [h]
  · simp [hneed, hlv]

theorem Op.isSpindle_raising {l : Level} (h : op.cls = .raising l) : op.isSpindle = true := by
  simp [Op.isSpindle, h]

theorem Op.isSpindle_lowering {l : Level} (h : op.cls = .lowering l) : op.isSpindle = true := by
  simp [Op.isSpindle, h]

theorem Op.need_raising {l : Level} (h : op.cls = .raising l) : op.need = some l := by
  simp [Op.need, OpClass.need, h]

theorem Op.need_lowering {l : Level} (h : op.cls = .lowering l) : op.need = none := by
  simp [Op.need, OpClass.need, h]

theorem Op.ne_probe_of_need {l : Level} (h : op.need = some l) : op ≠ .probe ∧ op ≠ .abort := by
  constructor <;> rintro rfl <;> cases h

/-- A head that needs a level which the slot does not hold stops the serving (R109). -/
theorem HoldEntry.stops_of_need {e : HoldEntry} {l : Level} {st : SlotSt} (w : List InFlight)
    (h : e.cmd.op.need = some l) (hl : st.holds l = false) : e.Stops st w := by
  unfold HoldEntry.Stops
  unfold Op.need OpClass.need at h
  split <;> simp_all

/-! ## Commands that are held (O8) -/

theorem Slot.touchIdle_ctx (p : Profile) (n : Nat) (x : Slot) :
    (x.touchIdle p n).ctx = { x.ctx with idleTimer := x.idleFrom p n x.ctx.state } := by
  rw [← Slot.touchIdle_idleTimer]
  rfl

/-- A held command's slot, before its demand is reported (R105). -/
theorem State.hold_pass (s : State) (i : SlotId) (cmd : Cmd) :
    ((s.hold i cmd).slot i).pass
      = { (s.slot i).pass with hold := (s.slot i).pass.hold ++ [newEntry s.profile s.now cmd] } := by
  rw [State.slot_pass, State.work_hold]
  rfl

theorem State.hold_ctx (s : State) (i : SlotId) (cmd : Cmd) :
    ((s.hold i cmd).slot i).ctx = { (s.slot i).ctx with idleTimer := none } := by
  rw [State.slot_ctx, State.work_hold, Slot.touchIdle_ctx, Slot.idleFrom_of_hold]
  · rfl
  · simp [Slot.withPass]

theorem State.hold_flows (s : State) (i : SlotId) (cmd : Cmd) : s.Leaves i (s.hold i cmd) :=
  (State.OnlyAt.rfl.hold cmd).leaves_self ((State.Keeps.rfl s).hold i cmd)
    (by unfold State.hold; rw [State.up_touchIdle, State.up_modPass])

/-- A command that joins a hold queue of which nothing is served stays there (R105, R107, R108). -/
theorem State.settle_hold {cmd : Cmd} (hw : ((s.hold i cmd).work i).Waits) (hp : s.park.lowering = false) :
    ((State.settle i (s.hold i cmd)).slot i).pass
        = { (s.slot i).pass with
            hold := (s.slot i).pass.hold ++ [newEntry s.profile s.now cmd]
            demand := demandOf ((s.slot i).pass.hold ++ [newEntry s.profile s.now cmd]) } := by
  have h := State.settle_pass hw (by rw [State.hold_pass]; simp) hp
  rw [h, State.hold_pass]

theorem demandOf_append {q : List HoldEntry} (e : HoldEntry) :
    demandOf (q ++ [e]) = match q with
      | [] => if e.inProgress then none else e.cmd.op.need
      | h :: _ => if h.inProgress then none else h.cmd.op.need := by
  cases q <;> rfl

/-- While the power-on load is in progress, a command that is held makes no scan: nothing else of the slot
changes but its passage and its idle timer (R38). -/
theorem State.settle_hold_powerOn {cmd : Cmd} {l : Level} (hw : ((s.hold i cmd).work i).Waits)
    (hp : s.park.lowering = false) (hl : s.loader.readState = .powerOnRead) (ho : s.overdrawn i = false)
    (hh : (s.slot i).pass.hold = []) (hneed : cmd.op.need = some l)
    (hlv : (s.slot i).ctx.state.holds l = false) :
    (∀ j, (State.settle i (s.hold i cmd)).slot j = ((s.hold i cmd).reportDemand i).slot j)
      ∧ ∀ k, (s.slot i).ctx.state.nextKind = some k → s.NoEntry i →
          (State.settle i (s.hold i cmd)).admission.queue
            = s.admission.queue ++ [(s.slot i).entry i k] := by
  have hctx : ((s.hold i cmd).work i).ctx = { (s.slot i).ctx with idleTimer := none } := s.hold_ctx i cmd
  have hover : ((s.hold i cmd).bank ((s.hold i cmd).slot i).ctx.map.bank).overdraw = false := by
    rw [State.slot_ctx, hctx]; exact ho
  have hraise : ((s.hold i cmd).work i).demanding.raise = (s.slot i).ctx.state.nextKind := by
    have hd : ((s.hold i cmd).work i).demanding.pass.demand = some l := by
      change demandOf (((s.hold i cmd).slot i).pass.hold) = some l
      rw [State.hold_pass, hh]
      exact hneed
    have hs : ((s.hold i cmd).work i).demanding.ctx.state = (s.slot i).ctx.state := by
      rw [show ((s.hold i cmd).work i).demanding.ctx = ((s.hold i cmd).work i).ctx from rfl, hctx]
    have hlt : (s.slot i).ctx.state.rank < demandRank (some l) := by
      simpa [SlotSt.holds, demandRank] using hlv
    cases hk : (s.slot i).ctx.state.nextKind with
    | none => exact Slot.raise_of_nextKind_none (by rw [hs]; exact hk)
    | some k => rw [Slot.raise_of_nextKind (by rw [hs]; exact hk), hs, hd, if_pos hlt]
  have hent : ∀ k, ((s.hold i cmd).work i).demanding.entry i k = (s.slot i).entry i k := fun k => by
    simp only [Slot.entry]
    rw [show ((s.hold i cmd).work i).demanding.ctx = ((s.hold i cmd).work i).ctx from rfl, hctx]
  cases hr : ((s.hold i cmd).work i).demanding.raise with
  | none =>
    rw [State.settle_eq hw hr (.inl hp),
      State.shed_of_clear (s := ((s.hold i cmd).reportDemand i).withdraw i) hover]
    exact ⟨fun j => rfl, fun k hk => by rw [← hraise, hr] at hk; cases hk⟩
  | some kind =>
    by_cases hn : s.NoEntry i
    · rw [State.settle_powerOn hw hr hn hp hl hover]
      refine ⟨fun j => rfl, fun k hk _ => ?_⟩
      rw [← hraise, hr] at hk
      cases hk
      rw [hent]
      rfl
    · rw [State.settle_drops hw hr hn hp, State.shed_of_clear (s := (s.hold i cmd).reportDemand i) hover]
      exact ⟨fun j => rfl, fun _ _ e => absurd e hn⟩

/-- Settles O8: the entry joins the tail, and nothing of the queue is served. -/
theorem commandsBelowLevelAreHeld : Obligations.CommandsBelowLevelAreHeld := by
  unfold Obligations.CommandsBelowLevelAreHeld
  refine ⟨?_, ?_⟩
  · intro s i op c l hr hi hw hneed hs h1 h2 hlv hh hu hl hp
    obtain ⟨hpr, hab⟩ := Op.ne_probe_of_need hneed
    have hwaits : ((s.hold i { op := op, args := c }).work i).Waits := by
      refine .inr fun e he => ?_
      have hpass := s.hold_pass i { op := op, args := c }
      rw [State.slot_pass] at hpass
      rw [hpass, hh] at he
      cases he
      refine HoldEntry.stops_of_need _ hneed ?_
      have hctx := s.hold_ctx i { op := op, args := c }
      rw [State.slot_ctx] at hctx
      rw [hctx]
      exact hlv
    refine ⟨State.settle i (s.hold i { op := op, args := c }), ?_, ?_, ?_, ?_, ?_⟩
    · rw [exec_admit hr hw hi hpr hab hs h1 h2,
        State.admitCommand_holds hu hl (.inr (.inr (.inr ⟨l, hneed, hlv⟩)))]
    · rw [State.settle_hold hwaits hp, hh]
      simp only [List.nil_append, demandOf, newEntry, Bool.false_eq_true, if_false, hneed]
    · exact (((State.Keeps.rfl s).hold i _).settle i).rest
    · exact (((State.Keeps.rfl s).hold i _).settle i).now
    · intro hload ho
      obtain ⟨hslots, hqueue⟩ := State.settle_hold_powerOn hwaits hp hload ho hh hneed hlv
      refine ⟨fun j hj => ?_, ?_, ?_, hqueue⟩
      · rw [hslots j]
        simp [State.reportDemand, State.hold, State.modPass, State.touchIdle, hj]
      · rw [hslots i, State.slot_ctx, State.work_report_demand]
        exact s.hold_ctx i _
      · rw [hslots i, State.slot_port, State.work_report_demand]
        simp [Slot.demanding, Slot.withPass, State.slot_port]
  · intro s i op c hr hi hw hpr hab hs h1 h2 hu hl hp hwait
    have hpass := s.hold_pass i { op := op, args := c }
    have hctx := s.hold_ctx i { op := op, args := c }
    have hwaits : ((s.hold i { op := op, args := c }).work i).Waits := by
      rcases hwait with hf | ⟨h, rest, l, hh, hneed, hlv⟩
      · left
        rw [State.work_hold]
        exact hf
      · refine .inr fun e he => ?_
        rw [State.slot_pass] at hpass
        rw [State.slot_ctx] at hctx
        rw [hpass, hh] at he
        cases he
        refine HoldEntry.stops_of_need _ hneed ?_
        rw [hctx]
        exact hlv
    have hholds : (s.slot i).fence = true ∨ (s.slot i).pass.hold ≠ [] := by
      rcases hwait with hf | ⟨h, rest, l, hh, -, -⟩
      · exact .inl hf
      · exact .inr (by simp [hh])
    refine ⟨State.settle i (s.hold i { op := op, args := c }), ?_, ?_, ?_, ?_⟩
    · have hp1 : op ≠ .probe := fun e => hpr (by rw [e]; rfl)
      have ha1 : op ≠ .abort := fun e => hab (by rw [e]; rfl)
      rw [exec_admit hr hw hi hp1 ha1 hs h1 h2, State.admitCommand_holds hu hl ?_]
      exact hholds.elim (fun h => .inr (.inr (.inl h))) fun h => .inr (.inl h)
    · rw [State.settle_hold hwaits hp, demandOf_append]
      rfl
    · exact (((State.Keeps.rfl s).hold i _).settle i).rest
    · exact (((State.Keeps.rfl s).hold i _).settle i).now

end arrive

end Sys2Proof.Machine
end

section
/-! PROOFS. The refusals at arrival, and the fault-acknowledge path. -/

namespace Sys2Proof.Machine

section refused

variable {s : State} {i : SlotId} {op : Op} {c : CmdArgs}

/-- With nothing but slot i's affairs changed on a link in order, every other slot stands whole. -/
theorem State.OnlyAt.othersKept {t : State} (o : s.OnlyAt i t) (h : s.UpWorking) : s.OthersKept i t := by
  intro j hj
  rw [State.slot_eq_work, State.slot_eq_work, o.others j hj, (o.upWorking h).2 j hj]

/-! ## The slot that leaves FAULT -/

/-- A slot that has left FAULT for OFF by the fault-acknowledge path (R26). -/
def Slot.acknowledged (m : SlotMap) (p : Profile) (n : Nat) (x : Slot) : Slot :=
  let y := x.intoOff p n
  { y with ctx := { y.ctx with map := m, faultAck := false, lastActivity := n, idleTimer := none } }

theorem State.work_leaveFault (he : (s.profile.slots[i]).enabled = true) :
    (s.leaveFault i).work i = (s.work i).acknowledged (s.profile.slots[i]) s.profile s.now := by
  have hk := (State.Keeps.rfl s).enterOff i
  unfold State.leaveFault
  rw [State.work_active, State.work_modCtx, State.work_enterOff_enabled he, State.modCtx_profile,
    State.modCtx_now, hk.profile, hk.now, Slot.act_unpowered _ _ rfl]
  rfl

theorem Slot.acknowledged_pass {m : SlotMap} {p : Profile} {n : Nat} {x : Slot} (h : x.pass.aborts = []) :
    (x.acknowledged m p n).pass = x.pass := by
  change ({ x.pass with aborts := [] } : Passage) = x.pass
  rw [← h]

theorem State.leaveFault_noEntry (s : State) (i : SlotId) : (s.leaveFault i).NoEntry i :=
  State.NoEntry.of_queue_eq (s.enterOff_noEntry i) rfl

theorem State.leaveFault_alike (he : (s.profile.slots[i]).enabled = true)
    (ha : (s.slot i).pass.aborts = []) : s.UpAlike (s.leaveFault i) := by
  have hoff : s.UpAlike (s.enterOff i) := by
    unfold State.enterOff
    simp only [ha, State.completeAll]
    exact ((State.UpAlike.rfl.enter i .off false false).modPass i _).takeMap he
  exact (hoff.modCtx i _).active i

/-- The slot as it stands in OFF, with nothing listed and its passage as it was. -/
theorem State.leaveFault_fields (he : (s.profile.slots[i]).enabled = true)
    (ha : (s.slot i).pass.aborts = []) :
    ((s.leaveFault i).slot i).ctx.state = .off ∧ ((s.leaveFault i).slot i).pass = (s.slot i).pass := by
  rw [State.slot_ctx, State.slot_pass, State.work_leaveFault he]
  exact ⟨rfl, Slot.acknowledged_pass ha⟩

/-! ## Spindle commands at an acknowledged FAULT (R26) -/

theorem exec_atFault (hr : s.CtrlReady) (hw : op.wellFormed = true) (hi : slotOfField c.slot = some i)
    (hsp : op.isSpindle = true) (hst : (s.slot i).ctx.state = .fault) :
    exec (Instr.ofCommand op c) s = .next (s.atFault i { op := op, args := c }) := by
  have hp : op ≠ .probe := by rintro rfl; cases hsp
  have ha : op ≠ .abort := by rintro rfl; cases hsp
  have hs : op ≠ .sense := by rintro rfl; cases hsp
  rw [exec_command hr hw hi, State.arriveCommand_checked hp ha fun e => absurd e hs]
  simp [State.arriveChecked, hst, hsp]

theorem State.atFault_raising {l : Level} (hack : (s.slot i).ctx.faultAck = true)
    (hlatch : (s.slot i).ctx.latch = false) (hop : op.cls = .raising l) :
    s.atFault i { op := op, args := c } = (s.leaveFault i).admitCommand i { op := op, args := c } := by
  unfold State.atFault
  rw [hack, hlatch]
  cases op <;> cases hop <;> rfl

/-- At a FAULT that is not acknowledged, or with its latch set, every command is refused; an acknowledged one
refuses all but the three that leave it (R26, R102). -/
theorem State.arriveChecked_fault (hst : (s.slot i).ctx.state = .fault)
    (h : op = .spinUp ∨ op = .loadHeads ∨ op = .powerOff →
      (s.slot i).ctx.faultAck = false ∨ (s.slot i).ctx.latch = true) :
    s.arriveChecked i { op := op, args := c }
      = s.refuse i { op := op, args := c } codeSlotFault .slotFault := by
  simp only [State.arriveChecked, hst]
  split
  · unfold State.atFault
    split
    · next hack =>
      simp only [Bool.and_eq_true, Bool.not_eq_true'] at hack
      have hnot : ¬ (op = .spinUp ∨ op = .loadHeads ∨ op = .powerOff) := fun e =>
        (h e).elim (fun h => by simp [h] at hack) fun h => by simp [h] at hack
      cases op with
      | spinUp | loadHeads | powerOff => exact absurd (by simp) hnot
      | read | write | verify | flush | identify | sense | probe | unloadHeads | spinDown | abort
      | other code => rfl
    · rfl
  · rfl

/-- A raising spindle command needs a level above OFF. -/
theorem Op.raising_rank {l : Level} (hop : op.cls = .raising l) : 3 ≤ l.rank := by
  cases op <;> cases hop <;> decide

theorem State.acknowledged_powersOff (hi : slotOfField c.slot = some i)
    (he : (s.profile.slots[i]).enabled = true) (hh : (s.slot i).pass.hold = [])
    (ha : (s.slot i).pass.aborts = []) :
    (s.leaveFault i).complete i { op := .powerOff, args := c } codeOk
      = ((s.leaveFault i).handUp i (interposerAnswer { op := .powerOff, args := c } 0x00 0 .off 0)).active i := by
  obtain ⟨hst, hpass⟩ := State.leaveFault_fields he ha
  rw [State.complete_eq _ (c := { op := .powerOff, args := c }) (fieldOfSlot_of_slotOfField hi), hst, hpass, hh]
  rfl

/-! A command that is held alone. -/

theorem State.heldAlone_pass {cmd : Cmd} (hh : (s.slot i).pass.hold = []) :
    ((s.hold i cmd).work i).demanding.pass
      = { (s.slot i).pass with hold := [newEntry s.profile s.now cmd], demand := cmd.op.need } := by
  have h : ((s.hold i cmd).work i).pass = _ := s.hold_pass i cmd
  change ({ ((s.hold i cmd).work i).pass with
    demand := demandOf ((s.hold i cmd).work i).pass.hold } : Passage) = _
  rw [h, hh]
  rfl

theorem State.heldAlone_ctx (s : State) (i : SlotId) (cmd : Cmd) :
    ((s.hold i cmd).work i).demanding.ctx = { (s.slot i).ctx with idleTimer := none } := s.hold_ctx i cmd

theorem State.heldAlone_record (s : State) (i : SlotId) (cmd : Cmd) :
    ((s.hold i cmd).work i).demanding.record = (s.slot i).record := by
  rw [State.work_hold]
  rfl

/-- A command that needs a level above OFF, held alone in OFF: its POWER entry is placed, or granted (R29). -/
theorem State.settle_heldInOff {cmd : Cmd} {l : Level} (hst : (s.slot i).ctx.state = .off)
    (hh : (s.slot i).pass.hold = []) (hn : s.NoEntry i) (hneed : cmd.op.need = some l) (hl : 1 < l.rank) :
    (State.settle i (s.hold i cmd)).Stands i (some .power) ((s.hold i cmd).work i).demanding := by
  have hstate : ((s.hold i cmd).work i).demanding.ctx.state = .off := by
    rw [s.heldAlone_ctx]
    exact hst
  have hpass := State.heldAlone_pass (cmd := cmd) hh
  have hwaits : ((s.hold i cmd).work i).Waits := by
    refine .inr fun e hm => ?_
    have hhold : ((s.hold i cmd).work i).pass.hold = [newEntry s.profile s.now cmd] :=
      congrArg Passage.hold hpass
    rw [hhold] at hm
    cases hm
    refine HoldEntry.stops_of_need _ hneed ?_
    have hs : ((s.hold i cmd).work i).ctx.state = .off := hstate
    have hoff : SlotSt.rank .off = 1 := rfl
    rw [hs, SlotSt.holds, hoff, decide_eq_false_iff_not]
    omega
  have hraise : ((s.hold i cmd).work i).demanding.raise = some .power := by
    have hlt : SlotSt.off.rank < demandRank (some l) := hl
    rw [Slot.raise_of_nextKind (kind := .power) (by rw [hstate]; rfl), hstate, hpass, hneed, if_pos hlt]
  have hb := State.settle_bears hwaits (.inl (State.NoEntry.of_queue_eq hn rfl))
    (fun e => by rw [hraise] at e; cases e)
    (.inr (by
      have hs : ((s.hold i cmd).work i).ctx.state = .off := hstate
      rw [hs]
      exact ⟨SlotSt.noConfusion, SlotSt.noConfusion⟩))
  rw [hraise] at hb
  exact hb.2

end refused

/-- Settles O18: each refusal is an answer with the full count, and an acknowledged FAULT is left for OFF. -/
theorem arrivalsAreRefused : Obligations.ArrivalsAreRefused := by
  unfold Obligations.ArrivalsAreRefused
  intro s op c hr hw
  refine ⟨?_, ?_, ?_, ?_, ?_, ?_, ?_, ?_⟩
  · intro hi
    rw [exec_ofCommand hw, State.arriveOp_ready hr]
    simp only [State.takeCommand, hi, State.badSlot]
    rfl
  · intro i hi hp ha hs hst
    rw [exec_command hr hw hi, State.arriveCommand_checked hp ha fun e => absurd e hs]
    simp only [State.arriveChecked, hst]
    rw [s.refuse_eq (fieldOfSlot_of_slotOfField hi) (by decide), hst]
    rfl
  · intro i hi hp ha hs h1 h2 hu
    rw [exec_admit hr hw hi hp ha hs h1 h2]
    simp only [State.admitCommand, hu, if_true]
    rw [s.refuse_eq (fieldOfSlot_of_slotOfField hi) (by decide)]
    rfl
  · intro i l hi hp ha hs h1 h2 hu hlock hneed hlt
    rw [exec_admit hr hw hi hp ha hs h1 h2]
    have habove : op.above s.profile.parkLevel = true := by simp [Op.above, hneed, hlt]
    simp only [State.admitCommand, hu, hlock, habove, Bool.and_self, Bool.false_eq_true, if_true, if_false]
    rw [s.refuse_eq (fieldOfSlot_of_slotOfField hi) (by decide)]
    rfl
  · intro i hi hheld hab
    rw [show Instr.abort c = Instr.ofCommand .abort c from rfl, exec_command hr rfl hi]
    simp only [State.arriveCommand, State.arriveAbort, hheld, hab, if_true]
    rw [s.refuse_eq (fieldOfSlot_of_slotOfField hi) (by decide)]
    rfl
  · intro i hi hheld hab hflight
    rw [show Instr.abort c = Instr.ofCommand .abort c from rfl, exec_command hr rfl hi]
    simp only [State.arriveCommand, State.arriveAbort, hheld, hab, hflight, Bool.false_eq_true, if_false]
    rw [s.complete_eq (c := { op := .abort, args := c }) (fieldOfSlot_of_slotOfField hi),
      partResidual_full (by decide)]
    rfl
  · intro i hi hp ha hs hst hcond
    rw [exec_command hr hw hi, State.arriveCommand_checked hp ha fun e => absurd e hs]
    rw [State.arriveChecked_fault hst hcond, s.refuse_eq (fieldOfSlot_of_slotOfField hi) (by decide), hst]
    rfl
  · intro i hi hst hack hlatch hen hh hab
    have hfield := fieldOfSlot_of_slotOfField hi
    have hwork := State.work_leaveFault (i := i) hen
    have hkeep : s.Keeps (s.leaveFault i) := (State.Keeps.rfl s).leaveFault i
    have halike := State.leaveFault_alike (i := i) hen hab
    have honly : s.OnlyAt i (s.leaveFault i) := State.OnlyAt.rfl.leaveFault
    obtain ⟨hoff, hpass⟩ := State.leaveFault_fields (i := i) hen hab
    refine ⟨?_, ?_, ?_⟩
    · let f := interposerAnswer { op := .powerOff, args := c } 0x00 0 .off 0
      let t := ((s.leaveFault i).handUp i f).active i
      have ht : t.work i = (s.work i).acknowledged (s.profile.slots[i]) s.profile s.now := by
        simp only [t, State.work_active, State.work_handUp, hwork]
        rw [Slot.act_unpowered _ _ rfl, State.handUp_now, hkeep.now]
        rfl
      have hup := halike.handUp i f
      refine ⟨t, ?_, ?_, ?_, ?_, ?_, ?_, ?_, ?_, ?_, ?_, fun hworking => ?_, ?_, ?_⟩
      · rw [show Instr.powerOff c = Instr.ofCommand .powerOff c from rfl, exec_atFault hr rfl hi rfl hst]
        unfold State.atFault
        rw [hack, hlatch]
        exact congrArg _ (State.acknowledged_powersOff hi hen hh hab)
      · rw [State.slot_ctx, ht]; rfl
      · rw [State.slot_ctx, ht]; rfl
      · rw [State.slot_ctx, ht]; rfl
      · rw [State.slot_ctx, ht]; rfl
      · rw [State.slot_ctx, ht]; rfl
      · rw [State.slot_pass, ht]; exact Slot.acknowledged_pass hab
      · rw [State.slot_record, ht]; rfl
      · exact (State.up_active _ i i).trans (hup.up i)
      · exact hup.ctrl
      · exact ((honly.handUp _).active).othersKept hworking.upWorking
      · exact ((hkeep.handUp i f).active i).rest
      · exact ((hkeep.handUp i f).active i).now
    · intro l hop hu hlvl
      have habove : ((s.leaveFault i).lock
          && op.above (s.leaveFault i).profile.parkLevel) = false := by
        rw [hkeep.lock, hkeep.profile]
        cases hl : s.lock with
        | false => rfl
        | true =>
          have := hlvl hl
          simp [Op.above, Op.need_raising hop]
          omega
      have hadmit := State.admitCommand_holds (s := s.leaveFault i) (i := i)
        (cmd := { op := op, args := c }) (by rw [hpass]; exact hu) habove
        (.inl (Op.isSpindle_raising hop))
      have hstands := State.settle_heldInOff (s := s.leaveFault i) (cmd := { op := op, args := c }) hoff
        (by rw [hpass]; exact hh) (s.leaveFault_noEntry i) (Op.need_raising hop)
        (by have := Op.raising_rank hop; omega)
      have hxpass := State.heldAlone_pass (s := s.leaveFault i) (cmd := { op := op, args := c })
        (by rw [hpass]; exact hh)
      have hxctx := (s.leaveFault i).heldAlone_ctx i { op := op, args := c }
      have hxrec := (s.leaveFault i).heldAlone_record i { op := op, args := c }
      rw [State.slot_record, hwork] at hxrec
      rw [State.slot_ctx, hwork] at hxctx
      rw [hpass, hkeep.profile, hkeep.now, Op.need_raising hop] at hxpass
      generalize (((s.leaveFault i).hold i { op := op, args := c }).work i).demanding = x at *
      have hk : s.Keeps (State.settle i ((s.leaveFault i).hold i { op := op, args := c })) :=
        (hkeep.hold i _).settle i
      generalize State.settle i ((s.leaveFault i).hold i { op := op, args := c }) = t at hstands hk hadmit
      refine ⟨t, ?_, ?_, ?_, fun hload => ?_, ?_, ?_, ?_, ?_, ?_, hk.rest, hk.now⟩
      · rw [exec_atFault hr hw hi (Op.isSpindle_raising hop) hst, State.atFault_raising hack hlatch hop, hadmit]
      · exact hstands.pass.trans hxpass
      · rcases hstands.place with ⟨hwk, -⟩ | ⟨kind, hkind, -, hwk, -⟩
        · left; rw [State.slot_ctx, hwk, hxctx]; rfl
        · right; cases hkind; rw [State.slot_ctx, hwk]; rfl
      · rcases hstands.place with ⟨hwk, hent⟩ | ⟨kind, hkind, hno, -, -⟩
        · refine ⟨by rw [State.slot_ctx, hwk, hxctx]; rfl, ?_⟩
          have hmem : x.entry i .power ∈ t.entriesOf i := by rw [hent]; simp
          have := (List.mem_filter.mp hmem).1
          rwa [Slot.entry, hxctx] at this
        · exact absurd (by rw [hk.loader, hload]) hno
      · rw [hstands.faultAck, hxctx]; rfl
      · rcases hstands.place with ⟨hwk, -⟩ | ⟨kind, -, -, hwk, -⟩
        · rw [State.slot_ctx, hwk, hxctx]; rfl
        · rw [State.slot_ctx, hwk]; rfl
      · rw [hstands.lastActivity, hxctx]; rfl
      · rw [hstands.map, hxctx]; rfl
      · exact hstands.record.trans hxrec
    · intro l hop hu hlock hlt
      let f := interposerAnswer { op := op, args := c } 0x45 (fullCount c) .off 0
      let t := (((s.leaveFault i).handUp i f).active i).submit i .inTransit (some c.tag) none .off 0
      have hup := halike.handUp i f
      have hadmit : (s.leaveFault i).admitCommand i { op := op, args := c } = t := by
        have habove : op.above (s.leaveFault i).profile.parkLevel = true := by
          rw [hkeep.profile]
          simp [Op.above, Op.need_raising hop, hlt]
        unfold State.admitCommand
        rw [hpass]
        simp only [hu, hkeep.lock, hlock, habove, Bool.and_self, Bool.false_eq_true, if_true, if_false]
        rw [State.refuse_eq _ hfield (by decide), hoff, hpass, hh]
        rfl
      have ht : t.work i = ((s.work i).acknowledged (s.profile.slots[i]) s.profile s.now).noted s.profile
          s.motion.state .inTransit (some c.tag) none .off 0 := by
        simp only [t, State.work_submit, State.work_active, State.work_handUp, hwork, State.active_profile,
          State.active_motion, State.handUp_profile, State.handUp_motion, State.handUp_now, hkeep.profile,
          hkeep.motion, hkeep.now]
        rw [Slot.act_unpowered _ _ rfl]
        rfl
      refine ⟨t, ?_, ?_, ?_, ?_, ?_, ?_, fun hworking => ?_, ?_, ?_⟩
      · rw [exec_atFault hr hw hi (Op.isSpindle_raising hop) hst, State.atFault_raising hack hlatch hop, hadmit]
      · rw [State.slot_ctx, ht]; rfl
      · rw [State.slot_ctx, ht]; rfl
      · rw [State.slot_pass, ht]; exact Slot.acknowledged_pass (m := s.profile.slots[i]) hab
      · rw [State.slot_record, ht]; rfl
      · exact ((State.up_submit _ i i _ _ _ _ _).trans (State.up_active _ i i)).trans (hup.up i)
      · exact (((honly.handUp _).active).submit _ _ _ _ _).othersKept hworking.upWorking
      · exact (((hkeep.handUp i f).active i).submit i _ _ _ _ _).rest
      · exact (((hkeep.handUp i f).active i).submit i _ _ _ _ _).now

end Sys2Proof.Machine
end

section
/-! PROOFS. The performance of a lowering entry at the head of a hold queue: it begins, with one step down from a settled slot
above its target, or ends at or below it. -/

namespace Sys2Proof.Machine

/-! ## What an entry into a state brings, as the claims say it -/

theorem classCharge_eq (c : ClassEntry) (st : SlotSt) : classCharge c st = ClassEntry.current c st := by
  cases st <;> rfl

theorem Slot.classIn_congr {x y : Slot} (p : Profile) (h : x.ctx.map = y.ctx.map) :
    x.classIn p = y.classIn p := by
  unfold Slot.classIn
  simp only [h]

/-- The charge of a transition that is not raising (R32). -/
theorem Slot.chargeOn_down (p : Profile) (x : Slot) {st : SlotSt} (h : st.powered = true) :
    x.chargeOn p st false = min x.charge (ClassEntry.current (x.classIn p) st) := by
  simp [Slot.chargeOn, h, classCharge_eq]

section came

variable {i : SlotId} {s t : State}

/-- A slot came into a powered state, read from its work. -/
theorem State.cameTo_of_work {st : SlotSt} {time : Nat} {x : Slot} (hcharge : x.charge = (s.slot i).charge)
    (hmap : x.ctx.map = (s.slot i).ctx.map) (hp : st.powered = true) (hst : (t.work i).ctx.state = st)
    (hc : (t.work i).charge = x.chargeOn s.profile st false)
    (hq : (t.work i).port.query = some (Profile.schedule s.profile time st))
    (hi : (s.slot i).pass.hold = [] → (s.slot i).pass.flight = [] →
      (t.work i).ctx.idleTimer = (s.slot i).idleFrom s.profile time st) : s.CameTo t i st time := by
  refine ⟨hst, ?_, hq, hi⟩
  rw [State.slot_charge, hc, Slot.chargeOn_down _ _ hp, hcharge, Slot.classIn_congr _ hmap]

theorem Slot.idleFrom_congr {x y : Slot} (p : Profile) (n : Nat) (st : SlotSt)
    (hm : y.ctx.map = x.ctx.map) (hh : y.pass.hold = [] ↔ x.pass.hold = [])
    (hf : y.pass.flight = [] ↔ x.pass.flight = []) : y.idleFrom p n st = x.idleFrom p n st := by
  simp only [Slot.idleFrom, Slot.classIn_congr p hm, hh, hf]

theorem Slot.enter_query (p : Profile) (n : Nat) {st : SlotSt} (r k : Bool) (x : Slot) (h : st.powered = true) :
    (x.enter p n st r k).port.query = some (Profile.schedule p n st) :=
  (Port.enter_powered p n x.port h).1

end came

/-! ## A lowering entry at the head -/

/-- A slot whose lowering head has begun its performance (R110). -/
def Slot.begun (x : Slot) : Slot := x.demanding.withPass Passage.begun

theorem Slot.begun_hold {x : Slot} {e : HoldEntry} {rest : List HoldEntry} (h : x.pass.hold = e :: rest) :
    x.begun.pass.hold = e.begin :: rest := by
  simp [Slot.begun, Slot.withPass, Slot.demanding, Passage.begun, h]

/-- The passage of a slot whose lowering head has begun. -/
theorem Slot.begun_pass {x : Slot} {e : HoldEntry} {rest : List HoldEntry} {l : Level}
    (h : x.pass.hold = e :: rest) (hc : e.cmd.op.cls = .lowering l) :
    x.begun.pass = { x.pass with hold := e.begin :: rest, demand := none } := by
  simp [Slot.begun, Slot.withPass, Slot.demanding, Passage.begun, h, demandOf, Op.need_lowering hc]

section lowering

variable {i : SlotId} {s : State} {e : HoldEntry} {rest : List HoldEntry} {l : Level}

theorem Slot.lowering_raise {x : Slot} (h : x.pass.hold = e :: rest) (hc : e.cmd.op.cls = .lowering l) :
    x.demanding.raise = none := by
  have hd : x.demanding.pass.demand = none := by
    simp [Slot.demanding, Slot.withPass, h, demandOf, Op.need_lowering hc]
  exact Slot.raise_of_demand_none hd

theorem HoldEntry.begin_begin (e : HoldEntry) : e.begin.begin = e.begin := rfl

/-- A slot whose lowering head is in progress, on its way down, rests. -/
theorem Slot.begun_resting {x : Slot} (h : x.pass.hold = e.begin :: rest) (hc : e.cmd.op.cls = .lowering l)
    (hd : x.pass.demand = none) (hs : x.ctx.state.settled = false) : x.Resting none where
  waits := by
    refine .inr fun g hg => ?_
    rw [h] at hg
    cases hg
    have hcls : e.begin.cmd.op.cls = .lowering l := hc
    simp only [HoldEntry.Stops, hcls]
    exact .inr ⟨hs, e.begin_begin⟩
  demand := by
    rw [hd, h]
    simp [demandOf, HoldEntry.begin]
  raise := Slot.raise_of_demand_none hd

/-- The report of a slot with a lowering head withdraws its entry (R29, R108). -/
theorem State.report_lowering (h : (s.slot i).pass.hold = e :: rest) (hc : e.cmd.op.cls = .lowering l) :
    s.report i = (s.reportDemand i).withdraw i :=
  State.report_withdraws (Slot.lowering_raise (x := s.work i) h hc)

/-- The state in which a lowering head has begun. -/
def State.performing (s : State) (i : SlotId) : State := ((s.reportDemand i).withdraw i).beginHead i

theorem State.work_performing (s : State) (i : SlotId) : (s.performing i).work i = (s.work i).begun := by
  rw [State.performing, State.work_beginHead, State.work_withdraw, State.work_report_demand]
  rfl

theorem State.performing_noEntry (s : State) (i : SlotId) : (s.performing i).NoEntry i :=
  State.NoEntry.of_queue_eq (State.entriesOf_eq_nil.mp (State.withdraw_entriesOf (s.reportDemand i) i)) rfl

theorem State.performing_onlyAt (s : State) (i : SlotId) : s.OnlyAt i (s.performing i) :=
  State.OnlyAt.rfl.reportDemand.withdraw.beginHead

theorem State.performing_keeps (s : State) (i : SlotId) : s.Keeps (s.performing i) :=
  (((State.Keeps.rfl s).reportDemand i).withdraw i).beginHead i

theorem State.performing_leaves (s : State) (i : SlotId) : s.Leaves i (s.performing i) :=
  (s.performing_onlyAt i).leaves_self (s.performing_keeps i) (by
    unfold State.performing State.beginHead
    rw [State.up_modPass, State.up_withdraw]
    exact State.up_modPass _ _ _ _)

/-- The serving of a slot with a lowering head, nothing in flight and no fence (R110). -/
theorem State.reportAndServe_lowering (h : (s.slot i).pass.hold = e :: rest)
    (hc : e.cmd.op.cls = .lowering l) (hf : (s.slot i).pass.flight = []) (hn : (s.slot i).fence = false) :
    s.reportAndServe i
      = if (s.slot i).ctx.state.settled = false then s.performing i
        else if (s.slot i).ctx.state.rank ≤ l.rank then
          State.serveRounds rest.length i (((s.performing i).finishHeld i e).report i)
        else (s.performing i).lower i := by
  have hwork : ((s.reportDemand i).withdraw i).work i = (s.work i).demanding := s.work_report_demand i
  have hfence : (((s.reportDemand i).withdraw i).slot i).fence = false := by
    rw [State.slot_fence, hwork]; exact hn
  have hhold : (((s.reportDemand i).withdraw i).slot i).pass.hold = e :: rest := by
    rw [State.slot_pass, hwork]; exact h
  have hflight : (((s.reportDemand i).withdraw i).slot i).pass.flight = [] := by
    rw [State.slot_pass, hwork]; exact hf
  have hstate : (((s.reportDemand i).withdraw i).slot i).ctx.state = (s.slot i).ctx.state := by
    rw [State.slot_ctx, hwork]; rfl
  rw [State.reportAndServe, State.report_lowering h hc, State.serve, hhold]
  simp only [List.length_cons, State.serveRounds, hfence, hhold, hc, hflight, hstate, Bool.false_eq_true,
    if_false, List.isEmpty_nil, Bool.not_true]
  cases (s.slot i).ctx.state.settled <;> rfl

/-- At a slot that is not settled the performance begins and no more (R110). -/
theorem State.settle_begins (h : (s.slot i).pass.hold = e :: rest) (hc : e.cmd.op.cls = .lowering l)
    (hf : (s.slot i).pass.flight = []) (hn : (s.slot i).fence = false)
    (hs : (s.slot i).ctx.state.settled = false) :
    (s.performing i).Stands i none (s.work i).begun
      ∧ State.settle i s = (s.performing i).shed (s.slot i).ctx.map.bank := by
  have hns : (s.work i).ctx.state ≠ .idle ∧ (s.work i).ctx.state ≠ .spun := by
    constructor <;> intro e <;> rw [State.slot_ctx, e] at hs <;> cases hs
  have hst : (s.performing i).Stands i none (s.work i).begun :=
    .of_work (s.work_performing i) (s.performing_noEntry i) (.inl (.inr (.inr hns)))
  have hr : (s.work i).begun.Resting none :=
    Slot.begun_resting (Slot.begun_hold h) hc (by exact congrArg Passage.demand (Slot.begun_pass h hc)) hs
  refine ⟨hst, ?_⟩
  have h1 : s.reportAndServe i = s.performing i := by
    rw [State.reportAndServe_lowering h hc hf hn, if_pos hs]
  have hmap : ((s.performing i).slot i).ctx.map = (s.slot i).ctx.map := hst.map
  unfold State.settle State.settleEnd
  rw [h1, hst.parkTest (.inr hns), hst.reportAndServe hr]
  simp only [hmap]

/-- The state below, to which a lowering order takes a slot in LOADED and SPUN (R7). -/
def SlotSt.below (st : SlotSt) : SlotSt := if st = .spun then .stopping else .unloading

theorem State.orderDown_below (hs : (s.slot i).ctx.state = .loaded ∨ (s.slot i).ctx.state = .spun) :
    s.orderDown i = s.enter i (s.slot i).ctx.state.below false false := by
  unfold State.orderDown
  rcases hs with e | e <;> rw [e] <;> rfl

theorem SlotSt.below_cases {st : SlotSt} (h : st = .loaded ∨ st = .spun) :
    st.below.powered = true ∧ st.below.settled = false ∧ st.below ≠ .idle ∧ st.below ≠ .spun := by
  rcases h with rfl | rfl <;> exact ⟨rfl, rfl, by decide, by decide⟩

/-- A slot with a lowering order and its reaction: it stands in the state below (R7, R33). -/
theorem State.lower_bears (hs : (s.slot i).ctx.state = .loaded ∨ (s.slot i).ctx.state = .spun) :
    State.Bears i none ((s.work i).enter s.profile s.now (s.slot i).ctx.state.below false false) s
      (s.lower i) := by
  obtain ⟨-, -, h1, h2⟩ := SlotSt.below_cases hs
  have hl : s.Leaves i (s.orderDown i) := State.OnlyAt.rfl.orderDown.leaves_self
    ((State.Keeps.rfl s).orderDown i) (by rw [State.orderDown_below hs, State.up_enter])
  have hst : (s.orderDown i).Stands i none
      ((s.work i).enter s.profile s.now (s.slot i).ctx.state.below false false) := by
    refine .of_work ?_ ?_ (.inl (.inr (.inr ⟨h1, h2⟩)))
    · rw [State.orderDown_below hs, State.work_enter]
    · rw [State.orderDown_below hs]; exact s.enter_noEntry _ _ _ _
  exact State.Bears.react ⟨hl, hst⟩ (s.slot i) i

/-- A slot that has begun a lowering entry and gone one step down for it (R110). -/
def Slot.steppedDown (p : Profile) (n : Nat) (x : Slot) : Slot :=
  x.begun.enter p n x.ctx.state.below false false

/-- Above its target, a LOADED or SPUN slot begins the performance with one step down (R110). -/
theorem State.settle_lowers (h : (s.slot i).pass.hold = e :: rest) (hc : e.cmd.op.cls = .lowering l)
    (hf : (s.slot i).pass.flight = []) (hn : (s.slot i).fence = false)
    (hs : (s.slot i).ctx.state = .loaded ∨ (s.slot i).ctx.state = .spun)
    (hr : l.rank < (s.slot i).ctx.state.rank) :
    State.Bears i none ((s.work i).steppedDown s.profile s.now) s (State.settle i s) := by
  have hserve : s.reportAndServe i = (s.performing i).lower i := by
    have hset : ¬ (s.slot i).ctx.state.settled = false := by rcases hs with e | e <;> rw [e] <;> decide
    rw [State.reportAndServe_lowering h hc hf hn, if_neg hset, if_neg (by omega)]
  have hstate : ((s.performing i).slot i).ctx.state = (s.slot i).ctx.state := by
    rw [State.slot_ctx, s.work_performing]; rfl
  have hk := s.performing_keeps i
  obtain ⟨-, hset, h1, h2⟩ := SlotSt.below_cases hs
  have hb := State.lower_bears (s := s.performing i) (i := i) (by rw [hstate]; exact hs)
  rw [hstate, s.work_performing, hk.profile, hk.now] at hb
  have hrest : ((s.work i).steppedDown s.profile s.now).Resting none :=
    Slot.begun_resting (Slot.begun_hold h) hc (congrArg Passage.demand (Slot.begun_pass h hc)) hset
  unfold State.settle
  rw [hserve]
  exact State.Bears.settled ⟨(s.performing_leaves i).trans hb.1, hb.2⟩ hrest (.inr ⟨h1, h2⟩)

end lowering

end Sys2Proof.Machine
end

section
/-! PROOFS. Lowering commands at arrival: the first step, the barrier, and the entry in progress of a slot that is not settled. -/

namespace Sys2Proof.Machine

section lowering

variable {s : State} {i : SlotId} {op : Op} {c : CmdArgs} {target : Level}

/-- The slot of a command that joins its hold queue (R105, R111). -/
theorem State.work_hold_eq (s : State) (i : SlotId) (cmd : Cmd) :
    (s.hold i cmd).work i
      = { s.work i with
          pass := { (s.work i).pass with hold := (s.work i).pass.hold ++ [newEntry s.profile s.now cmd] }
          ctx := { (s.work i).ctx with idleTimer := none } } := by
  have hctx := s.hold_ctx i cmd
  rw [State.slot_ctx, State.slot_ctx, State.work_hold] at hctx
  rw [State.work_hold, ← hctx]
  rfl

/-- A lowering command is held, whatever its slot's level (R105). -/
theorem exec_lowering (hr : s.CtrlReady) (hi : slotOfField c.slot = some i) (hop : op.cls = .lowering target)
    (hu : (s.slot i).pass.inUse c.tag = false) (h1 : (s.slot i).ctx.state ≠ .empty)
    (h2 : (s.slot i).ctx.state ≠ .fault) :
    exec (Instr.ofCommand op c) s
      = .next (State.settle i (s.hold i { op := op, args := c })) := by
  have hw : op.wellFormed = true := Op.wellFormed_of_cls (by rw [hop]; exact OpClass.noConfusion)
  have hne : op ≠ .probe ∧ op ≠ .abort ∧ op ≠ .sense := by
    refine ⟨?_, ?_, ?_⟩ <;> rintro rfl <;> cases hop
  rw [exec_admit hr hw hi hne.1 hne.2.1 (fun e => absurd e hne.2.2) h1 h2, State.admitCommand_holds hu]
  · simp [Op.above, Op.need_lowering hop]
  · exact .inl (Op.isSpindle_lowering hop)

/-- The slot with a lowering command held alone, in progress or not, and no demand. -/
def Slot.holding (p : Profile) (n : Nat) (cmd : Cmd) (inProgress : Bool) (x : Slot) : Slot :=
  { x with
    pass :=
      { x.pass with
        hold :=
          [{ cmd := cmd, origin := .new, seq := none, reissue := 0,
             deadline := if inProgress then none else some (n + p.holdMs), inProgress := inProgress }]
        demand := none }
    ctx := { x.ctx with idleTimer := none } }

theorem State.hold_begun {cmd : Cmd} (hh : (s.slot i).pass.hold = []) (hop : cmd.op.cls = .lowering target) :
    ((s.hold i cmd).work i).begun = (s.work i).holding s.profile s.now cmd true := by
  have hh : (s.work i).pass.hold = [] := hh
  rw [s.work_hold_eq, hh]
  simp only [Slot.begun, Slot.demanding, Slot.withPass, Passage.begun, List.nil_append, demandOf, newEntry,
    Op.need_lowering hop, HoldEntry.begin, Slot.holding, Bool.false_eq_true, if_false, if_true]

theorem State.hold_demanding {cmd : Cmd} (hh : (s.slot i).pass.hold = [])
    (hop : cmd.op.cls = .lowering target) :
    ((s.hold i cmd).work i).demanding = (s.work i).holding s.profile s.now cmd false := by
  have hh : (s.work i).pass.hold = [] := hh
  rw [s.work_hold_eq, hh]
  simp only [Slot.demanding, Slot.withPass, List.nil_append, demandOf, newEntry,
    Op.need_lowering hop, Slot.holding, Bool.false_eq_true, if_false]

/-- What a claim names of a slot with a queue of one, read from its work. -/
theorem State.slot_of_work {t : State} {x : Slot} (hw : t.work i = x) (hu : t.up i = s.up i) :
    t.slot i = { x with upstream := (s.slot i).upstream } := by
  rw [State.slot_eq_work, hw, hu]
  rfl

theorem State.holdPerforming_admission (s : State) (i : SlotId) (cmd : Cmd) :
    ((s.hold i cmd).performing i).admission
      = { s.admission with queue := s.admission.queue.filter (fun e => e.slot != i) } := rfl

theorem State.hold_onlyAt (s : State) (i : SlotId) (cmd : Cmd) : s.OnlyAt i (s.hold i cmd) :=
  State.OnlyAt.rfl.hold cmd

end lowering

/-- Settles O11: the serving of the new head begins its performance, or leaves it behind what is in flight. -/
theorem loweringTakesTheFirstStep : Obligations.LoweringTakesTheFirstStep := by
  unfold Obligations.LoweringTakesTheFirstStep
  intro s i op c target hr hi hop hh hu
  let cmd : Cmd := { op := op, args := c }
  have hcls : (newEntry s.profile s.now cmd).cmd.op.cls = .lowering target := hop
  have hpass : ((s.hold i cmd).slot i).pass
      = { (s.slot i).pass with hold := [newEntry s.profile s.now cmd] } := by
    have h := s.hold_pass i cmd
    rwa [hh, List.nil_append] at h
  have hhold : ((s.hold i cmd).slot i).pass.hold = [newEntry s.profile s.now cmd] := by rw [hpass]
  have hstate : ((s.hold i cmd).slot i).ctx.state = (s.slot i).ctx.state := by rw [s.hold_ctx]
  have hmap : ((s.hold i cmd).slot i).ctx.map = (s.slot i).ctx.map := by rw [s.hold_ctx]
  have hflight : ((s.hold i cmd).slot i).pass.flight = (s.slot i).pass.flight := by rw [hpass]
  have hfence : ((s.hold i cmd).slot i).fence = (s.slot i).fence := by
    rw [State.slot_fence, s.work_hold_eq]; rfl
  have hk : s.Keeps (State.settle i (s.hold i cmd)) := ((State.Keeps.rfl s).hold i cmd).settle i
  refine ⟨fun hworking hf hn hst => ?_, fun hworking hf hp h1 h2 => ?_, fun hf hn hst => ?_⟩
  · have hset : (s.slot i).ctx.state.settled = false := by
      rcases hst with e | e | e | e | e <;> rw [e] <;> rfl
    obtain ⟨hstands, hsettle⟩ := State.settle_begins hhold hcls (by rw [hflight, hf]) (by rw [hfence, hn])
      (by rw [hstate, hset])
    rw [State.hold_begun hh hop] at hstands
    rw [hmap] at hsettle
    have hb := hstands.shed (s.slot i).ctx.map.bank
    rw [← hsettle] at hb
    have hl : s.Leaves i (State.settle i (s.hold i cmd)) :=
      (s.hold_flows i cmd).trans (((s.hold i cmd).performing_leaves i).trans hb.1)
    refine ⟨State.settle i (s.hold i cmd), ?_, State.slot_of_work hb.2.work_eq (hl.up hworking.upWorking),
      hk.rest, hk.now, fun ho => ?_⟩
    · exact exec_lowering hr hi hop hu (fun e => by rw [e] at hst; simp at hst)
        fun e => by rw [e] at hst; simp at hst
    · rw [hsettle, State.shed_of_clear (s := (s.hold i cmd).performing i) ho]
      exact ⟨((s.hold_onlyAt i cmd).trans ((s.hold i cmd).performing_onlyAt i)).othersKept
        hworking.upWorking, rfl, State.holdPerforming_admission s i cmd⟩
  · have hwaits : ((s.hold i cmd).work i).Waits := by
      refine .inr fun e he => ?_
      have hhold' : ((s.hold i cmd).work i).pass.hold = _ := hhold
      rw [hhold'] at he
      cases he
      simp only [HoldEntry.Stops, hcls]
      exact .inl (fun e => hf (hflight.symm.trans e))
    have hraise : ((s.hold i cmd).work i).demanding.raise = none := Slot.lowering_raise hhold hcls
    have hsettle := State.settle_eq hwaits hraise (.inl hp)
    have hb := State.settle_bears hwaits (.inr hraise)
      (fun _ => .inl (.inl (by
        have hhold' : ((s.hold i cmd).work i).pass.hold = _ := hhold
        rw [hhold']
        exact List.cons_ne_nil _ _))) (.inl hp)
    rw [hraise, State.hold_demanding hh hop] at hb
    rw [hmap] at hsettle
    have hl : s.Leaves i (State.settle i (s.hold i cmd)) := (s.hold_flows i cmd).trans hb.1
    refine ⟨State.settle i (s.hold i cmd), exec_lowering hr hi hop hu h1 h2,
      State.slot_of_work hb.2.work_eq (hl.up hworking.upWorking), hk.rest, hk.now, fun ho => ?_⟩
    rw [hsettle, State.shed_of_clear (s := ((s.hold i cmd).reportDemand i).withdraw i) ho]
    exact ⟨((s.hold_onlyAt i cmd).reportDemand.withdraw).othersKept hworking.upWorking, rfl, rfl⟩
  · have hlow : (s.slot i).ctx.state = .loaded ∨ (s.slot i).ctx.state = .spun :=
      hst.imp id fun h => h.1
    have hrank : target.rank < (s.slot i).ctx.state.rank := by
      rcases hst with e | ⟨e, hne⟩
      · rw [e]
        cases op <;> cases hop <;> decide
      · rw [e]
        cases op <;> cases hop <;> first | decide | exact absurd rfl hne
    have hb := State.settle_lowers hhold hcls (by rw [hflight, hf]) (by rw [hfence, hn])
      (by rw [hstate]; exact hlow) (by rw [hstate]; exact hrank)
    have hx : ((s.hold i cmd).work i).steppedDown (s.hold i cmd).profile (s.hold i cmd).now
        = ((s.work i).holding s.profile s.now cmd true).enter s.profile s.now
            (s.slot i).ctx.state.below false false := by
      rw [Slot.steppedDown, State.hold_begun hh hop, ← State.slot_ctx, hstate]
      rfl
    rw [hx] at hb
    have hw := hb.2.work_eq
    have hcame : s.CameTo (State.settle i (s.hold i cmd)) i (s.slot i).ctx.state.below s.now := by
      obtain ⟨hpow, -, h1, h2⟩ := SlotSt.below_cases hlow
      refine State.cameTo_of_work (x := (s.work i).holding s.profile s.now cmd true) rfl rfl hpow ?_ ?_ ?_
        fun _ _ => ?_ <;> rw [hw]
      · rfl
      · rfl
      · exact Slot.enter_query _ _ _ _ _ hpow
      · rw [Slot.enter_idleTimer, Slot.idleFrom_of_hold _ _ _ (by exact List.cons_ne_nil _ _)]
        refine (Slot.idleFrom_of_state _ _ ⟨h1, h2, ?_⟩).symm
        rcases hlow with e | e <;> rw [e] <;> decide
    refine ⟨State.settle i (s.hold i cmd), ?_, ?_, fun e => ?_, fun e => ?_, hk.rest, hk.now⟩
    · exact exec_lowering hr hi hop hu (fun e => by rw [e] at hlow; simp at hlow)
        fun e => by rw [e] at hlow; simp at hlow
    · rw [State.slot_pass, hw]; rfl
    · rw [e] at hcame hw
      refine ⟨hcame, ?_, ?_, ?_⟩
      · rw [State.slot_ctx, hw]; rfl
      · rw [State.slot_ctx, hw]; rfl
      · rw [State.slot_port, hw]; rfl
    · rw [e] at hcame hw
      refine ⟨hcame, ?_, ?_, ?_⟩
      · rw [State.slot_ctx, hw]; rfl
      · rw [State.slot_ctx, hw]; rfl
      · rw [State.slot_port, hw]; rfl

end Sys2Proof.Machine
end

section
/-! PROOFS. The serving of a hold queue: attached commands that pass in a row, and a lowering entry that ends at its target. -/

namespace Sys2Proof.Machine

/-! ## A slot that only its commands have changed -/

/-- From x to y at a time, a slot forwarded or completed commands: nothing of its state and its step changed, nor
what it reports. -/
structure Slot.Passed (n : Nat) (x y : Slot) : Prop where
  state : y.ctx.state = x.ctx.state
  map : y.ctx.map = x.ctx.map
  outstanding : y.ctx.outstanding = x.ctx.outstanding
  deadline : y.ctx.stepDeadline = x.ctx.stepDeadline
  emergency : y.ctx.emergency = x.ctx.emergency
  activity : y.ctx.lastActivity = x.ctx.lastActivity ∨ y.ctx.lastActivity = n
  charge : y.charge = x.charge
  query : y.port.query = x.port.query
  fence : y.fence = x.fence
  record : y.record = x.record
  notice : y.notice = x.notice
  requeues : y.requeues = x.requeues

section passed

variable {n : Nat} {x y z : Slot}

theorem Slot.Passed.rfl : x.Passed n x :=
  ⟨Eq.refl _, Eq.refl _, Eq.refl _, Eq.refl _, Eq.refl _, .inl (Eq.refl _), Eq.refl _, Eq.refl _, Eq.refl _,
    Eq.refl _, Eq.refl _, Eq.refl _⟩

theorem Slot.Passed.trans (h : x.Passed n y) (k : y.Passed n z) : x.Passed n z where
  state := k.state.trans h.state
  map := k.map.trans h.map
  outstanding := k.outstanding.trans h.outstanding
  deadline := k.deadline.trans h.deadline
  emergency := k.emergency.trans h.emergency
  activity := k.activity.elim (fun e => h.activity.imp e.trans e.trans) .inr
  charge := k.charge.trans h.charge
  query := k.query.trans h.query
  fence := k.fence.trans h.fence
  record := k.record.trans h.record
  notice := k.notice.trans h.notice
  requeues := k.requeues.trans h.requeues

theorem Slot.Passed.withPass (h : x.Passed n y) (f : Passage → Passage) : x.Passed n (y.withPass f) :=
  { h with }

theorem Slot.Passed.demanding (h : x.Passed n y) : x.Passed n y.demanding := h.withPass _

theorem Slot.Passed.act (h : x.Passed n y) (p : Profile) : x.Passed n (y.act p n) :=
  { h with activity := .inr (Eq.refl _) }

theorem Slot.Passed.forwarded (h : x.Passed n y) (p : Profile) (c : Cmd) (q : Seq) (m : Nat) :
    x.Passed n (y.forwarded p n c q m) :=
  { h with
    activity := .inr (Eq.refl _)
    query := (Port.handCommand_query c y.port).trans h.query }

theorem Slot.Passed.forwardedHeld (h : x.Passed n y) (p : Profile) (e : HoldEntry) :
    x.Passed n (y.forwardedHeld p n e) := by
  obtain ⟨f, q, m, hx⟩ := Slot.forwardedHeld_eq p n e y
  rw [hx]
  exact (h.withPass f).forwarded p e.cmd q m

end passed

/-! ## Attached commands that pass -/

/-- A slot that has forwarded held entries in order and reported its demand (R108, R109, R113). -/
def Slot.passing (p : Profile) (n : Nat) : List HoldEntry → Slot → Slot
  | [], x => x.demanding
  | e :: rest, x => Slot.passing p n rest (x.demanding.forwardedHeld p n e)

theorem Slot.passing_passed (p : Profile) (n : Nat) (pass : List HoldEntry) {x y : Slot} (h : x.Passed n y) :
    x.Passed n (y.passing p n pass) := by
  induction pass generalizing y with
  | nil => exact h.demanding
  | cons e rest ih => exact ih (h.demanding.forwardedHeld p e)

/-- The record that a held entry becomes, and the next sequence (R113). -/
theorem forwardedAll_cons (next : Seq) (e : HoldEntry) (rest : List HoldEntry) :
    ∃ r next', forwardedAll next [e] = ([r], next')
      ∧ forwardedAll next (e :: rest) = (r :: (forwardedAll next' rest).1, (forwardedAll next' rest).2) := by
  cases h : e.seq with
  | none => exact ⟨_, _, by simp only [forwardedAll, h]; rfl, by simp only [forwardedAll, h]⟩
  | some q => exact ⟨_, _, by simp only [forwardedAll, h]; rfl, by simp only [forwardedAll, h]⟩

/-- The tags of held entries are distinct, so a removal takes the head alone (R103). -/
theorem Passage.dropHeld_head {a : Passage} {e e' : HoldEntry} {rest : List HoldEntry}
    (h : a.hold = e' :: rest) (ht : e'.cmd.args.tag = e.cmd.args.tag)
    (hn : ∀ f ∈ rest, f.cmd.args.tag ≠ e.cmd.args.tag) :
    a.dropHeld e.cmd.args.tag = { a with hold := rest } := by
  have hrest : rest.filter (fun f => f.cmd.args.tag != e.cmd.args.tag) = rest :=
    List.filter_eq_self.mpr fun f hf => by simpa using hn f hf
  simp [Passage.dropHeld, h, ht, hrest]

theorem Slot.forwardedHeld_pass {p : Profile} {n : Nat} {e : HoldEntry} {rest : List HoldEntry} {x : Slot}
    (h : x.pass.hold = e :: rest) (hn : ∀ f ∈ rest, f.cmd.args.tag ≠ e.cmd.args.tag) :
    (x.forwardedHeld p n e).pass
        = { x.pass with
            hold := rest
            flight := x.pass.flight ++ (forwardedAll x.pass.nextSeq [e]).1
            nextSeq := (forwardedAll x.pass.nextSeq [e]).2 }
      ∧ (x.forwardedHeld p n e).port = x.port.handCommand e.cmd := by
  have hdrop := Passage.dropHeld_head h rfl hn
  unfold Slot.forwardedHeld forwardedAll
  cases e.seq <;>
    simp [Slot.forwarded, Slot.withPass, hdrop, Slot.act, Slot.touchIdle, forwardedAll]

/-- What a slot has when held entries have passed (R109, R113). -/
theorem Slot.passing_pass (p : Profile) (n : Nat) {pass rest : List HoldEntry} {x : Slot}
    (h : x.pass.hold = pass ++ rest) (hn : (x.pass.hold.map (fun e => e.cmd.args.tag)).Nodup) :
    (x.passing p n pass).pass
        = { x.pass with
            hold := rest
            flight := x.pass.flight ++ (forwardedAll x.pass.nextSeq pass).1
            nextSeq := (forwardedAll x.pass.nextSeq pass).2
            demand := demandOf rest }
      ∧ (x.passing p n pass).port = pass.foldl (fun q e => q.handCommand e.cmd) x.port := by
  induction pass generalizing x with
  | nil =>
    simp only [List.nil_append] at h
    subst h
    simp [Slot.passing, Slot.demanding, Slot.withPass, forwardedAll]
  | cons e pass ih =>
    rw [h, List.cons_append, List.map_cons, List.nodup_cons] at hn
    have hne : ∀ f ∈ pass ++ rest, f.cmd.args.tag ≠ e.cmd.args.tag := fun f hf heq =>
      hn.1 (heq ▸ List.mem_map_of_mem hf)
    have hhold : x.demanding.pass.hold = e :: (pass ++ rest) := h
    obtain ⟨hpass, hport⟩ := Slot.forwardedHeld_pass (p := p) (n := n) hhold hne
    obtain ⟨r, next', hone, hall⟩ := forwardedAll_cons x.pass.nextSeq e pass
    have hseq : x.demanding.pass.nextSeq = x.pass.nextSeq := rfl
    rw [hseq, hone] at hpass
    obtain ⟨h1, h2⟩ := ih (x := x.demanding.forwardedHeld p n e) (by rw [hpass]) (by rw [hpass]; exact hn.2)
    refine ⟨?_, ?_⟩
    · simp only [Slot.passing]
      rw [h1, hpass, hall]
      simp [Slot.demanding, Slot.withPass]
    · simp only [Slot.passing, List.foldl_cons]
      rw [h2, hport]
      rfl

section serve

variable {i : SlotId} {s : State}

theorem State.forwardHeld_leaves (s : State) (i : SlotId) (e : HoldEntry) : s.Leaves i (s.forwardHeld i e) := by
  refine (State.OnlyAt.rfl.forwardHeld e).leaves_self ((State.Keeps.rfl s).forwardHeld i e) ?_
  unfold State.forwardHeld State.forwardNew State.forward State.takeSeq
  cases e.seq <;> simp

/-- An attached head gives no demand above IDLE. -/
theorem Slot.attached_raise {x : Slot} {e : HoldEntry} {rest : List HoldEntry}
    (h : x.pass.hold = e :: rest) (hc : e.cmd.op.cls = .attached) (hr : 2 ≤ x.ctx.state.rank) :
    x.demanding.raise = none := by
  have hd : demandRank x.demanding.pass.demand ≤ 2 := by
    have hneed : e.cmd.op.need = some .idle := by simp [Op.need, OpClass.need, hc]
    simp only [Slot.demanding, Slot.withPass, h, demandOf, hneed]
    split <;> decide
  cases hk : x.demanding.ctx.state.nextKind with
  | none => exact Slot.raise_of_nextKind_none hk
  | some k =>
    rw [Slot.raise_of_nextKind hk, if_neg]
    have : x.demanding.ctx.state = x.ctx.state := rfl
    rw [this]
    omega

/-- The head of a rest waits for a level that the slot does not hold, or there is no rest. -/
def HeadAbove (st : SlotSt) (rest : List HoldEntry) : Prop :=
  ∀ h ∈ rest.head?, h.inProgress = false ∧ ∃ l, h.cmd.op.need = some l ∧ st.rank < l.rank

theorem HeadAbove.waits {x : Slot} (h : HeadAbove x.ctx.state x.pass.hold) : x.Waits := by
  refine .inr fun e he => ?_
  obtain ⟨-, l, hneed, hlt⟩ := h e he
  refine HoldEntry.stops_of_need _ hneed ?_
  rw [SlotSt.holds, decide_eq_false_iff_not]
  omega

theorem HeadAbove.demand {st : SlotSt} {rest : List HoldEntry} (h : HeadAbove st rest) :
    demandOf rest = rest.head?.bind (fun h => h.cmd.op.need) := by
  cases rest with
  | nil => rfl
  | cons e rest =>
    obtain ⟨hp, -⟩ := h e rfl
    simp [demandOf, hp]

/-- The step that a slot in the state which an entry of a kind belongs to asks for (R29, R35). -/
theorem HeadAbove.raise {x : Slot} {kind : Kind} (h : HeadAbove x.ctx.state x.pass.hold)
    (hs : x.ctx.state = kind.source) :
    x.demanding.raise = if x.pass.hold = [] then none else some kind := by
  have hk : x.demanding.ctx.state.nextKind = some kind := by
    change x.ctx.state.nextKind = _
    rw [hs]
    cases kind <;> rfl
  rw [Slot.raise_of_nextKind hk]
  cases hh : x.pass.hold with
  | nil => simp [Slot.demanding, Slot.withPass, hh, demandOf, demandRank]
  | cons e rest =>
    rw [hh] at h
    obtain ⟨hp, l, hneed, hlt⟩ := h e rfl
    have hd : x.demanding.pass.demand = some l := by
      simp [Slot.demanding, Slot.withPass, hh, demandOf, hp, hneed]
    rw [hd, if_pos (by exact hlt), if_neg (List.cons_ne_nil _ _)]

/-- The serving of attached commands that pass, down to a rest that waits (R109). -/
theorem State.serveRounds_passing (pass : List HoldEntry) {rest : List HoldEntry} {n : Nat}
    (hh : (s.slot i).pass.hold = pass ++ rest) (hlen : pass.length ≤ n) (hf : (s.slot i).fence = false)
    (hn : ((s.slot i).pass.hold.map (fun e => e.cmd.args.tag)).Nodup)
    (hc : ∀ e ∈ pass, e.cmd.op.cls = .attached) (hr : 2 ≤ (s.slot i).ctx.state.rank)
    (hrest : HeadAbove (s.slot i).ctx.state rest) (hno : s.NoEntry i)
    (hsafe : rest = [] → pass ≠ [] ∨ (s.slot i).pass.flight ≠ [] ∨ s.overdrawn i = false) :
    State.Bears i ((s.work i).passing s.profile s.now pass).raise ((s.work i).passing s.profile s.now pass) s
      (State.serveRounds n i (s.report i)) := by
  induction pass generalizing s n with
  | nil =>
    rw [List.nil_append] at hh
    have hwaits : (s.work i).Waits := by
      refine HeadAbove.waits ?_
      change HeadAbove (s.slot i).ctx.state (s.slot i).pass.hold
      rw [hh]
      exact hrest
    have hb := State.report_bears (s := s) (i := i) (.inl hno) fun _ => by
      by_cases hnil : rest = []
      · rcases hsafe hnil with h | h | h
        · exact absurd rfl h
        · exact .inl (.inr (.inl h))
        · exact .inr h
      · exact .inl (.inl (by
          change (s.slot i).pass.hold ≠ []
          rw [hh]
          exact hnil))
    rw [State.serveRounds_waits (hb.2.waits (Slot.resting_demanding hwaits))]
    exact hb
  | cons e pass ih =>
    obtain ⟨n, rfl⟩ : ∃ m, n = m + 1 := ⟨n - 1, by simp at hlen; omega⟩
    have hcls := hc e List.mem_cons_self
    rw [List.cons_append] at hh
    let u := (s.reportDemand i).withdraw i
    have hu : u.work i = (s.work i).demanding := s.work_report_demand i
    have hreport : s.report i = u := State.report_withdraws (Slot.attached_raise (x := s.work i) hh hcls hr)
    have hk : s.Keeps u := ((State.Keeps.rfl s).reportDemand i).withdraw i
    have hkf : s.Keeps (u.forwardHeld i e) := hk.forwardHeld i e
    have hwork : (u.forwardHeld i e).work i = (s.work i).demanding.forwardedHeld s.profile s.now e := by
      rw [State.work_forwardHeld, hu, hk.profile, hk.now]
    have hne : ∀ f ∈ pass ++ rest, f.cmd.args.tag ≠ e.cmd.args.tag := fun f hf' heq => by
      rw [hh, List.map_cons, List.nodup_cons] at hn
      exact hn.1 (heq ▸ List.mem_map_of_mem hf')
    obtain ⟨hpass, -⟩ := Slot.forwardedHeld_pass (p := s.profile) (n := s.now) (x := (s.work i).demanding) hh hne
    have hpd : (s.work i).Passed s.now ((s.work i).demanding.forwardedHeld s.profile s.now e) :=
      Slot.Passed.rfl.demanding.forwardedHeld s.profile e
    have hround : State.serveRounds (n + 1) i u = State.serveRounds n i ((u.forwardHeld i e).report i) := by
      have hfence : (u.slot i).fence = false := by rw [State.slot_fence, hu]; exact hf
      have hhold : (u.slot i).pass.hold = e :: (pass ++ rest) := by rw [State.slot_pass, hu]; exact hh
      have hholds : (u.slot i).ctx.state.holds .idle = true := by
        rw [State.slot_ctx, hu]
        exact decide_eq_true hr
      simp only [State.serveRounds, hfence, hhold, hcls, hholds, Bool.false_eq_true, if_false, if_true]
    rw [hreport, hround]
    have hfl : ((u.forwardHeld i e).slot i).pass.flight ≠ [] := by
      rw [State.slot_pass, hwork, hpass]
      obtain ⟨r, next', hone, -⟩ := forwardedAll_cons (s.work i).demanding.pass.nextSeq e []
      simp [hone]
    have hstep := ih (s := u.forwardHeld i e) (n := n)
      (by rw [State.slot_pass, hwork, hpass]) (by simpa using hlen)
      (by rw [State.slot_fence, hwork, hpd.fence]; exact hf)
      (by
        rw [State.slot_pass, hwork, hpass]
        rw [hh, List.map_cons, List.nodup_cons] at hn
        exact hn.2)
      (fun f hf' => hc f (List.mem_cons_of_mem _ hf'))
      (by rw [State.slot_ctx, hwork, hpd.state]; exact hr)
      (by rw [State.slot_ctx, hwork, hpd.state]; exact hrest)
      (State.NoEntry.of_queue_eq (s := u) (State.entriesOf_eq_nil.mp (State.withdraw_entriesOf _ i)) (by simp))
      (fun _ => .inr (.inl hfl))
    rw [hwork, hkf.profile, hkf.now] at hstep
    exact ⟨((s.reportDemand_leaves i).trans ((s.reportDemand i).withdraw_leaves i)).trans
      ((u.forwardHeld_leaves i e).trans hstep.1), hstep.2⟩

end serve

end Sys2Proof.Machine
end

section
/-! PROOFS. A slot that a step has brought into a state: its idle queue, the serving of its held commands, and the lowering
entry in progress at its head. -/

namespace Sys2Proof.Machine

/-! ## A slot that came into a state -/

/-- From x to y at a time, a slot came by no raising transition into a state (R9, R27, R32). -/
structure Slot.Came (p : Profile) (n : Nat) (st : SlotSt) (x y : Slot) : Prop where
  state : y.ctx.state = st
  pass : y.pass = x.pass
  charge : y.charge = x.chargeOn p st false
  port : y.port = x.port.enter p n st
  map : y.ctx.map = x.ctx.map
  outstanding : y.ctx.outstanding = st.outstanding
  deadline : y.ctx.stepDeadline = classDeadline (x.classIn p) n st
  idleTimer : y.ctx.idleTimer = x.idleFrom p n st
  fence : y.fence = x.fence

section came

variable {p : Profile} {n : Nat} {st : SlotSt} {x y z : Slot}

theorem Slot.came_enter (p : Profile) (n : Nat) (k : Bool) (x : Slot) (h : st.powered = true) :
    x.Came p n st (x.enter p n st false k) where
  state := rfl
  pass := rfl
  charge := rfl
  port := rfl
  map := rfl
  outstanding := rfl
  deadline := rfl
  idleTimer := Slot.enter_idleTimer p n st false k x
  fence := by simp [h]

theorem Slot.Came.calmed (h : x.Came p n st y) :
    x.Came p n st { y with ctx := { y.ctx with emergency := false } } := { h with }

theorem Slot.Came.act (h : x.Came p n st y) : x.Came p n st (y.act p n) where
  state := h.state
  pass := h.pass
  charge := h.charge
  port := h.port
  map := h.map
  outstanding := h.outstanding
  deadline := h.deadline
  idleTimer := by
    rw [Slot.act_idleTimer, h.state]
    exact Slot.idleFrom_congr p n st h.map (by rw [h.pass]) (by rw [h.pass])
  fence := h.fence

/-- A slot that differs from x in what an entry does not read came from x too. -/
theorem Slot.Came.of_like (h : z.Came p n st y) (hpass : z.pass = x.pass) (hcharge : z.charge = x.charge)
    (hport : z.port = x.port) (hmap : z.ctx.map = x.ctx.map) (hfence : z.fence = x.fence) :
    x.Came p n st y where
  state := h.state
  pass := h.pass.trans hpass
  charge := by rw [h.charge, Slot.chargeOn, Slot.chargeOn, hcharge, Slot.classIn_congr p hmap]
  port := by rw [h.port, hport]
  map := h.map.trans hmap
  outstanding := h.outstanding
  deadline := by rw [h.deadline, Slot.classIn_congr p hmap]
  idleTimer := h.idleTimer.trans (Slot.idleFrom_congr p n st hmap (by rw [hpass]) (by rw [hpass]))
  fence := h.fence.trans hfence

end came

section arrived

variable {i : SlotId} {k : Option Kind} {x y : Slot} {s t w : State} {st : SlotSt}

/-- The claims' word for a slot that came into a state and passed commands there. -/
theorem State.cameTo_of_came (hc : (s.work i).Came s.profile s.now st y) (hp : st.powered = true)
    (hx : y.Passed s.now (t.work i))
    (hi : (s.slot i).pass.hold = [] → (t.work i).ctx.idleTimer = y.ctx.idleTimer) :
    s.CameTo t i st s.now := by
  refine State.cameTo_of_work (x := s.work i) rfl rfl hp (hx.state.trans hc.state)
    (hx.charge.trans hc.charge) (hx.query.trans ?_) fun hh _ => ?_
  · rw [hc.port]
    exact (Port.enter_powered _ _ _ hp).1
  · rw [hi hh, hc.idleTimer]
    rfl

/-- With nothing held, a slot that came into a state stands there (R27, R29). -/
theorem State.Bears.settle_idle (hb : State.Bears i none y s w) (hh : y.pass.hold = [])
    (hp : s.park.lowering = false) : State.Bears i none y.demanding s (State.settle i w) := by
  have hw : w.work i = y := hb.2.work_eq
  have hraise : (w.work i).demanding.raise = none := by
    rw [hw]
    exact Slot.raise_of_demand_none (by simp [Slot.demanding, Slot.withPass, hh, demandOf])
  have hwaits : (w.work i).Waits := .inr fun e he => by
    rw [hw, hh] at he
    cases he
  have h := State.settle_bears hwaits (.inl hb.2.noEntry)
    (fun _ => by rw [hw]; exact hb.2.safe) (.inl (by rw [hb.1.keeps.park]; exact hp))
  rw [hraise, hw] at h
  exact ⟨hb.1.trans h.1, h.2⟩

/-! ## Held commands served -/

/-- The state in which the held entries of a slot are served, and its rest waits (R109). -/
theorem State.Bears.settle_passing {pass rest : List HoldEntry} (hb : State.Bears i none y s w)
    (hh : y.HeldAs y.ctx.state pass rest) (hr : 2 ≤ y.ctx.state.rank) (hp : s.park.lowering = false) :
    State.Bears i (y.passing s.profile s.now pass).raise (y.passing s.profile s.now pass) s
      (State.settle i w) := by
  obtain ⟨hsplit, hne, hfence, hnodup, hcls, hrest⟩ := hh
  have hw : w.work i = y := hb.2.work_eq
  have hsafe : rest = [] → pass ≠ [] ∨ (w.slot i).pass.flight ≠ [] ∨ w.overdrawn i = false := by
    rintro rfl
    exact .inl fun e => hne (by rw [hsplit, e]; rfl)
  have hlen : pass.length ≤ ((w.report i).slot i).pass.hold.length := by
    have hpass : ((w.report i).slot i).pass.hold = y.pass.hold := by
      have hrep := State.report_bears (s := w) (i := i) (.inl hb.2.noEntry) fun _ => .inl (.inl (by
        rw [hw]; exact hne))
      rw [hrep.2.pass, hw]
      rfl
    rw [hpass, hsplit, List.length_append]
    omega
  have h1 := State.serveRounds_passing (s := w) (i := i) pass (rest := rest)
    (n := ((w.report i).slot i).pass.hold.length)
    (by rw [State.slot_pass, hw]; exact hsplit) hlen (by rw [State.slot_fence, hw]; exact hfence)
    (by rw [State.slot_pass, hw]; exact hnodup) hcls (by rw [State.slot_ctx, hw]; exact hr)
    (by rw [State.slot_ctx, hw]; exact hrest) hb.2.noEntry hsafe
  rw [hw, hb.1.keeps.profile, hb.1.keeps.now] at h1
  obtain ⟨hpass, -⟩ := Slot.passing_pass s.profile s.now hsplit hnodup
  have hstate := (Slot.passing_passed s.profile s.now pass (Slot.Passed.rfl (x := y))).state
  have hwaits : (y.passing s.profile s.now pass).Waits := by
    refine HeadAbove.waits ?_
    rw [hstate, hpass]
    exact hrest
  refine State.Bears.settled (s := s) ⟨hb.1.trans h1.1, h1.2⟩ ⟨hwaits, ?_, rfl⟩ (.inl hp)
  rw [hpass]

/-- Whatever asks for a step from a state stands there with its entry, or is granted it. -/
theorem State.Stands.entry_or_granted {kind : Kind} (h : t.Stands i (some kind) x) :
    (t.work i = x ∧ x.entry i kind ∈ t.admission.queue)
      ∨ ((t.slot i).ctx.state = kind.target ∧ (t.slot i).ctx.outstanding = kind.target.outstanding
        ∧ ∀ e ∈ t.admission.queue, e.slot ≠ i) := by
  rcases h.place with ⟨hw, he⟩ | ⟨kind', hk, -, hw, he⟩
  · refine .inl ⟨hw, ?_⟩
    have hmem : x.entry i kind ∈ t.entriesOf i := by rw [he]; simp
    exact (List.mem_filter.mp hmem).1
  · cases hk
    refine .inr ⟨?_, ?_, State.entriesOf_eq_nil.mp he⟩
    · rw [State.slot_ctx, hw]; rfl
    · rw [State.slot_ctx, hw]; rfl

/-- The claims' word for held commands that are served in the state that a slot came into. -/
theorem State.servedIn_of_came {kind : Kind} {pass rest : List HoldEntry}
    (hc : (s.work i).Came s.profile s.now kind.source y) (hpw : kind.source.powered = true)
    (hh : y.HeldAs kind.source pass rest)
    (ht : State.Bears i (y.passing s.profile s.now pass).raise (y.passing s.profile s.now pass) s t) :
    s.ServedIn t i kind pass rest := by
  obtain ⟨hsplit, hne, -, hnodup, -, hrest⟩ := hh
  obtain ⟨hpass, hport⟩ := Slot.passing_pass s.profile s.now hsplit hnodup
  have hpd := Slot.passing_passed s.profile s.now pass (Slot.Passed.rfl (x := y) (n := s.now))
  have hraise : (y.passing s.profile s.now pass).raise = if rest = [] then none else some kind := by
    have hst : (y.passing s.profile s.now pass).ctx.state = kind.source := hpd.state.trans hc.state
    have hhold : (y.passing s.profile s.now pass).pass.hold = rest := by rw [hpass]
    have hself : (y.passing s.profile s.now pass).demanding = y.passing s.profile s.now pass := by
      simp only [Slot.demanding, Slot.withPass, hpass]
      rw [← hpass]
    have h := HeadAbove.raise (x := y.passing s.profile s.now pass) (kind := kind)
      (by rw [hhold, hst]; exact hrest) hst
    rwa [hself, hhold] at h
  have hcame : t.work i = y.passing s.profile s.now pass →
      s.CameTo t i kind.source s.now ∧ (t.slot i).ctx.outstanding = .none
        ∧ (t.slot i).port = pass.foldl (fun p e => p.handCommand e.cmd)
            ((s.slot i).port.enter s.profile s.now kind.source) := fun hw => by
    refine ⟨State.cameTo_of_came hc hpw (by rw [hw]; exact hpd) fun e => ?_, ?_, ?_⟩
    · exact absurd (by rw [hc.pass]; exact e) hne
    · rw [State.slot_ctx, hw, hpd.outstanding, hc.outstanding]
      cases kind <;> rfl
    · rw [State.slot_port, hw, hport, hc.port]
      rfl
  refine ⟨?_, fun hwk => ht.1.up hwk.upWorking, fun hnil => ?_, fun hnn => ?_⟩
  · rw [ht.2.pass, hpass, hc.pass, HeadAbove.demand hrest]
    rfl
  · rw [if_pos hnil] at hraise
    obtain ⟨-, hst⟩ := ht
    rw [hraise] at hst
    obtain ⟨h1, h2, h3⟩ := hcame hst.work_eq
    exact ⟨h1, h2, h3, hst.noEntry⟩
  · rw [if_neg hnn] at hraise
    obtain ⟨-, hst⟩ := ht
    rw [hraise] at hst
    rcases hst.entry_or_granted with ⟨hw, hmem⟩ | hgr
    · obtain ⟨h1, h2, h3⟩ := hcame hw
      refine .inl ⟨h1, h2, h3, ?_⟩
      have hbank : (y.passing s.profile s.now pass).ctx.map = (s.slot i).ctx.map := hpd.map.trans hc.map
      rwa [Slot.entry, hbank] at hmem
    · exact .inr hgr

end arrived

end Sys2Proof.Machine
end

section
/-! PROOFS. What follows a change of a slot says nothing of any slot: no sense entry, no notice, no requeue count. -/

namespace Sys2Proof.Machine

/-- From x to y, what a slot reports of itself stands, its emergency mark clear where it was, with no activity but
at a time. -/
structure Slot.Silent (n : Nat) (x y : Slot) : Prop where
  record : y.record = x.record
  notice : y.notice = x.notice
  requeues : y.requeues = x.requeues
  emergency : x.ctx.emergency = false → y.ctx.emergency = false
  activity : y.ctx.lastActivity = x.ctx.lastActivity ∨ y.ctx.lastActivity = n

/-- From s to t, no slot has anything new to report. -/
structure State.Silent (s t : State) : Prop where
  now : t.now = s.now
  slots : ∀ j, (s.work j).Silent s.now (t.work j)

section silent

variable {n : Nat} {x y z : Slot} {i : SlotId} {s t u : State}

theorem Slot.Silent.rfl : x.Silent n x := ⟨Eq.refl _, Eq.refl _, Eq.refl _, id, .inl (Eq.refl _)⟩

theorem Slot.Silent.trans (h : x.Silent n y) (k : y.Silent n z) : x.Silent n z where
  record := k.record.trans h.record
  notice := k.notice.trans h.notice
  requeues := k.requeues.trans h.requeues
  emergency e := k.emergency (h.emergency e)
  activity := k.activity.elim (fun e => h.activity.imp e.trans e.trans) .inr

theorem Slot.Silent.activity_now (h : x.Silent n y) (hx : x.ctx.lastActivity = n) : y.ctx.lastActivity = n :=
  h.activity.elim (fun e => e.trans hx) id

theorem State.Silent.rfl : s.Silent s := ⟨Eq.refl _, fun _ => Slot.Silent.rfl⟩

theorem State.Silent.trans (h : s.Silent t) (k : t.Silent u) : s.Silent u :=
  ⟨k.now.trans h.now, fun j => (h.slots j).trans (h.now ▸ k.slots j)⟩

/-- A change at slot i alone. -/
theorem State.Silent.change (h : s.Silent t) (o : t.OnlyAt i u) (hn : u.now = t.now)
    (hi : (t.work i).Silent t.now (u.work i)) : s.Silent u := by
  refine h.trans ⟨hn, fun j => ?_⟩
  by_cases hj : j = i
  · subst hj; exact hi
  · rw [o.others j hj]
    exact Slot.Silent.rfl

theorem State.Silent.of_work (h : s.Silent t) (hn : u.now = t.now) (hw : ∀ j, u.work j = t.work j) :
    s.Silent u :=
  h.trans ⟨hn, fun j => by rw [hw]; exact Slot.Silent.rfl⟩

/-! ## The operations on a slot -/

theorem Slot.silent_act (p : Profile) (n : Nat) (x : Slot) : x.Silent n (x.act p n) :=
  ⟨Eq.refl _, Eq.refl _, Eq.refl _, id, .inr (Eq.refl _)⟩

theorem Slot.silent_enter (p : Profile) (m n : Nat) (st : SlotSt) (r k : Bool) (x : Slot) :
    x.Silent n (x.enter p m st r k) :=
  ⟨Eq.refl _, Eq.refl _, Eq.refl _, id, .inl (Eq.refl _)⟩

theorem Slot.silent_withPass (n : Nat) (f : Passage → Passage) (x : Slot) : x.Silent n (x.withPass f) :=
  ⟨Eq.refl _, Eq.refl _, Eq.refl _, id, .inl (Eq.refl _)⟩

theorem Slot.silent_mapped (n : Nat) (m : SlotMap) (d : Option Nat) (x : Slot) : x.Silent n (x.mapped m d) :=
  ⟨Eq.refl _, Eq.refl _, Eq.refl _, id, .inl (Eq.refl _)⟩

theorem Slot.silent_down (p : Profile) (m n : Nat) (st : SlotSt) (x : Slot) : x.Silent n (x.down p m st) :=
  ⟨Eq.refl _, Eq.refl _, Eq.refl _, fun _ => Eq.refl _, .inl (Eq.refl _)⟩

theorem Slot.silent_actedAt {a : Nat} (h : a = x.ctx.lastActivity ∨ a = n) : x.Silent n (x.actedAt a) :=
  ⟨Eq.refl _, Eq.refl _, Eq.refl _, id, h⟩

theorem Slot.Passed.silent (h : x.Passed n y) : x.Silent n y :=
  ⟨h.record, h.notice, h.requeues, fun e => h.emergency.trans e, h.activity⟩

theorem State.silent_enter (s : State) (i : SlotId) (st : SlotSt) (r k : Bool) : s.Silent (s.enter i st r k) := by
  refine State.Silent.rfl.change (State.OnlyAt.rfl.enter st r k) (Eq.refl _) ?_
  rw [State.work_enter]
  exact Slot.silent_enter _ _ _ _ _ _ _

theorem State.silent_active (s : State) (i : SlotId) : s.Silent (s.active i) := by
  refine State.Silent.rfl.change State.OnlyAt.rfl.active (Eq.refl _) ?_
  rw [State.work_active]
  exact Slot.silent_act _ _ _

theorem State.silent_modPass (s : State) (i : SlotId) (f : Passage → Passage) : s.Silent (s.modPass i f) := by
  refine State.Silent.rfl.change (State.OnlyAt.rfl.modPass f) (Eq.refl _) ?_
  rw [State.work_modPass]
  exact Slot.silent_withPass _ f _

theorem State.silent_complete (s : State) (i : SlotId) (c : Cmd) (code : Byte) :
    s.Silent (s.complete i c code) := by
  refine State.Silent.rfl.change (State.OnlyAt.rfl.complete c code) (State.complete_now s i c code) ?_
  rw [State.work_complete]
  exact Slot.silent_act _ _ _

theorem State.silent_completeAll (i : SlotId) (code : Byte) (l : List Cmd) (s : State) :
    s.Silent (State.completeAll i code l s) := by
  induction l generalizing s with
  | nil => exact State.Silent.rfl
  | cons c rest ih => exact (s.silent_complete i c code).trans (ih _)

theorem State.silent_takeMap (s : State) (i : SlotId) : s.Silent (s.takeMap i) := by
  refine State.Silent.rfl.change State.OnlyAt.rfl.takeMap ((State.Keeps.rfl s).takeMap i).now ?_
  cases he : (s.profile.slots[i]).enabled with
  | true =>
    rw [State.work_takeMap_enabled he]
    exact Slot.silent_mapped _ _ _ _
  | false =>
    by_cases hst : (s.slot i).ctx.state = .empty
    · rw [State.work_takeMap_empty he hst]
      exact Slot.silent_mapped _ _ _ _
    · rw [State.work_takeMap_disabled he hst]
      refine ((Slot.silent_mapped _ _ _ _).trans (Slot.silent_down _ _ _ _ _)).trans
        (Slot.silent_actedAt ?_)
      split
      · exact .inl (Eq.refl _)
      · exact .inr (Eq.refl _)

theorem State.silent_enterOff (s : State) (i : SlotId) : s.Silent (s.enterOff i) :=
  (((s.silent_enter i .off false false).trans (State.silent_modPass _ i _)).trans
    (State.silent_completeAll i _ _ _)).trans (State.silent_takeMap _ i)

theorem State.silent_orderDown (s : State) (i : SlotId) : s.Silent (s.orderDown i) := by
  unfold State.orderDown
  split
  · exact s.silent_enter i _ _ _
  · exact s.silent_enter i _ _ _
  · exact s.silent_enter i _ _ _
  · exact (s.silent_enterOff i).trans (State.silent_active _ i)
  all_goals exact State.Silent.rfl

theorem State.silent_forwardHeld (s : State) (i : SlotId) (e : HoldEntry) : s.Silent (s.forwardHeld i e) := by
  refine State.Silent.rfl.change (State.OnlyAt.rfl.forwardHeld e) ((State.Keeps.rfl s).forwardHeld i e).now ?_
  rw [State.work_forwardHeld]
  exact (Slot.Passed.rfl.forwardedHeld _ e).silent

theorem State.silent_finishHeld (s : State) (i : SlotId) (e : HoldEntry) : s.Silent (s.finishHeld i e) :=
  (s.silent_modPass i _).trans (State.silent_complete _ i _ _)

/-! ## The admission unit -/

theorem State.silent_grant (s : State) (e : AdmEntry) : s.Silent (s.grant e) := by
  rcases s.grant_eq e with h | h <;> rw [h]
  · exact s.silent_enter _ _ _ _
  · exact (s.silent_enter _ _ _ _).of_work ((State.Keeps.rfl _).startStagger _).now
      fun j => State.startStagger_work _ _ j

theorem State.silent_scanOver (q : List AdmEntry) (m : Marks) (s : State) :
    s.Silent (State.scanOver q m s) := by
  induction q generalizing m s with
  | nil => exact State.Silent.rfl
  | cons e rest ih =>
    unfold State.scanOver
    split
    · exact ih _ _
    · split
      · exact ih _ _
      · split
        · exact ih _ _
        · split
          · exact ih _ _
          · split
            · exact ih _ _
            · exact (s.silent_grant e).trans (ih _ _)

theorem State.silent_scan (s : State) : s.Silent s.scan := by
  unfold State.scan
  split
  · exact State.Silent.rfl
  · exact State.silent_scanOver _ _ _

theorem State.silent_shedRounds (n : Nat) (b : BankId) (s : State) : s.Silent (State.shedRounds n b s) := by
  induction n generalizing s with
  | zero => exact State.Silent.rfl
  | succ n ih =>
    unfold State.shedRounds
    split
    · split
      · exact State.Silent.rfl
      · exact (s.silent_orderDown _).trans (ih _)
    · exact State.Silent.rfl

theorem State.silent_clearIfFits (s : State) (b : BankId) : s.Silent (s.clearIfFits b) := by
  unfold State.clearIfFits
  split
  · have hmark : s.Silent (s.modBank b fun k => { k with overdraw := false }) :=
      State.Silent.rfl.of_work (Eq.refl _) fun j => Eq.refl _
    exact hmark.trans (State.silent_scan _)
  · exact State.Silent.rfl

theorem State.silent_shed (s : State) (b : BankId) : s.Silent (s.shed b) := by
  unfold State.shed
  split
  · exact (State.silent_shedRounds 10 b s).trans (State.silent_clearIfFits _ b)
  · exact State.Silent.rfl

theorem State.silent_sumFell (s : State) (b : BankId) : s.Silent (s.sumFell b) := by
  unfold State.sumFell State.evaluate
  split
  · split
    · exact s.silent_clearIfFits b
    · exact s.silent_shed b
  · exact s.silent_scan

theorem State.silent_react (s : State) (was : Slot) (i : SlotId) : s.Silent (State.react was i s) := by
  have h1 : s.Silent (if (s.slot i).charge < was.charge then s.sumFell was.ctx.map.bank else s) := by
    split
    · exact s.silent_sumFell _
    · exact State.Silent.rfl
  unfold State.react
  simp only
  split
  · exact h1.trans (State.silent_scan _)
  · exact h1

theorem State.silent_lower (s : State) (i : SlotId) : s.Silent (s.lower i) :=
  (s.silent_orderDown i).trans (State.silent_react _ _ _)

theorem State.silent_setQueue (s : State) (q : List AdmEntry) : s.Silent (s.setQueue q) :=
  State.Silent.rfl.of_work (Eq.refl _) fun _ => Eq.refl _

theorem State.silent_report (s : State) (i : SlotId) : s.Silent (s.report i) := by
  have hdemand : s.Silent (s.reportDemand i) := s.silent_modPass i _
  refine hdemand.trans ?_
  change (s.reportDemand i).Silent ((s.reportDemand i).compare i)
  cases hr : ((s.reportDemand i).work i).raise with
  | none =>
    rw [State.compare_withdraws hr]
    exact State.silent_setQueue _ _
  | some k =>
    rw [State.compare_places hr, State.place]
    split
    · exact State.Silent.rfl
    · exact (State.silent_setQueue _ _).trans (State.silent_scan _)

/-! ## The serving and what follows it -/

theorem State.silent_serveRounds (n : Nat) (s : State) : s.Silent (State.serveRounds n i s) := by
  induction n generalizing s with
  | zero => exact State.Silent.rfl
  | succ n ih =>
    have hpass : ∀ e, s.Silent (State.serveRounds n i ((s.forwardHeld i e).report i)) := fun e =>
      ((s.silent_forwardHeld i e).trans (State.silent_report _ i)).trans (ih _)
    have hdone : ∀ e, s.Silent (State.serveRounds n i ((s.finishHeld i e).report i)) := fun e =>
      ((s.silent_finishHeld i e).trans (State.silent_report _ i)).trans (ih _)
    have hbegin : s.Silent (s.beginHead i) := s.silent_modPass i _
    unfold State.serveRounds
    split
    · exact State.Silent.rfl
    · split
      · exact State.Silent.rfl
      · next e _ _ =>
        split
        · split
          · exact hpass e
          · exact State.Silent.rfl
        · split
          · exact hpass e
          · exact State.Silent.rfl
        · split
          · exact hdone e
          · exact State.Silent.rfl
        · split
          · exact State.Silent.rfl
          · split
            · exact hbegin
            · split
              · exact hbegin.trans (((State.silent_finishHeld _ i e).trans (State.silent_report _ i)).trans
                  (ih _))
              · exact hbegin.trans (State.silent_lower _ i)
        · exact State.Silent.rfl
        · exact State.Silent.rfl

theorem State.silent_reportAndServe (s : State) (i : SlotId) : s.Silent (s.reportAndServe i) :=
  (s.silent_report i).trans (State.silent_serveRounds _ _)

theorem State.silent_parkTest (s : State) (i : SlotId) : s.Silent (s.parkTest i) := by
  unfold State.parkTest
  split
  · exact s.silent_lower i
  · exact State.Silent.rfl

theorem State.silent_settleEnd (i : SlotId) (s : State) : s.Silent (State.settleEnd i s) :=
  (s.silent_reportAndServe i).trans (State.silent_shed _ _)

/-- What follows a change of slot i has nothing to report of any slot. -/
theorem State.silent_settle (i : SlotId) (s : State) : s.Silent (State.settle i s) :=
  ((s.silent_reportAndServe i).trans (State.silent_parkTest _ i)).trans (State.silent_settleEnd i _)

end silent

end Sys2Proof.Machine
end

section
/-! PROOFS. A lowering entry in progress in a state at or below its target: it ends, and the queue behind it is reported. -/

namespace Sys2Proof.Machine

section finish

variable {i : SlotId} {s t w : State} {e : HoldEntry} {rest : List HoldEntry} {l : Level}

/-- A slot whose lowering head has begun and ended (R110). -/
def Slot.finished (p : Profile) (n : Nat) (e : HoldEntry) (x : Slot) : Slot :=
  (x.begun.withPass fun a => a.dropHeld e.cmd.args.tag).act p n

theorem Slot.finished_pass (p : Profile) (n : Nat) {x : Slot} (h : x.pass.hold = e :: rest)
    (hc : e.cmd.op.cls = .lowering l) (hn : (x.pass.hold.map (fun e => e.cmd.args.tag)).Nodup) :
    (x.finished p n e).pass = { x.pass with hold := rest, demand := none } := by
  rw [h, List.map_cons, List.nodup_cons] at hn
  have hne : ∀ f ∈ rest, f.cmd.args.tag ≠ e.cmd.args.tag := fun f hf heq =>
    hn.1 (heq ▸ List.mem_map_of_mem hf)
  have hpass : (x.finished p n e).pass = x.begun.pass.dropHeld e.cmd.args.tag := rfl
  rw [hpass, Slot.begun_pass h hc, Passage.dropHeld_head (e := e) (e' := e.begin) rfl rfl hne]

theorem Slot.finished_passed (p : Profile) (n : Nat) (e : HoldEntry) (x : Slot) :
    x.Passed n (x.finished p n e) :=
  ((Slot.Passed.rfl.demanding.withPass Passage.begun).withPass _).act p

/-- The state in which a lowering head has begun and ended. -/
def State.performed (s : State) (i : SlotId) (e : HoldEntry) : State := (s.performing i).finishHeld i e

theorem State.work_performed (s : State) (i : SlotId) (e : HoldEntry) :
    (s.performed i e).work i = (s.work i).finished s.profile s.now e := by
  have hk := s.performing_keeps i
  rw [State.performed, State.work_finishHeld, s.work_performing, hk.profile, hk.now]
  rfl

theorem State.performed_noEntry (s : State) (i : SlotId) (e : HoldEntry) : (s.performed i e).NoEntry i :=
  (s.performing_noEntry i).of_queue_eq (congrArg Admission.queue (State.finishHeld_queue _ _ _))

theorem State.performed_onlyAt (s : State) (i : SlotId) (e : HoldEntry) : s.OnlyAt i (s.performed i e) :=
  (s.performing_onlyAt i).trans (State.OnlyAt.rfl.finishHeld e)

theorem State.performed_keeps (s : State) (i : SlotId) (e : HoldEntry) : s.Keeps (s.performed i e) :=
  (s.performing_keeps i).finishHeld i e

theorem State.performed_flows (s : State) (i : SlotId) (e : HoldEntry) : s.Flows (s.performed i e) :=
  (s.performed_onlyAt i e).flows (s.performed_keeps i e)

/-- On a busy link the answer of the ended entry waits behind what waited. -/
theorem State.up_performed (hs : s.ctrl.sending ≠ none) (h : (s.slot i).pass.hold = e :: rest)
    (hc : e.cmd.op.cls = .lowering l)
    (hn : ((s.slot i).pass.hold.map (fun e => e.cmd.args.tag)).Nodup)
    (hf : e.cmd.args.slot = fieldOfSlot i) :
    (s.performed i e).up i
      = s.up i ++ [interposerAnswer e.cmd 0x00 0 (s.slot i).ctx.state rest.length] := by
  let v := (s.performing i).modPass i (fun p => p.dropHeld e.cmd.args.tag)
  have hbusy : v.ctrl.sending ≠ none := (s.performing_leaves i).sending hs
  have hwork : v.work i = (s.work i).begun.withPass fun a => a.dropHeld e.cmd.args.tag := by
    rw [State.work_modPass, s.work_performing]; rfl
  have hpass : (v.slot i).pass.hold = rest := by
    have h1 := Slot.finished_pass s.profile s.now (x := s.work i) h hc hn
    have h2 : (v.slot i).pass = ((s.work i).finished s.profile s.now e).pass := by
      rw [State.slot_pass, hwork]; rfl
    rw [h2, h1]
  have hstate : (v.slot i).ctx.state = (s.slot i).ctx.state := by rw [State.slot_ctx, hwork]; rfl
  have hup : v.up i = s.up i := (State.up_modPass _ _ _ _).trans ((s.performing_leaves i).up_busy hs)
  change (v.complete i e.cmd codeOk).up i = _
  rw [State.complete_eq v hf, State.up_active, State.up_handUp_busy hbusy, hup, hpass, hstate]
  rfl

/-- At or below its target the performance ends, and the rest of the queue is reported and waits (R109, R110). -/
theorem State.settle_finishes (h : (s.slot i).pass.hold = e :: rest) (hc : e.cmd.op.cls = .lowering l)
    (hf : (s.slot i).pass.flight = []) (hn : (s.slot i).fence = false)
    (hs : (s.slot i).ctx.state.settled = true) (hr : (s.slot i).ctx.state.rank ≤ l.rank)
    (hnodup : ((s.slot i).pass.hold.map (fun e => e.cmd.args.tag)).Nodup)
    (hrest : HeadAbove (s.slot i).ctx.state rest) (hp : s.park.lowering = false)
    (hsafe : rest = [] → s.overdrawn i = false) :
    State.Bears i ((s.work i).finished s.profile s.now e).demanding.raise
      ((s.work i).finished s.profile s.now e).demanding (s.performed i e) (State.settle i s) := by
  have hwork := s.work_performed i e
  have hpd := Slot.finished_passed s.profile s.now e (s.work i)
  have hpass := Slot.finished_pass s.profile s.now (x := s.work i) h hc hnodup
  have hwaits : ((s.work i).finished s.profile s.now e).Waits := by
    refine HeadAbove.waits ?_
    rw [hpd.state, hpass]
    exact hrest
  have hserve : s.reportAndServe i = State.serveRounds rest.length i ((s.performed i e).report i) := by
    rw [State.reportAndServe_lowering h hc hf hn, if_neg (by rw [hs]; decide), if_pos hr]
    rfl
  have h1 := State.report_bears (s := s.performed i e) (i := i) (.inl (s.performed_noEntry i e)) fun _ => by
    rw [hwork]
    by_cases hnil : rest = []
    · refine .inr ?_
      rw [(s.performed_onlyAt i e).bank, hpd.map]
      exact hsafe hnil
    · exact .inl (.inl (by rw [hpass]; exact hnil))
  rw [hwork] at h1
  have hrs := Slot.resting_demanding hwaits
  unfold State.settle
  rw [hserve, State.serveRounds_waits (h1.2.waits hrs)]
  exact h1.settled hrs (.inl (by rw [(s.performed_keeps i e).park]; exact hp))

end finish

section performed

variable {i : SlotId} {s t w : State} {y : Slot} {h : HoldEntry} {rest : List HoldEntry} {target : Level}

/-- The claims' word for an entry that ends in the state that its slot came into (R110). -/
theorem State.performedAt_of_came {kind : Kind} (hb : State.Bears i none y s w)
    (hc : (s.work i).Came s.profile s.now kind.source y) (hpw : kind.source.powered = true)
    (hh : (s.slot i).PerformsHead h rest target) (hr : kind.source.rank ≤ target.rank) :
    s.PerformedAt (State.settle i w) i kind s.now h rest := by
  intro hrest hover hlow
  obtain ⟨hhold, -, hcls, hflight, hfence, hnodup⟩ := hh
  have hw : w.work i = y := hb.2.work_eq
  have hset : kind.source.settled = true := by cases kind <;> rfl
  have hk := hb.1.keeps
  have hstate : (w.slot i).ctx.state = kind.source := by rw [State.slot_ctx, hw, hc.state]
  have hpassw : (w.slot i).pass = (s.slot i).pass := by rw [State.slot_pass, hw, hc.pass]; rfl
  have hholdw : (w.slot i).pass.hold = h :: rest := by rw [hpassw, hhold]
  have hnodupw : ((w.slot i).pass.hold.map (fun e => e.cmd.args.tag)).Nodup := by rw [hpassw]; exact hnodup
  have h1 := State.settle_finishes hholdw hcls (by rw [hpassw, hflight])
    (by rw [State.slot_fence, hw, hc.fence]; exact hfence) (by rw [hstate, hset]) (by rw [hstate]; exact hr)
    hnodupw (by rw [hstate]; exact hrest) (by rw [hk.park]; exact hlow)
    (fun e => by
      have hmap : (w.slot i).ctx.map = (s.slot i).ctx.map := by rw [State.slot_ctx, hw, hc.map]; rfl
      rw [State.overdrawn, hmap]
      exact hb.1.clear (hover e))
  rw [hw, hk.profile, hk.now] at h1
  obtain ⟨hleaves, hst⟩ := h1
  have hpass : (y.finished s.profile s.now h).pass = { (s.slot i).pass with hold := rest, demand := none } := by
    rw [Slot.finished_pass s.profile s.now (x := y) (by rw [← hw]; exact hholdw) hcls
      (by rw [← hw]; exact hnodupw), hc.pass]
    rfl
  have hpd := Slot.finished_passed s.profile s.now h y
  have hraise : (y.finished s.profile s.now h).demanding.raise = if rest = [] then none else some kind := by
    have hst' : (y.finished s.profile s.now h).ctx.state = kind.source := hpd.state.trans hc.state
    have hhold' : (y.finished s.profile s.now h).pass.hold = rest := by rw [hpass]
    have hraise := HeadAbove.raise (x := y.finished s.profile s.now h) (kind := kind)
      (by rw [hhold', hst']; exact hrest) hst'
    rwa [hhold'] at hraise
  have hcame : (State.settle i w).work i = (y.finished s.profile s.now h).demanding →
      s.CameTo (State.settle i w) i kind.source s.now ∧ ((State.settle i w).slot i).ctx.outstanding = .none
        ∧ ((State.settle i w).slot i).ctx.lastActivity = s.now
        ∧ ((State.settle i w).slot i).ctx.idleTimer
          = ((State.settle i w).slot i).idleFrom s.profile s.now kind.source := fun hwork => by
    refine ⟨State.cameTo_of_came hc hpw (by rw [hwork]; exact hpd.demanding) fun e => ?_, ?_, ?_, ?_⟩
    · rw [hhold] at e
      cases e
    · rw [State.slot_ctx, hwork, hpd.demanding.outstanding, hc.outstanding]
      cases kind <;> rfl
    · rw [State.slot_ctx, hwork]
      rfl
    · have hidle : ((State.settle i w).slot i).ctx.idleTimer
          = (y.begun.withPass fun a => a.dropHeld h.cmd.args.tag).idleFrom s.profile s.now y.ctx.state := by
        rw [State.slot_ctx, hwork]
        exact Slot.act_idleTimer _ _ _
      rw [hidle, hc.state]
      have hmap : ((State.settle i w).slot i).ctx.map = y.ctx.map := by rw [State.slot_ctx, hwork]; rfl
      have hp : ((State.settle i w).slot i).pass.hold = (y.begun.pass.dropHeld h.cmd.args.tag).hold
          ∧ ((State.settle i w).slot i).pass.flight = (y.begun.pass.dropHeld h.cmd.args.tag).flight := by
        rw [State.slot_pass, hwork]
        exact ⟨rfl, rfl⟩
      exact (Slot.idleFrom_congr (x := y.begun.withPass fun a => a.dropHeld h.cmd.args.tag) _ _ _ hmap
        (by rw [hp.1]; rfl) (by rw [hp.2]; rfl)).symm
  refine ⟨?_, fun hs hf => ?_, ?_⟩
  · rw [hst.pass]
    simp only [Slot.demanding, Slot.withPass, hpass, HeadAbove.demand hrest]
  · have hup : (State.settle i w).up i = (w.performed i h).up i :=
      hleaves.up_busy ((w.performed_flows i h).sending (hb.1.sending hs))
    rw [State.up_performed (hb.1.sending hs) hholdw hcls hnodupw hf, hb.1.up_busy hs, hstate] at hup
    exact hup
  · rw [hraise] at hst
    by_cases hnil : rest = []
    · rw [if_pos hnil] at hst
      obtain ⟨h1, h2, h3, h4⟩ := hcame hst.work_eq
      exact .inl ⟨h1, h2, h3, h4, fun _ => hst.noEntry, fun e => absurd hnil e⟩
    · rw [if_neg hnil] at hst
      rcases hst.entry_or_granted with ⟨hwork, hmem⟩ | hgr
      · obtain ⟨h1, h2, h3, h4⟩ := hcame hwork
        refine .inl ⟨h1, h2, h3, h4, fun e => absurd e hnil, fun _ => ?_⟩
        have hmap : (y.finished s.profile s.now h).demanding.ctx.map = (s.slot i).ctx.map :=
          hpd.map.trans hc.map
        rwa [Slot.entry, hmap] at hmem
      · exact .inr ⟨hnil, hgr⟩

end performed

end Sys2Proof.Machine
end

section
/-! PROOFS. A drive that unloads: its slot in SPUN, by UNLOAD DONE and by a self-unload. -/

namespace Sys2Proof.Machine

/-! ## A step that lands -/

/-- From s to v, slot i came by no raising transition into a state, before the admission unit reacts. -/
structure State.Lands (i : SlotId) (st : SlotSt) (s v : State) : Prop where
  keeps : s.Keeps v
  onlyAt : s.OnlyAt i v
  up : v.up i = s.up i
  noEntry : v.NoEntry i
  came : (s.work i).Came s.profile s.now st (v.work i)

section lands

variable {i : SlotId} {s v : State} {st : SlotSt} {h : HoldEntry} {pass rest : List HoldEntry} {target : Level}

/-- The reaction leaves a slot that landed, with work to do or in a bank not in OVERDRAW. -/
theorem State.Lands.bears (hl : s.Lands i st v)
    (hs : (v.work i).Busy ∨ (s.bank (s.slot i).ctx.map.bank).overdraw = false) (was : Slot) :
    State.Bears i none (v.work i) s (State.react was i v) := by
  have hleaves := hl.onlyAt.leaves_self hl.keeps hl.up
  refine State.Bears.react (t := v) ⟨hleaves, .of_work (Eq.refl _) hl.noEntry (hs.imp id fun ho => ?_)⟩ was i
  rw [hl.came.map]
  exact hleaves.clear ho

/-- With nothing held the slot stands where it landed. -/
theorem State.Lands.settles (hl : s.Lands i st v) (hh : (s.slot i).pass.hold = [])
    (ho : (s.slot i).pass.flight = [] → s.overdrawn i = false) (hlow : s.park.lowering = false) (was : Slot) :
    State.Bears i none (v.work i).demanding s (State.settle i (State.react was i v)) := by
  have hb := hl.bears (by
    by_cases hf : (s.slot i).pass.flight = []
    · exact .inr (ho hf)
    · exact .inl (.inr (.inl (by rw [hl.came.pass]; exact hf)))) was
  exact hb.settle_idle (by rw [hl.came.pass]; exact hh) hlow

/-- The claims' word for a slot that stands where it landed. -/
theorem State.Lands.idle (hl : s.Lands i st v) (hp : st.powered = true) (hh : (s.slot i).pass.hold = [])
    (ho : (s.slot i).pass.flight = [] → s.overdrawn i = false) (hlow : s.park.lowering = false) (was : Slot) :
    s.CameTo (State.settle i (State.react was i v)) i st s.now
      ∧ ((State.settle i (State.react was i v)).slot i).ctx.outstanding = st.outstanding
      ∧ ((State.settle i (State.react was i v)).slot i).ctx.stepDeadline
        = classDeadline ((s.slot i).classIn s.profile) s.now st := by
  have ht := (hl.settles hh ho hlow was).2.work_eq
  refine ⟨State.cameTo_of_came hl.came hp (by rw [ht]; exact Slot.Passed.rfl.demanding) fun _ => by rw [ht]; rfl,
    ?_, ?_⟩
  · rw [State.slot_ctx, ht]
    exact hl.came.outstanding
  · rw [State.slot_ctx, ht]
    exact hl.came.deadline

/-- Held commands are served where the slot landed (R109, R113). -/
theorem State.Lands.served {kind : Kind} (hl : s.Lands i kind.source v) (hr : 2 ≤ kind.source.rank)
    (hh : (s.slot i).HeldAs kind.source pass rest) (hlow : s.park.lowering = false) (was : Slot) :
    s.ServedIn (State.settle i (State.react was i v)) i kind pass rest := by
  have hpw : kind.source.powered = true := by cases kind <;> first | rfl | exact absurd hr (by decide)
  have hpass : (v.work i).pass = (s.slot i).pass := hl.came.pass
  have hheld : (v.work i).HeldAs kind.source pass rest := by
    obtain ⟨h1, h2, h3, h4, h5, h6⟩ := hh
    refine ⟨?_, ?_, ?_, ?_, h5, h6⟩
    · rw [hpass, h1]
    · rw [hpass]; exact h2
    · rw [hl.came.fence]; exact h3
    · rw [hpass]; exact h4
  have hb := hl.bears (.inl (.inl hheld.2.1)) was
  exact State.servedIn_of_came hl.came hpw hheld
    (hb.settle_passing (by rw [hl.came.state]; exact hheld) (by rw [hl.came.state]; exact hr) hlow)

theorem Op.lowering_target {op : Op} {l : Level} (h : op.cls = .lowering l) (hl : l ≠ .spun) :
    l.rank < SlotSt.spun.rank := by
  cases op <;> cases h
  · exact absurd (Eq.refl _) hl
  · decide
  · decide

/-- The lowering entry in progress at the head of a slot that landed in SPUN (R110). -/
theorem State.Lands.performed_spun (hl : s.Lands i .spun v) (hh : (s.slot i).PerformsHead h rest target)
    (was : Slot) :
    s.PerformedOn (State.settle i (State.react was i v)) i .spun s.now h rest target := by
  obtain ⟨hhold, hprog, hcls, hflight, hfence, hnodup⟩ := id hh
  have hpass : (v.work i).pass = (s.slot i).pass := hl.came.pass
  have hb := hl.bears (.inl (.inl (by rw [hpass, hhold]; exact List.cons_ne_nil _ _))) was
  have hw := hb.2.work_eq
  generalize State.react was i v = w at hb hw
  have hstate : (w.slot i).ctx.state = .spun := by rw [State.slot_ctx, hw, hl.came.state]
  have hpassw : (w.slot i).pass = (s.slot i).pass := by rw [State.slot_pass, hw, hpass]
  have hdown : target ≠ .spun →
      State.Bears i none ((v.work i).steppedDown s.profile s.now) s (State.settle i w) := fun hne => by
    have h1 := State.settle_lowers (s := w) (i := i) (by rw [hpassw, hhold]) hcls (by rw [hpassw, hflight])
      (by rw [State.slot_fence, hw, hl.came.fence]; exact hfence) (.inr hstate)
      (by rw [hstate]; exact Op.lowering_target hcls hne)
    rw [hw, hb.1.keeps.profile, hb.1.keeps.now] at h1
    exact ⟨hb.1.trans h1.1, h1.2⟩
  have hbegin : h.begin = { h with deadline := none } := by rw [HoldEntry.begin, ← hprog]
  refine ⟨fun e => (by cases e), fun _ hne => ?_, fun e => ?_, fun _ htarget => ?_, fun e => (by cases e),
    fun e => ?_⟩
  · have hwork := (hdown hne).2.work_eq
    have hst : (v.work i).ctx.state.below = .stopping := by rw [hl.came.state]; rfl
    have hcharge : ((State.settle i w).slot i).charge
        = min (s.slot i).charge (ClassEntry.current ((s.slot i).classIn s.profile) .stopping) := by
      rw [State.slot_charge, hwork, Slot.steppedDown, hst, Slot.enter_charge, Slot.chargeOn_down _ _ (by rfl)]
      have h1 : (v.work i).begun.charge = (s.work i).chargeOn s.profile .spun false := hl.came.charge
      have h2 : (v.work i).begun.classIn s.profile = (s.slot i).classIn s.profile :=
        Slot.classIn_congr _ hl.came.map
      have h3 : (s.work i).classIn s.profile = (s.slot i).classIn s.profile := rfl
      rw [h1, h2, Slot.chargeOn_down _ _ (by rfl), h3, min_assoc]
      simp only [ClassEntry.current, min_self]
      rfl
    refine ⟨⟨?_, hcharge, ?_, fun e => ?_⟩, ?_, ?_⟩
    · rw [State.slot_ctx, hwork, Slot.steppedDown, hst]; rfl
    · rw [State.slot_port, hwork, Slot.steppedDown, hst]
      exact Slot.enter_query _ _ _ _ _ (by rfl)
    · rw [hhold] at e
      cases e
    · rw [State.slot_ctx, hwork, Slot.steppedDown, hst]; rfl
    · rw [State.slot_ctx, hwork, Slot.steppedDown, hst]
      change classDeadline ((v.work i).begun.classIn s.profile) s.now .stopping = _
      rw [Slot.classIn_congr (x := (v.work i).begun) (y := s.slot i) _ hl.came.map]
      rfl
  · have hne : target ≠ .spun := e.elim (fun e => by cases e) fun e => e.2
    have hb' := hdown hne
    refine ⟨?_, fun hwk => hb'.1.up hwk.upWorking⟩
    rw [hb'.2.pass, Slot.steppedDown, Slot.enter_pass, Slot.begun_pass (by rw [hpass, hhold]) hcls, hpass,
      hbegin]
  · exact State.performedAt_of_came (kind := .load) hb hl.came (by rfl) hh (by rw [htarget]; decide)
  · rcases e with e | ⟨e, -⟩ <;> cases e

end lands

/-! ## UNLOAD DONE and self-unload -/

section unload

variable (s : State) (i : SlotId)

/-- The state in which a drive's UNLOAD has ended in SPUN, before the admission unit reacts (R16, R84). -/
def State.unloadLanded : State :=
  ((if (s.slot i).ctx.emergency then
      (s.submit i .emergencyUnload none (some (s.slot i).requeues) (s.slot i).ctx.state
        (s.slot i).pass.hold.length).modCtx i (fun c => { c with emergency := false })
    else s).enter i .spun false false).active i

theorem State.unloadDone_eq :
    s.unloadDone i = State.settle i (State.react (s.slot i) i (s.unloadLanded i)) := rfl

/-- The state in which a drive has unloaded by itself, before the admission unit reacts (R19). -/
def State.selfLanded : State :=
  ((s.submit i .selfUnload none none (s.slot i).ctx.state (s.slot i).pass.hold.length).enter i .spun
    false false).modCtx i (fun c => { c with emergency := false })

theorem State.selfUnload_eq (h : (s.slot i).ctx.state = .loaded ∨ (s.slot i).ctx.state = .loading
    ∨ (s.slot i).ctx.state = .unloading) :
    s.selfUnload i = State.react (s.slot i) i (s.selfLanded i) := by
  unfold State.selfUnload
  rcases h with h | h | h <;> simp only [h] <;> rw [State.selfLanded, h]

theorem State.work_selfLanded :
    (s.selfLanded i).work i
      = (let y := ((s.work i).noted s.profile s.motion.state .selfUnload none none (s.slot i).ctx.state
          (s.slot i).pass.hold.length).enter s.profile s.now .spun false false
        { y with ctx := { y.ctx with emergency := false } }) := by
  rw [State.selfLanded, State.work_modCtx, State.work_enter, State.work_submit]
  rfl

theorem State.lands_self : s.Lands i .spun (s.selfLanded i) where
  keeps := (((State.Keeps.rfl s).submit i _ _ _ _ _).enter i _ _ _).modCtx i _ fun _ => rfl
  onlyAt := ((State.OnlyAt.rfl.submit _ _ _ _ _).enter _ _ _).modCtx _
  up := by rw [State.selfLanded, State.up_modCtx, State.up_enter, State.up_submit]
  noEntry := (State.enter_noEntry _ i .spun false false).of_queue_eq (Eq.refl _)
  came := by
    rw [State.work_selfLanded]
    have h := Slot.came_enter (st := .spun) s.profile s.now false
      ((s.work i).noted s.profile s.motion.state .selfUnload none none (s.slot i).ctx.state
        (s.slot i).pass.hold.length) rfl
    exact Slot.Came.calmed (h.of_like (x := s.work i) rfl rfl rfl rfl rfl)

theorem State.work_unloadLanded :
    (s.unloadLanded i).work i
      = ((if (s.slot i).ctx.emergency then
            { (s.work i).noted s.profile s.motion.state .emergencyUnload none (some (s.slot i).requeues)
                (s.slot i).ctx.state (s.slot i).pass.hold.length with
              ctx := { (s.work i).ctx with emergency := false } }
          else s.work i).enter s.profile s.now .spun false false).act s.profile s.now := by
  unfold State.unloadLanded
  split
  · rw [State.work_active, State.work_enter, State.work_modCtx, State.work_submit]
    rfl
  · rw [State.work_active, State.work_enter]
    rfl

theorem State.lands_unload : s.Lands i .spun (s.unloadLanded i) where
  keeps := by
    unfold State.unloadLanded
    split
    · exact ((((State.Keeps.rfl s).submit i _ _ _ _ _).modCtx i
        (fun c => { c with emergency := false }) fun _ => rfl).enter i _ _ _).active i
    · exact ((State.Keeps.rfl s).enter i _ _ _).active i
  onlyAt := by
    unfold State.unloadLanded
    split
    · exact (((State.OnlyAt.rfl.submit _ _ _ _ _).modCtx _).enter _ _ _).active
    · exact (State.OnlyAt.rfl.enter _ _ _).active
  up := by
    unfold State.unloadLanded
    rw [State.up_active, State.up_enter]
    split
    · rw [State.up_modCtx, State.up_submit]
    · rfl
  noEntry := (State.enter_noEntry _ i .spun false false).of_queue_eq (Eq.refl _)
  came := by
    rw [State.work_unloadLanded]
    have h := fun y : Slot => Slot.came_enter (st := .spun) s.profile s.now false y rfl
    refine ((h _).of_like ?_ ?_ ?_ ?_ ?_).act <;> split <;> rfl

end unload

end Sys2Proof.Machine
end

section
/-! PROOFS. What UNLOAD DONE and a self-unload report. -/

namespace Sys2Proof.Machine

section reported

variable {i : SlotId} {s t v : State}

/-- What a slot reports after all that follows its landing. -/
theorem State.Lands.silent {st : SlotSt} (hl : s.Lands i st v) (was : Slot) :
    (v.work i).Silent s.now ((State.settle i (State.react was i v)).work i) :=
  hl.keeps.now ▸ ((v.silent_react was i).trans (State.silent_settle i _)).slots i

/-- A CONTROL_REPLY to an operation of a step is taken against the outstanding one (R8). -/
theorem State.takeControlReply_step (hp : (s.slot i).ctx.state.powered = true) {a b : Byte} {op : ControlOp}
    {ans : Answer} (hop : controlOpOf a = some op) (ha : answerOf b = some ans) (h1 : op ≠ .query)
    (h2 : op ≠ .cancelAll) : s.takeControlReply i a b = s.replyToStep i op ans := by
  unfold State.takeControlReply
  rw [hp, hop, ha]
  cases op with
  | query => exact absurd rfl h1
  | cancelAll => exact absurd rfl h2
  | spin | load | unload | stop => rfl

theorem exec_controlReply (hr : s.DriveReady i) (a b : Byte) :
    exec (.controlReply i a b) s = .next (s.takeControlReply i a b) :=
  congrArg Host.Outcome.next (State.arriveDrive_ready hr _)

theorem exec_unloadDone (hr : s.DriveReady i) (hs : (s.slot i).ctx.state = .unloading)
    (ho : (s.slot i).ctx.outstanding = .unload) :
    exec (.controlReply i 0x03 0x03) s
      = .next (State.settle i (State.react (s.slot i) i (s.unloadLanded i))) := by
  have hp : (s.slot i).ctx.state.powered = true := by rw [hs]; rfl
  have hreply : s.replyToStep i .unload .done = s.unloadDone i := by
    unfold State.replyToStep
    rw [ho]
  rw [exec_controlReply hr, State.takeControlReply_step hp (op := .unload) (ans := .done) rfl rfl
    ControlOp.noConfusion ControlOp.noConfusion, hreply, State.unloadDone_eq]

theorem exec_selfUnload (hr : s.DriveReady i) (hs : (s.slot i).ctx.state = .loaded
    ∨ (s.slot i).ctx.state = .loading ∨ (s.slot i).ctx.state = .unloading) :
    exec (.driveAlertSelfUnload i) s
      = .next (State.settle i (State.react (s.slot i) i (s.selfLanded i))) := by
  change Host.Outcome.next (s.arriveDrive i _) = _
  rw [State.arriveDrive_ready hr, ← State.selfUnload_eq s i hs]
  change Host.Outcome.next (s.takeSelfUnload i) = _
  unfold State.takeSelfUnload
  rcases hs with h | h | h <;> rw [h]

theorem exec_selfUnload_discarded (hr : s.DriveReady i) (h1 : (s.slot i).ctx.state ≠ .loaded)
    (h2 : (s.slot i).ctx.state ≠ .loading) (h3 : (s.slot i).ctx.state ≠ .unloading) :
    exec (.driveAlertSelfUnload i) s = .next s := by
  change Host.Outcome.next (s.arriveDrive i _) = _
  rw [State.arriveDrive_ready hr]
  change Host.Outcome.next (s.takeSelfUnload i) = _
  unfold State.takeSelfUnload
  split
  · next h => exact absurd h h1
  · next h => exact absurd h h2
  · next h => exact absurd h h3
  · rfl

end reported

/-- Settles O27: the slot lands in SPUN, and what is held is served or performed from there. -/
theorem unloadDoneReports : Obligations.UnloadDoneReports := by
  unfold Obligations.UnloadDoneReports
  intro s i hr hst hout hlow
  have hexec := exec_unloadDone hr hst hout
  have hl := State.lands_unload s i
  have hk : s.Keeps (State.settle i (State.react (s.slot i) i (s.unloadLanded i))) :=
    (hl.keeps.react _ _).settle i
  have hsilent := hl.silent (s.slot i)
  have hwork := State.work_unloadLanded s i
  have hidle := fun h1 h2 => hl.idle rfl h1 h2 hlow (s.slot i)
  have hserved := fun pass rest h1 => State.Lands.served (kind := .load) (pass := pass) (rest := rest) hl
    (by decide) h1 hlow (s.slot i)
  have hperformed := fun h rest target h1 => State.Lands.performed_spun (h := h) (rest := rest)
    (target := target) hl h1 (s.slot i)
  generalize State.settle i (State.react (s.slot i) i (s.unloadLanded i)) = t at *
  have hreport : (t.slot i).ctx.emergency = false
      ∧ (t.slot i).record
        = (if (s.slot i).ctx.emergency then
             recordAfter (s.slot i).record .emergencyUnload none .unloading s.motion.state
               (s.slot i).pass.hold.length (some (s.slot i).requeues)
           else (s.slot i).record)
      ∧ (t.slot i).notice
        = ((s.slot i).notice || ((s.slot i).ctx.emergency && s.profile.motionNotice))
      ∧ (t.slot i).ctx.lastActivity = s.now ∧ s.RestKept t ∧ t.now = s.now := by
    refine ⟨hsilent.emergency ?_, hsilent.record.trans ?_, hsilent.notice.trans ?_,
      hsilent.activity_now ?_, hk.rest, hk.now⟩
    all_goals rw [hwork]
    · cases he : (s.slot i).ctx.emergency with
      | true => rfl
      | false => exact he
    · cases he : (s.slot i).ctx.emergency with
      | true => rw [← hst]; rfl
      | false => rfl
    · cases he : (s.slot i).ctx.emergency with
      | true =>
        rw [Bool.true_and, Bool.or_comm]
        rfl
      | false => exact (Bool.or_false _).symm
    · rfl
  refine ⟨fun hh ho => ?_, fun pass rest hh => ?_, fun h rest target hh => ?_⟩
  · obtain ⟨h1, h2, h3⟩ := hidle hh ho
    exact ⟨t, hexec, h1, h2, h3, hreport⟩
  · exact ⟨t, hexec, hserved pass rest hh, hreport⟩
  · exact ⟨t, hexec, hperformed h rest target hh, hreport⟩

/-- Settles O30: the slot lands in SPUN, as it does by UNLOAD DONE, with its own sense entry. -/
theorem selfUnloadLeadsToSpun : Obligations.SelfUnloadLeadsToSpun := by
  unfold Obligations.SelfUnloadLeadsToSpun
  intro s i hr
  refine ⟨fun hst hlow => ?_, exec_selfUnload_discarded hr⟩
  have hexec := exec_selfUnload hr hst
  have hl := State.lands_self s i
  have hk : s.Keeps (State.settle i (State.react (s.slot i) i (s.selfLanded i))) :=
    (hl.keeps.react _ _).settle i
  have hsilent := hl.silent (s.slot i)
  have hwork := State.work_selfLanded s i
  have hidle := fun h1 h2 => hl.idle rfl h1 h2 hlow (s.slot i)
  have hserved := fun pass rest h1 => State.Lands.served (kind := .load) (pass := pass) (rest := rest) hl
    (by decide) h1 hlow (s.slot i)
  have hperformed := fun h rest target h1 => State.Lands.performed_spun (h := h) (rest := rest)
    (target := target) hl h1 (s.slot i)
  generalize State.settle i (State.react (s.slot i) i (s.selfLanded i)) = t at *
  have hreport : (t.slot i).ctx.emergency = false
      ∧ (t.slot i).record
        = recordAfter (s.slot i).record .selfUnload none (s.slot i).ctx.state s.motion.state
            (s.slot i).pass.hold.length none
      ∧ s.RestKept t ∧ t.now = s.now := by
    exact ⟨hsilent.emergency (by rw [hwork]), hsilent.record.trans (by rw [hwork]; rfl), hk.rest, hk.now⟩
  refine ⟨fun hh ho => ?_, fun pass rest hh => ?_, fun h rest target hh => ?_⟩
  · obtain ⟨h1, h2, h3⟩ := hidle hh ho
    exact ⟨t, hexec, h1, h2, h3, hreport⟩
  · exact ⟨t, hexec, hserved pass rest hh, hreport⟩
  · exact ⟨t, hexec, hperformed h rest target hh, hreport⟩

end Sys2Proof.Machine
end

section
/-! PROOFS. A command that a drive returns with its heads unloaded: requeued, or ended, and the self-unload behind it. -/

namespace Sys2Proof.Machine

/-! ## The arrival of a completion -/

section arrival

variable {i : SlotId} {s : State} {r : DriveReport} {f : InFlight}

theorem exec_driveCompletion (hr : s.DriveReady i) (r : DriveReport) :
    exec (.driveCompletion i r) s = .next (s.takeCompletion i r) :=
  congrArg Host.Outcome.next (State.arriveDrive_ready hr _)

theorem State.routes_iff : s.routes i = true
    ↔ (s.slot i).ctx.state.powered = true ∧ (s.slot i).port.cancelPending = false := by
  simp [State.routes]

/-- A completion of a command that is in flight (R114, R115). -/
theorem State.takeCompletion_flight (hp : s.routes i = true) (hop : r.op ≠ 0x3F)
    (hf : (s.slot i).pass.flight? r.tag = some f) :
    s.takeCompletion i r
      = if r.code = codeUnloadedAbort || r.code = codeNotLoaded then s.unloadAborted i r f
        else State.settle i ((s.removeFlight i r.tag).passUp i r) := by
  unfold State.takeCompletion
  rw [hp, if_neg (by decide), if_neg (by exact hop), hf]

theorem exec_unloadAborted (hr : s.DriveReady i) (h1 : (s.slot i).ctx.state.powered = true)
    (h2 : (s.slot i).port.cancelPending = false) (hop : r.op ≠ 0x3F) (hc : r.code = 0x02 ∨ r.code = 0x03)
    (hf : (s.slot i).pass.flight? r.tag = some f) :
    exec (.driveCompletion i r) s = .next (s.unloadAborted i r f) := by
  rw [exec_driveCompletion hr, State.takeCompletion_flight (State.routes_iff.mpr ⟨h1, h2⟩) hop hf, if_pos]
  rcases hc with hc | hc <;> rw [hc] <;> rfl

theorem Passage.flight?_tag {a : Passage} {g : Tag} (h : a.flight? g = some f) : f.cmd.args.tag = g := by
  simpa using List.find?_some h

end arrival

/-! ## A self-unload that a completion reports -/

section notLoaded

variable {i : SlotId} {s t : State}

theorem Slot.demanding_pass_nil {x : Slot} (h : x.pass.hold = []) :
    x.demanding.pass = { x.pass with demand := none } := by
  simp only [Slot.demanding, Slot.withPass, h, demandOf]

/-- The end of a returned command from a slot with nothing held: it stays, or is found self-unloaded (R19). -/
theorem State.settle_notLoaded (r : DriveReport) (hh : (s.slot i).pass.hold = [])
    (ho : s.overdrawn i = false) (hlow : s.park.lowering = false) :
    s.Leaves i (State.settle i (s.reportNotLoaded i r))
      ∧ ((State.settle i (s.reportNotLoaded i r)).slot i).pass = { (s.slot i).pass with demand := none }
      ∧ ((State.settle i (s.reportNotLoaded i r)).slot i).requeues = (s.slot i).requeues
      ∧ (r.code = 0x03 ∧ (s.slot i).ctx.state = .loaded →
          ((State.settle i (s.reportNotLoaded i r)).slot i).ctx.state = .spun
          ∧ ((State.settle i (s.reportNotLoaded i r)).slot i).ctx.emergency = false
          ∧ ((State.settle i (s.reportNotLoaded i r)).slot i).record
            = recordAfter (s.slot i).record .selfUnload none .loaded s.motion.state 0 none)
      ∧ (¬ (r.code = 0x03 ∧ (s.slot i).ctx.state = .loaded) →
          ((State.settle i (s.reportNotLoaded i r)).slot i).ctx.state = (s.slot i).ctx.state
          ∧ ((State.settle i (s.reportNotLoaded i r)).slot i).record = (s.slot i).record) := by
  by_cases hsu : r.code = 0x03 ∧ (s.slot i).ctx.state = .loaded
  · obtain ⟨hcode, hst⟩ := id hsu
    have hrep : s.reportNotLoaded i r = State.react (s.slot i) i (s.selfLanded i) := by
      rw [← State.selfUnload_eq s i (.inl hst), State.reportNotLoaded, hcode, hst]
      rfl
    have hb := (State.lands_self s i).settles hh (fun _ => ho) hlow (s.slot i)
    rw [hrep]
    generalize State.settle i (State.react (s.slot i) i (s.selfLanded i)) = t at *
    have hw := hb.2.work_eq
    rw [State.work_selfLanded] at hw
    refine ⟨hb.1, ?_, ?_, fun _ => ⟨?_, ?_, ?_⟩, fun hn => absurd hsu hn⟩
    · rw [State.slot_pass, hw]
      exact Slot.demanding_pass_nil (by exact hh)
    · rw [State.slot_requeues, hw]; rfl
    · rw [State.slot_ctx, hw]; rfl
    · rw [State.slot_ctx, hw]; rfl
    · rw [State.slot_record, hw, hst, hh]; rfl
  · have hrep : s.reportNotLoaded i r = s := by
      unfold State.reportNotLoaded
      split
      · next h =>
        simp only [Bool.and_eq_true, decide_eq_true_eq, beq_iff_eq] at h
        exact absurd h hsu
      · rfl
    have hwaits : (s.work i).Waits := .inr fun e he => by
      rw [← State.slot_pass, hh] at he
      cases he
    have hraise : (s.work i).demanding.raise = none := Slot.raise_of_demand_none (by
      simp only [Slot.demanding, Slot.withPass, ← State.slot_pass, hh, demandOf])
    have hb := State.settle_bears hwaits (.inr hraise) (fun _ => .inr ho) (.inl hlow)
    rw [hraise] at hb
    rw [hrep]
    generalize State.settle i s = t at *
    have hw := hb.2.work_eq
    refine ⟨hb.1, ?_, ?_, fun h => absurd h hsu, fun _ => ⟨?_, ?_⟩⟩
    · rw [State.slot_pass, hw]
      exact Slot.demanding_pass_nil (by exact hh)
    · rw [State.slot_requeues, hw]; rfl
    · rw [State.slot_ctx, hw]; rfl
    · rw [State.slot_record, hw]; rfl

/-- A command ended by the part with a sense entry, on a busy link. -/
theorem State.up_completeSensed_busy (hs : s.ctrl.sending ≠ none) {c : Cmd} (hc : c.args.slot = fieldOfSlot i)
    {code : Byte} (h : code ≠ codeOk) (sense : SenseCode) :
    (s.completeSensed i c code sense).up i
      = s.up i ++ [interposerAnswer c code (fullCount c.args) (s.slot i).ctx.state
          (s.slot i).pass.hold.length] := by
  change (s.refuse i { op := c.op, args := c.args } code sense).up i = _
  rw [State.refuse_eq s hc h, State.up_submit, State.up_active, State.up_handUp_busy hs]

theorem State.removeFlight_onlyAt (s : State) (i : SlotId) (g : Tag) : s.OnlyAt i (s.removeFlight i g) :=
  State.OnlyAt.rfl.removeFlight g

theorem State.up_removeFlight (s : State) (i j : SlotId) (g : Tag) : (s.removeFlight i g).up j = s.up j :=
  (State.up_modPort _ _ _ _).trans (State.up_modPass _ _ _ _)

end notLoaded

/-! ## The command that is not requeued -/

/-- The state in which a returned command has ended (R116). -/
def State.endedAs (s : State) (i : SlotId) (tag : Tag) (c : Cmd) (code : Byte) (sense : SenseCode) : State :=
  (s.removeFlight i tag).completeSensed i c code sense

section ended

variable (s : State) (i : SlotId) (tag : Tag) (c : Cmd) (code : Byte) (sense : SenseCode)

theorem State.endedAs_slot :
    ((s.endedAs i tag c code sense).slot i).pass = (s.slot i).pass.dropFlight tag
      ∧ ((s.endedAs i tag c code sense).slot i).requeues = (s.slot i).requeues
      ∧ ((s.endedAs i tag c code sense).slot i).ctx.state = (s.slot i).ctx.state
      ∧ ((s.endedAs i tag c code sense).slot i).ctx.map = (s.slot i).ctx.map
      ∧ ((s.endedAs i tag c code sense).slot i).record
        = recordAfter (s.slot i).record sense (some c.args.tag) (s.slot i).ctx.state s.motion.state
            (s.slot i).pass.hold.length none := by
  have hst : ((s.removeFlight i tag).slot i).ctx.state = (s.slot i).ctx.state := by
    rw [State.slot_ctx, State.work_removeFlight]; rfl
  have hhold : ((s.removeFlight i tag).slot i).pass.hold = (s.slot i).pass.hold := by
    rw [State.slot_pass, State.work_removeFlight]; rfl
  have hmotion : (s.removeFlight i tag).motion = s.motion := ((State.Keeps.rfl s).removeFlight i tag).motion
  have hw : (s.endedAs i tag c code sense).work i = _ := State.work_completeSensed _ i c code sense
  rw [hst, hhold, hmotion, State.work_removeFlight] at hw
  rw [State.slot_pass, State.slot_requeues, State.slot_ctx, State.slot_record, hw]
  exact ⟨rfl, rfl, rfl, rfl, rfl⟩

theorem State.endedAs_flows : s.Flows (s.endedAs i tag c code sense) :=
  State.OnlyAt.flows (i := i) ((s.removeFlight_onlyAt i tag).completeSensed c code sense)
    (((State.Keeps.rfl s).removeFlight i tag).completeSensed i c code sense)

theorem State.endedAs_overdrawn :
    (s.endedAs i tag c code sense).overdrawn i = s.overdrawn i := by
  have o : s.OnlyAt i (s.endedAs i tag c code sense) :=
    (s.removeFlight_onlyAt i tag).completeSensed c code sense
  obtain ⟨-, -, -, hmap, -⟩ := s.endedAs_slot i tag c code sense
  rw [State.overdrawn, hmap, o.bank]

theorem State.up_endedAs (hs : s.ctrl.sending ≠ none) (hc : c.args.slot = fieldOfSlot i) (h : code ≠ codeOk) :
    (s.endedAs i tag c code sense).up i
      = s.up i ++ [interposerAnswer c code (fullCount c.args) (s.slot i).ctx.state
          (s.slot i).pass.hold.length] := by
  have hst : ((s.removeFlight i tag).slot i).ctx.state = (s.slot i).ctx.state := by
    rw [State.slot_ctx, State.work_removeFlight]; rfl
  have hhold : ((s.removeFlight i tag).slot i).pass.hold = (s.slot i).pass.hold := by
    rw [State.slot_pass, State.work_removeFlight]; rfl
  rw [State.endedAs, State.up_completeSensed_busy (by exact hs) hc h, State.up_removeFlight, hst, hhold]

end ended

/-- Settles O24: the command ends with its answer and its entry, and a self-unload follows it. -/
theorem reissueLimitEndsTheCommand : Obligations.ReissueLimitEndsTheCommand := by
  unfold Obligations.ReissueLimitEndsTheCommand
  intro s i r f hr hp hcp hop hcode hf hend hh hlow ho
  let code : Byte := if f.abortForwarded then 0x01 else 0x47
  let sense : SenseCode := if f.abortForwarded then .aborted else .motionAbort
  have hcode0 : code ≠ codeOk := by
    simp only [code]
    split <;> decide
  have hexec := exec_unloadAborted hr hp hcp hop hcode hf
  have hun : s.unloadAborted i r f
      = State.settle i ((s.endedAs i r.tag f.cmd code sense).reportNotLoaded i r) := by
    unfold State.unloadAborted
    simp only [code, sense]
    cases ha : f.abortForwarded with
    | true => rfl
    | false =>
      have hre : f.reissue = 3 := hend.resolve_left (by rw [ha]; decide)
      simp only [Bool.false_eq_true, if_false, hre, Config.reissueLimit, lt_irrefl]
      rfl
  have hk := (State.Keeps.rfl s).unloadAborted i r f
  obtain ⟨hpass, hreq, hst, -, hrec⟩ := s.endedAs_slot i r.tag f.cmd code sense
  have hflows := s.endedAs_flows i r.tag f.cmd code sense
  obtain ⟨hl, h1, h2, h3, h4⟩ := State.settle_notLoaded (s := s.endedAs i r.tag f.cmd code sense) r
    (by rw [hpass]; exact hh) (by rw [State.endedAs_overdrawn]; exact ho)
    (by rw [hflows.keeps.park]; exact hlow)
  have hup := State.up_endedAs s i r.tag f.cmd code sense
  rw [hun] at hexec hk
  generalize State.settle i ((s.endedAs i r.tag f.cmd code sense).reportNotLoaded i r) = t at *
  rw [hst, hrec, hflows.keeps.motion, hh] at h3
  rw [hst, hrec, hh] at h4
  refine ⟨t, hexec, ?_, h2.trans hreq, fun hn => ?_, fun hsu => ?_, fun hs hc => ?_, hk.rest, hk.now⟩
  · rw [h1, hpass]
    rfl
  · exact ⟨(h4 hn).2, (h4 hn).1⟩
  · exact ⟨(h3 hsu).2.2, (h3 hsu).1, (h3 hsu).2.1⟩
  · have h := (hl.up_busy (hflows.sending hs)).trans (hup hs hc hcode0)
    rw [hh] at h
    exact h

end Sys2Proof.Machine
end

section
/-! PROOFS. A returned command that is held again, or swept under the transit lock. -/

namespace Sys2Proof.Machine

section requeued

variable {s : State} {i : SlotId} {f : InFlight}

/-- The requeue count of a slot after one more (R83). -/
def Slot.counted (x : Slot) : Nat := if x.ctx.emergency then min 8 (x.requeues + 1) else x.requeues

theorem Slot.countRequeue_eq (x : Slot) : x.countRequeue = { x with requeues := x.counted } := by
  unfold Slot.countRequeue Slot.counted
  split <;> rfl

/-- The state in which a returned command is held again (R83, R115). -/
def State.requeued (s : State) (i : SlotId) (f : InFlight) : State :=
  (s.requeue i f).modSlot i Slot.countRequeue

theorem State.requeued_onlyAt (s : State) (i : SlotId) (f : InFlight) : s.OnlyAt i (s.requeued i f) :=
  (State.OnlyAt.rfl.requeue f).modSlot _ fun x => by rw [Slot.countRequeue_eq]

theorem State.requeued_keeps (s : State) (i : SlotId) (f : InFlight) : s.Keeps (s.requeued i f) :=
  ((State.Keeps.rfl s).requeue i f).modSlot i _ fun x => by
    rw [Slot.countRequeue_eq]
    exact ⟨.inl rfl, rfl, rfl, rfl⟩

theorem State.up_requeued (s : State) (i : SlotId) (f : InFlight) : (s.requeued i f).up i = s.up i := by
  rw [State.requeued, State.up_modSlot _ _ _ _ fun x => by rw [Slot.countRequeue_eq], State.requeue,
    State.up_touchIdle, State.up_modPass, State.up_removeFlight]

/-- The entry that a returned command becomes. -/
def State.requeuedAs (s : State) (f : InFlight) : HoldEntry := requeuedEntry (s.now + s.profile.holdMs) f

theorem State.work_requeued (hh : (s.slot i).pass.hold = []) :
    (s.requeued i f).work i
      = { s.work i with
          pass :=
            { (s.work i).pass.dropFlight f.cmd.args.tag with hold := [s.requeuedAs f] }
          port := (s.work i).port.dropData f.cmd.args.tag
          ctx := { (s.work i).ctx with idleTimer := none }
          requeues := (s.slot i).counted } := by
  have hh : (s.work i).pass.hold = [] := hh
  have hk := (State.Keeps.rfl s).removeFlight i f.cmd.args.tag
  have hidle : ∀ y : Slot, y.pass.hold ≠ [] → y.touchIdle s.profile s.now
      = { y with ctx := { y.ctx with idleTimer := none } } := fun y hy => by
    have h := Slot.touchIdle_idleTimer s.profile s.now y
    rw [Slot.idleFrom_of_hold _ _ _ hy] at h
    change { y with ctx := { y.ctx with idleTimer := (y.touchIdle s.profile s.now).ctx.idleTimer } } = _
    rw [h]
  rw [State.requeued, State.work_modSlot _ _ _ fun x => by simp only [Slot.countRequeue_eq]; rfl, State.requeue,
    State.work_touchIdle, State.work_modPass, State.work_removeFlight, Slot.countRequeue_eq, State.modPass_profile,
    State.modPass_now, hk.profile, hk.now, hidle _ (by
      simp only [Slot.withPass, Passage.dropFlight, hh, insertRequeued]
      exact List.cons_ne_nil _ _)]
  simp only [Slot.withPass, Passage.dropFlight, hh, insertRequeued]
  rfl

/-- The part holds a returned command again (R115). -/
theorem State.unloadAborted_requeued (r : DriveReport) (h1 : f.abortForwarded = false) (h2 : f.reissue < 3) :
    s.unloadAborted i r f
      = State.settle i (((s.requeued i f).sweepRequeued i (s.requeuedAs f)).reportNotLoaded i r) := by
  unfold State.unloadAborted
  simp only [h1, Bool.false_eq_true, if_false, Config.reissueLimit, h2, if_true]
  rfl

theorem State.sweepRequeued_free (u : State) (i : SlotId) (e : HoldEntry) (h : u.lock = false) :
    u.sweepRequeued i e = u := by
  unfold State.sweepRequeued
  rw [h]
  rfl

theorem State.sweepRequeued_above (u : State) (i : SlotId) (e : HoldEntry) (h : u.lock = true)
    (ha : e.cmd.op.above u.profile.parkLevel = true) : u.sweepRequeued i e = u.sweepEntry i e := by
  unfold State.sweepRequeued
  rw [h, ha]
  rfl

/-! ## With no lock -/

theorem Op.need_media {op : Op} (h : op.cls = .media) : op.need = some .loaded := by
  simp [Op.need, h, OpClass.need]

/-- A slot with one media command held, below LOADED. -/
theorem Slot.waits_media {x : Slot} {e : HoldEntry} (h : x.pass.hold = [e]) (hc : e.cmd.op.cls = .media)
    (hs : x.ctx.state.holds .loaded = false) : x.Waits := by
  refine .inr fun g hg => ?_
  rw [h] at hg
  cases hg
  simp only [HoldEntry.Stops, hc, hs]

theorem Slot.demanding_pass_media {x : Slot} {e : HoldEntry} (h : x.pass.hold = [e]) (hc : e.cmd.op.cls = .media)
    (hp : e.inProgress = false) : x.demanding.pass = { x.pass with demand := some .loaded } := by
  simp only [Slot.demanding, Slot.withPass, h, demandOf, hp, Op.need_media hc, Bool.false_eq_true, if_false]

theorem Slot.demanding_raise_media {x : Slot} {e : HoldEntry} (h : x.pass.hold = [e])
    (hc : e.cmd.op.cls = .media) (hp : e.inProgress = false) (hs : x.ctx.state = .spun) :
    x.demanding.raise = some .load := by
  have hk : x.demanding.ctx.state.nextKind = some .load := by
    change x.ctx.state.nextKind = _
    rw [hs]
    rfl
  have hst : x.demanding.ctx.state = .spun := hs
  rw [Slot.raise_of_nextKind hk, Slot.demanding_pass_media h hc hp, hst]
  exact if_pos (by decide : SlotSt.spun.rank < demandRank (some Level.loaded))

/-- A media command that an UNLOADING slot's drive returned is held again (R115). -/
theorem State.settle_requeued_unloading (r : DriveReport) (hh : (s.slot i).pass.hold = [])
    (hc : f.cmd.op.cls = .media) (hst : (s.slot i).ctx.state = .unloading) :
    State.Bears i none ((s.requeued i f).work i).demanding (s.requeued i f)
      (State.settle i ((s.requeued i f).reportNotLoaded i r)) := by
  have hw := State.work_requeued (f := f) hh
  have hstate : ((s.requeued i f).work i).ctx.state = .unloading := by rw [hw]; exact hst
  have hhold : ((s.requeued i f).work i).pass.hold = [s.requeuedAs f] := by rw [hw]
  have hrep : (s.requeued i f).reportNotLoaded i r = s.requeued i f := by
    unfold State.reportNotLoaded
    rw [State.slot_ctx, hstate, if_neg (by simp)]
  have hraise : ((s.requeued i f).work i).demanding.raise = none := Slot.raise_of_nextKind_none (by
    change ((s.requeued i f).work i).ctx.state.nextKind = none
    rw [hstate]
    rfl)
  have hb := State.settle_bears (s := s.requeued i f) (i := i)
    (Slot.waits_media hhold hc (by rw [hstate]; rfl)) (.inr hraise)
    (fun _ => .inl (.inl (by rw [hhold]; exact List.cons_ne_nil _ _)))
    (.inr (by rw [hstate]; exact ⟨SlotSt.noConfusion, SlotSt.noConfusion⟩))
  rw [hrep]
  rwa [hraise] at hb

/-- A media command that a LOADED slot's drive returned NOT_LOADED is held again at the self-unloaded slot, and
asks for its load (R19, R115). -/
theorem State.settle_requeued_loaded {r : DriveReport} (hh : (s.slot i).pass.hold = [])
    (hc : f.cmd.op.cls = .media) (hst : (s.slot i).ctx.state = .loaded) (hr : r.code = 0x03)
    (hlow : s.park.lowering = false) :
    State.Bears i (some .load) (((s.requeued i f).selfLanded i).work i).demanding (s.requeued i f)
      (State.settle i ((s.requeued i f).reportNotLoaded i r)) := by
  have hw := State.work_requeued (f := f) hh
  have hstate : ((s.requeued i f).slot i).ctx.state = .loaded := by rw [State.slot_ctx, hw]; exact hst
  have hrep : (s.requeued i f).reportNotLoaded i r
      = State.react ((s.requeued i f).slot i) i ((s.requeued i f).selfLanded i) := by
    rw [← State.selfUnload_eq _ i (.inl hstate), State.reportNotLoaded, hr, hstate]
    rfl
  have hl := State.lands_self (s.requeued i f) i
  have hhold : (((s.requeued i f).selfLanded i).work i).pass.hold = [s.requeuedAs f] := by
    rw [hl.came.pass, hw]
  have hspun := hl.came.state
  have hb := hl.bears (.inl (.inl (by rw [hhold]; exact List.cons_ne_nil _ _))) ((s.requeued i f).slot i)
  rw [hrep]
  generalize State.react ((s.requeued i f).slot i) i ((s.requeued i f).selfLanded i) = w at hb ⊢
  have hww := hb.2.work_eq
  have hraise : (w.work i).demanding.raise = some .load := by
    rw [hww]
    exact Slot.demanding_raise_media hhold hc rfl hspun
  have h := State.settle_bears (s := w) (i := i)
    (by rw [hww]; exact Slot.waits_media hhold hc (by rw [hspun]; rfl)) (.inl hb.2.noEntry)
    (fun e => by rw [hraise] at e; cases e)
    (.inl (by rw [hb.1.keeps.park, (s.requeued_keeps i f).park]; exact hlow))
  rw [hraise, hww] at h
  exact ⟨hb.1.trans h.1, h.2⟩

/-! ## Under the lock -/

/-- The state in which a returned command is swept, its requeue counted (R83, R89). -/
def State.sweptAs (s : State) (i : SlotId) (f : InFlight) : State :=
  (s.requeued i f).sweepEntry i (s.requeuedAs f)

theorem State.sweptAs_onlyAt (s : State) (i : SlotId) (f : InFlight) : s.OnlyAt i (s.sweptAs i f) :=
  (s.requeued_onlyAt i f).sweepEntry _

theorem State.sweptAs_flows (s : State) (i : SlotId) (f : InFlight) : s.Flows (s.sweptAs i f) :=
  (s.sweptAs_onlyAt i f).flows ((s.requeued_keeps i f).sweepEntry i _)

/-- The requeued entry out of the queue again. -/
def State.sweptOut (s : State) (i : SlotId) (f : InFlight) : State :=
  (s.requeued i f).modPass i (fun p => p.dropHeld f.cmd.args.tag)

theorem State.sweptOut_slot (hh : (s.slot i).pass.hold = []) :
    ((s.sweptOut i f).slot i).ctx.state = (s.slot i).ctx.state
      ∧ ((s.sweptOut i f).slot i).pass = (s.slot i).pass.dropFlight f.cmd.args.tag := by
  have hw : (s.sweptOut i f).work i = _ := State.work_modPass _ i _
  rw [State.work_requeued hh] at hw
  rw [State.slot_ctx, State.slot_pass, hw]
  refine ⟨rfl, ?_⟩
  simp only [Passage.dropHeld, Passage.dropFlight, State.requeuedAs, requeuedEntry, List.filter_cons,
    bne_self_eq_false, Bool.false_eq_true, if_false, List.filter_nil]
  rw [← State.slot_pass, ← hh]

theorem State.sweptAs_slot (hh : (s.slot i).pass.hold = []) :
    ((s.sweptAs i f).slot i).pass = (s.slot i).pass.dropFlight f.cmd.args.tag
      ∧ ((s.sweptAs i f).slot i).requeues = (s.slot i).counted
      ∧ ((s.sweptAs i f).slot i).ctx.state = (s.slot i).ctx.state
      ∧ ((s.sweptAs i f).slot i).ctx.map = (s.slot i).ctx.map
      ∧ ((s.sweptAs i f).slot i).record
        = recordAfter (s.slot i).record .inTransit (some f.cmd.args.tag) (s.slot i).ctx.state s.motion.state
            0 none := by
  obtain ⟨hst, hpass⟩ := State.sweptOut_slot (f := f) hh
  have hmotion : (s.sweptOut i f).motion = s.motion := (s.requeued_keeps i f).motion
  have hw : (s.sweptAs i f).work i = _ := State.work_completeSensed (s.sweptOut i f) i f.cmd codeInTransit .inTransit
  have hout : (s.sweptOut i f).work i = _ := State.work_modPass _ i _
  have hhold : ((s.sweptOut i f).slot i).pass.hold = [] := by rw [hpass]; exact hh
  have hwpass : ((s.sweptAs i f).slot i).pass = ((s.sweptOut i f).slot i).pass := by
    rw [State.slot_pass, hw]; rfl
  rw [hst, hhold, hmotion, hout, State.work_requeued hh] at hw
  rw [hwpass, hpass, State.slot_requeues, State.slot_ctx, State.slot_record, hw]
  exact ⟨rfl, rfl, rfl, rfl, rfl⟩

theorem State.up_sweptAs (hs : s.ctrl.sending ≠ none) (hh : (s.slot i).pass.hold = [])
    (hc : f.cmd.args.slot = fieldOfSlot i) :
    (s.sweptAs i f).up i
      = s.up i ++ [interposerAnswer f.cmd 0x45 (fullCount f.cmd.args) (s.slot i).ctx.state 0] := by
  obtain ⟨hst, hpass⟩ := State.sweptOut_slot (f := f) hh
  have hbusy : (s.sweptOut i f).ctrl.sending ≠ none := ((s.requeued_onlyAt i f).modPass _).sending hs
  have hup : (s.sweptOut i f).up i = s.up i := (State.up_modPass _ _ _ _).trans (s.up_requeued i f)
  have hhold : ((s.sweptOut i f).slot i).pass.hold = [] := by rw [hpass]; exact hh
  have h := State.up_completeSensed_busy hbusy hc (code := codeInTransit) (by decide) .inTransit
  rw [hst, hhold, hup] at h
  exact h

end requeued

/-- Settles O22: held again, the command waits for its load; under the lock it ends, and a self-unload follows. -/
theorem unloadAbortsAreRequeued : Obligations.UnloadAbortsAreRequeued := by
  unfold Obligations.UnloadAbortsAreRequeued
  intro s i r f hr hp hcp hop hcode hf hab hre hh
  have htag : f.cmd.args.tag = r.tag := Passage.flight?_tag hf
  have hexec := exec_unloadAborted hr hp hcp hop hcode hf
  have hk := (State.Keeps.rfl s).unloadAborted i r f
  have hkq := s.requeued_keeps i f
  have hw := State.work_requeued (f := f) hh
  rw [State.unloadAborted_requeued r hab hre] at hexec hk
  refine ⟨fun hwk hmedia hlock hst hq => ?_, fun l hneed hlock hrank hlow ho => ?_⟩
  · have hleaves := (s.requeued_onlyAt i f).leaves_self hkq (s.up_requeued i f)
    have hhold : ((s.requeued i f).work i).pass.hold = [s.requeuedAs f] := by rw [hw]
    have hpassq : ((s.requeued i f).work i).demanding.pass
        = { (s.slot i).pass with
            hold := [s.requeuedAs f]
            flight := (s.slot i).pass.flight.filter (fun g => g.cmd.args.tag != r.tag)
            demand := some .loaded } := by
      rw [Slot.demanding_pass_media hhold hmedia rfl, hw, ← htag]
      rfl
    rw [State.sweepRequeued_free _ _ _ (by rw [hkq.lock]; exact hlock)] at hexec hk
    by_cases hun : (s.slot i).ctx.state = .unloading
    · have hb := State.settle_requeued_unloading r hh hmedia hun
      generalize State.settle i ((s.requeued i f).reportNotLoaded i r) = t at *
      have hwork := hb.2.work_eq
      refine ⟨t, hexec, ?_, ?_, (hleaves.trans hb.1).up hwk.upWorking, fun _ => ⟨?_, ?_⟩,
        fun hsu => absurd (hun.symm.trans hsu.2) SlotSt.noConfusion, hk.rest, hk.now⟩
      · rw [hb.2.pass]
        exact hpassq
      · rw [State.slot_requeues, hwork, hw]; rfl
      · rw [State.slot_ctx, hwork, hw]; exact hun
      · rw [State.slot_record, hwork, hw]; rfl
    · have hsu := hst.resolve_left hun
      have hb := State.settle_requeued_loaded hh hmedia hsu.2 hsu.1 (hq hsu).1
      generalize State.settle i ((s.requeued i f).reportNotLoaded i r) = t at *
      have hland := State.work_selfLanded (s.requeued i f) i
      have hstate : ((s.requeued i f).slot i).ctx.state = .loaded := by
        rw [State.slot_ctx, hw]; exact hsu.2
      have hlen : ((s.requeued i f).slot i).pass.hold.length = 1 := by
        rw [State.slot_pass, hhold]; rfl
      rw [hstate, hlen, hkq.motion] at hland
      refine ⟨t, hexec, ?_, ?_, (hleaves.trans hb.1).up hwk.upWorking,
        fun e => absurd e hun, fun _ => ⟨?_, ?_, ?_⟩, hk.rest, hk.now⟩
      · have hlpass : (((s.requeued i f).selfLanded i).work i).demanding.pass
            = ((s.requeued i f).work i).demanding.pass := by
          rw [hland]; rfl
        rw [hb.2.pass, hlpass]
        exact hpassq
      · rw [hb.2.requeues, hland]
        change ((s.requeued i f).work i).requeues = _
        rw [hw]
        rfl
      · rw [hb.2.emergency, hland]; rfl
      · rw [hb.2.record, hland]
        change recordAfter ((s.requeued i f).work i).record _ _ _ _ _ _ = _
        rw [hw]
        rfl
      · rcases hb.2.entry_or_granted with ⟨hwork, hmem⟩ | hgr
        · refine .inl ⟨?_, ?_, ?_⟩
          · rw [State.slot_ctx, hwork, hland]; rfl
          · rw [State.slot_ctx, hwork, hland]; rfl
          · have hmap : (((s.requeued i f).selfLanded i).work i).demanding.ctx.map = (s.slot i).ctx.map := by
              rw [hland]
              change ((s.requeued i f).work i).ctx.map = _
              rw [hw]
              rfl
            rwa [Slot.entry, hmap] at hmem
        · exact .inr hgr
  · have habove : (s.requeuedAs f).cmd.op.above (s.requeued i f).profile.parkLevel = true := by
      rw [hkq.profile]
      change f.cmd.op.above s.profile.parkLevel = true
      simp [Op.above, hneed, hrank]
    rw [State.sweepRequeued_above _ _ _ (by rw [hkq.lock]; exact hlock) habove] at hexec hk
    obtain ⟨hpass, hreq, hst, hmap, hrec⟩ := State.sweptAs_slot (f := f) hh
    have hflows := s.sweptAs_flows i f
    have hover : (s.sweptAs i f).overdrawn i = false := by
      rw [State.overdrawn, hmap, (s.sweptAs_onlyAt i f).bank]
      exact ho
    obtain ⟨hl, h1, h2, h3, h4⟩ := State.settle_notLoaded (s := s.sweptAs i f) r
      (by rw [hpass]; exact hh) hover (by rw [hflows.keeps.park]; exact hlow)
    have hup := State.up_sweptAs (s := s) (i := i) (f := f)
    change exec _ _ = .next (State.settle i ((s.sweptAs i f).reportNotLoaded i r)) at hexec
    change s.Keeps (State.settle i ((s.sweptAs i f).reportNotLoaded i r)) at hk
    generalize State.settle i ((s.sweptAs i f).reportNotLoaded i r) = t at *
    rw [hst, hrec, hflows.keeps.motion] at h3
    rw [hst, hrec] at h4
    refine ⟨t, hexec, ?_, h2.trans hreq, fun hsu => hsu.2 ▸ h3 hsu, h4, fun hs hc => ?_, hk.rest, hk.now⟩
    · rw [h1, hpass, htag]
      rfl
    · exact (hl.up_busy (hflows.sending hs)).trans (hup hs hh hc)

end Sys2Proof.Machine
end

section
/-! PROOFS. A slot that is powered off: its entry into OFF, or on to EMPTY, and the frames that it hands up. -/

namespace Sys2Proof.Machine

section off

variable {i : SlotId} {a b s t : State} {st : SlotSt} {n : Nat}

/-! ## Frames handed up in a row -/

theorem State.handedUp_append (s : State) (i : SlotId) (l k : List UpFrame) :
    s.handedUp i (l ++ k) = (s.handedUp i l).handedUp i k := List.foldl_append

theorem State.handedUp_busy (hs : s.ctrl.sending ≠ none) (l : List UpFrame) :
    (s.handedUp i l).up i = s.up i ++ l ∧ (s.handedUp i l).ctrl.sending ≠ none := by
  induction l generalizing s with
  | nil => exact ⟨(List.append_nil _).symm, hs⟩
  | cons f rest ih =>
    obtain ⟨h1, h2⟩ := ih (s := s.handUp i f) (State.handUp_sending hs i f)
    refine ⟨?_, h2⟩
    change ((s.handUp i f).handedUp i rest).up i = _
    rw [h1, State.up_handUp_busy hs, List.append_assoc]
    rfl

/-- One answer of the part, from states alike. -/
theorem State.UpAlike.complete (h : a.UpAlike b) {c : Cmd} (hc : c.args.slot = fieldOfSlot i) (code : Byte)
    (hst : (b.slot i).ctx.state = st) (hn : (b.slot i).pass.hold.length = n) :
    (a.handUp i (interposerAnswer c code (partResidual code c) st n)).UpAlike (b.complete i c code) := by
  rw [b.complete_eq hc, hst, hn]
  exact (h.handUp i _).active i

/-- The answers of a list of commands, from states alike. -/
theorem State.UpAlike.completeAll (h : a.UpAlike b) {l : List Cmd} (hl : ∀ c ∈ l, c.args.slot = fieldOfSlot i)
    (code : Byte) (hst : (b.slot i).ctx.state = st) (hn : (b.slot i).pass.hold.length = n) :
    (a.handedUp i (l.map fun c => interposerAnswer c code (partResidual code c) st n)).UpAlike
      (State.completeAll i code l b) := by
  induction l generalizing a b with
  | nil => exact h
  | cons c rest ih =>
    have hw := State.work_complete b i c code
    refine ih (h.complete (hl c List.mem_cons_self) code hst hn) (fun d hd => hl d (List.mem_cons_of_mem _ hd)) ?_ ?_
    · rw [State.slot_ctx, hw]; exact hst
    · rw [State.slot_pass, hw]; exact hn

/-! ## The slot -/

/-- From x to y, a slot went to OFF at a time under a slot map entry, or on to EMPTY where that disables it
(R5, R7). -/
structure Slot.WentOff (m : SlotMap) (n : Nat) (x y : Slot) : Prop where
  state : y.ctx.state = if m.enabled then .off else .empty
  charge : y.charge = 0
  port : y.port = Port.reset
  map : y.ctx.map = m
  pass : y.pass = if m.enabled then { x.pass with aborts := [] } else x.pass.emptied
  idleTimer : y.ctx.idleTimer = none
  record : y.record = x.record
  activity : y.ctx.lastActivity = n
  fence : y.fence = false

/-- An IDLE slot's lowering order powers it off (R7, R27). -/
theorem State.orderDown_idle (hst : (s.slot i).ctx.state = .idle) :
    s.orderDown i = (s.enterOff i).active i := by
  unfold State.orderDown
  rw [hst]

theorem State.work_orderDown_idle (hst : (s.slot i).ctx.state = .idle) (hf : (s.slot i).pass.flight = []) :
    (s.work i).WentOff (s.profile.slots[i]) s.now ((s.orderDown i).work i) := by
  have hf : (s.work i).pass.flight = [] := hf
  have hk := (State.Keeps.rfl s).enterOff i
  rw [State.orderDown_idle hst, State.work_active, hk.profile, hk.now]
  cases he : (s.profile.slots[i]).enabled with
  | true =>
    have hrest := ((Slot.intoOff_atRest s.profile s.now hf).actedAt
      (if (s.slot i).pass.aborts = [] then (s.slot i).ctx.lastActivity else s.now)).mapped
        (s.profile.slots[i]) (s.slot i).ctx.presentDebounce
    rw [State.work_enterOff_enabled he, Slot.act_unpowered _ _ (by rfl)]
    exact { state := by rw [he]; rfl, charge := hrest.charge, port := hrest.port, map := rfl,
            pass := by rw [he]; rfl, idleTimer := rfl, record := rfl, activity := rfl,
            fence := hrest.fence }
  | false =>
    obtain ⟨n, hw⟩ := State.work_enterOff_disabled he
    have hrest := (Slot.down_atRest s.profile s.now (st := .empty)
      (((s.work i).intoOff s.profile s.now).mapped (s.profile.slots[i]) (s.slot i).ctx.presentDebounce) rfl).actedAt n
    rw [hw, Slot.act_unpowered _ _ (by rfl)]
    exact { state := by rw [he]; rfl, charge := hrest.charge, port := hrest.port, map := rfl,
            pass := by rw [he]; rfl, idleTimer := rfl, record := rfl, activity := rfl,
            fence := hrest.fence }

theorem State.orderDown_idle_noEntry (hst : (s.slot i).ctx.state = .idle) : (s.orderDown i).NoEntry i := by
  rw [State.orderDown_idle hst]
  exact (s.enterOff_noEntry i).of_queue_eq rfl

theorem Slot.WentOff.unpowered {m : SlotMap} {x y : Slot} (h : x.WentOff m n y) : y.ctx.state.powered = false := by
  rw [h.state]
  split <;> rfl

theorem Slot.WentOff.not_lowered {m : SlotMap} {x y : Slot} (h : x.WentOff m n y) :
    y.ctx.state ≠ .idle ∧ y.ctx.state ≠ .spun := by
  rw [h.state]
  split <;> exact ⟨SlotSt.noConfusion, SlotSt.noConfusion⟩

/-! ## What it hands up -/

/-- The frames that a slot hands up at its entry into OFF, and on to EMPTY (R5, R117, R120; log entries 38, 39). -/
def State.offFrames (s : State) (i : SlotId) : List UpFrame :=
  (s.slot i).pass.aborts.map (fun a => interposerAnswer a 0x00 0 .off (s.slot i).pass.hold.length)
    ++ if (s.profile.slots[i]).enabled then []
       else (s.slot i).pass.hold.map (fun e => interposerAnswer e.cmd 0x41 (fullCount e.cmd.args) .empty 0)

/-- The commands of a slot are its own. -/
def Slot.Own (i : SlotId) (x : Slot) : Prop := ∀ c ∈ x.pass.commands, c.args.slot = fieldOfSlot i

theorem Slot.Own.aborts {x : Slot} (h : x.Own i) : ∀ c ∈ x.pass.aborts, c.args.slot = fieldOfSlot i :=
  fun c hc => h c (List.mem_append_right _ hc)

theorem Slot.Own.hold {x : Slot} (h : x.Own i) : ∀ e ∈ x.pass.hold, e.cmd.args.slot = fieldOfSlot i :=
  fun e he => h e.cmd (List.mem_append_left _ (List.mem_append_left _ (List.mem_map_of_mem he)))

theorem State.UpAlike.enterDown (h : a.UpAlike b) {code : Byte} (hown : (b.slot i).Own i) :
    (a.handedUp i ((b.slot i).pass.commands.map fun c =>
      interposerAnswer c code (partResidual code c) st 0)).UpAlike (b.enterDown i st code) := by
  have hall : (a.handedUp i ((b.slot i).pass.commands.map fun c =>
      interposerAnswer c code (partResidual code c) st 0)).UpAlike
      (State.completeAll i code (b.slot i).pass.commands
        (((b.enter i st false false).modPass i Passage.emptied).modCtx i
          (fun c => { c with spinMark := false, emergency := false }))) := by
    refine State.UpAlike.completeAll ?_ hown code ?_ ?_
    · exact ((h.enter i st false false).modPass i _).modCtx i _
    · rw [State.slot_ctx, State.work_modCtx, State.work_modPass, State.work_enter]; rfl
    · rw [State.slot_pass, State.work_modCtx, State.work_modPass]; rfl
  unfold State.enterDown State.leavingFault
  split
  · exact hall.active i
  · exact hall

/-- A slot that goes to EMPTY under a disabling entry answers its commands (R5, R117). -/
theorem State.UpAlike.takeMap_disabled (h : a.UpAlike b) (he : (b.profile.slots[i]).enabled = false)
    (hne : (b.slot i).ctx.state ≠ .empty) (hown : (b.slot i).Own i) :
    (a.handedUp i ((b.slot i).pass.commands.map fun c =>
      interposerAnswer c 0x41 (fullCount c.args) .empty 0)).UpAlike (b.takeMap i) := by
  unfold State.takeMap
  simp only [he, Bool.false_eq_true, if_false, hne]
  generalize hu : (b.setQueue _).modCtx i _ = u
  have huw : u.work i = { b.work i with ctx := { (b.work i).ctx with map := b.profile.slots[i] } } := by
    rw [← hu]
    exact State.work_modCtx _ i _
  have hupass : (u.slot i).pass = (b.slot i).pass := by rw [State.slot_pass, huw]; rfl
  have hown' : (u.slot i).Own i := fun c hc => hown c (by rwa [hupass] at hc)
  have h2 := State.UpAlike.enterDown (a := a) (b := u) (i := i) (st := .empty) (code := codeSlotEmpty)
    (by rw [← hu]; exact (h.setQueue _).modCtx i _) hown'
  rw [hupass] at h2
  exact h2

theorem State.UpAlike.enterOff (h : a.UpAlike b) (hown : (b.slot i).Own i) (hf : (b.slot i).pass.flight = []) :
    (a.handedUp i (b.offFrames i)).UpAlike (b.enterOff i) := by
  let v := (b.enter i .off false false).modPass i (fun p => { p with aborts := [] })
  have hv : v.work i = (b.work i).intoOff b.profile b.now := by
    rw [State.work_modPass, State.work_enter]; rfl
  have h1 : (a.handedUp i ((b.slot i).pass.aborts.map fun c =>
      interposerAnswer c 0x00 0 .off (b.slot i).pass.hold.length)).UpAlike (b.offAnswered i) := by
    refine State.UpAlike.completeAll (b := v) (code := codeOk) ?_ hown.aborts ?_ ?_
    · exact (h.enter i .off false false).modPass i _
    · rw [State.slot_ctx, hv]; rfl
    · rw [State.slot_pass, hv]; rfl
  rw [State.enterOff_eq, State.offFrames]
  cases he : (b.profile.slots[i]).enabled with
  | true =>
    rw [if_pos (Eq.refl _), List.append_nil]
    exact h1.takeMap (by rw [State.offAnswered_profile]; exact he)
  | false =>
    have hw := State.work_offAnswered b i
    have hpass : ((b.offAnswered i).slot i).pass = { (b.slot i).pass with aborts := [] } := by
      rw [State.slot_pass, hw]; rfl
    have hstate : ((b.offAnswered i).slot i).ctx.state = .off := by rw [State.slot_ctx, hw]; rfl
    have hcommands : ((b.offAnswered i).slot i).pass.commands = (b.slot i).pass.hold.map (·.cmd) := by
      rw [hpass]
      simp [Passage.commands, hf, flightByAge]
    have hdis : ((b.offAnswered i).profile.slots[i]).enabled = false := by
      rw [State.offAnswered_profile]; exact he
    have h2 := h1.takeMap_disabled hdis (by rw [hstate]; exact SlotSt.noConfusion) (by
      intro c hc
      rw [hcommands] at hc
      obtain ⟨e, he', rfl⟩ := List.mem_map.mp hc
      exact hown.hold e he')
    rw [hcommands, List.map_map] at h2
    rw [if_neg (by decide), State.handedUp_append]
    exact h2

end off

end Sys2Proof.Machine
end

section
/-! PROOFS. The idle decay, and a POWER_OFF performed in IDLE. -/

namespace Sys2Proof.Machine

section idle

variable {i : SlotId} {s t u : State}

theorem State.powerEnable_unpowered (h : (t.slot i).ctx.state.powered = false) : t.powerEnable i = false := by
  change ((t.slot i).ctx.state.powered && !(t.slot i).ctx.latch && !t.resetAsserted) = false
  rw [h]
  rfl

theorem Slot.waits_nil {x : Slot} (h : x.pass.hold = []) : x.Waits := .inr fun e he => by
  rw [h] at he
  cases he

theorem Slot.demanding_raise_nil {x : Slot} (h : x.pass.hold = []) : x.demanding.raise = none :=
  Slot.raise_of_demand_none (congrArg Passage.demand (Slot.demanding_pass_nil h))

/-- A slot with nothing held that stands out of SPUN and IDLE stands after all that follows. -/
theorem State.Bears.settle_down {x : Slot} (hb : State.Bears i none x s t) (hh : x.pass.hold = [])
    (hx : x.ctx.state ≠ .idle ∧ x.ctx.state ≠ .spun) : State.Bears i none x.demanding s (State.settle i t) := by
  have hw := hb.2.work_eq
  have h := State.settle_bears (s := t) (i := i) (by rw [hw]; exact Slot.waits_nil hh) (.inl hb.2.noEntry)
    (fun _ => .inl (.inr (.inr (by rw [hw]; exact hx)))) (.inr (by rw [hw]; exact hx))
  rw [hw, Slot.demanding_raise_nil hh] at h
  exact ⟨hb.1.trans h.1, h.2⟩

/-- A LOADED or SPUN slot with nothing held, lowered by one level. -/
theorem State.settle_lower (hs : (s.slot i).ctx.state = .loaded ∨ (s.slot i).ctx.state = .spun)
    (hh : (s.slot i).pass.hold = []) :
    State.Bears i none ((s.work i).enter s.profile s.now (s.slot i).ctx.state.below false false).demanding s
      (State.settle i (s.lower i)) := by
  obtain ⟨-, -, h1, h2⟩ := SlotSt.below_cases hs
  exact (State.lower_bears hs).settle_down hh ⟨h1, h2⟩

/-- An IDLE slot powered off stands in OFF, or EMPTY, as the admission unit reacts. -/
theorem State.lower_idle_bears (hs : (s.slot i).ctx.state = .idle) (hf : (s.slot i).pass.flight = []) :
    State.Bears i none ((s.orderDown i).work i) (s.orderDown i) (s.lower i) := by
  have hx := (State.work_orderDown_idle hs hf).not_lowered
  exact (State.Bears.of_stands
    (.of_work (Eq.refl _) (State.orderDown_idle_noEntry hs) (.inl (.inr (.inr hx))))).react _ i

/-- The frames of an IDLE slot's power-off, on a busy link. -/
theorem State.up_orderDown_idle (hs : s.ctrl.sending ≠ none) (hst : (s.slot i).ctx.state = .idle)
    (hown : (s.slot i).Own i) (hf : (s.slot i).pass.flight = []) :
    (s.orderDown i).up i = s.up i ++ s.offFrames i ∧ (s.orderDown i).ctrl.sending ≠ none := by
  obtain ⟨h1, h2⟩ := State.handedUp_busy (i := i) hs (s.offFrames i)
  have h3 := (State.UpAlike.enterOff State.UpAlike.rfl hown hf).active i
  rw [State.orderDown_idle hst, h3.up, h3.ctrl]
  exact ⟨h1, h2⟩

/-! ## The idle timer's expiry -/

/-- The state in which an idle timer has expired (R28). -/
def State.idleTaken (s : State) (i : SlotId) (t0 : Nat) : State :=
  (s.reach t0).modCtx i (fun c => { c with idleTimer := none })

theorem State.work_idleTaken (s : State) (i : SlotId) (t0 : Nat) :
    (s.idleTaken i t0).work i = { s.work i with ctx := { (s.work i).ctx with idleTimer := none } } :=
  State.work_modCtx _ i _

theorem State.idleTaken_slot (s : State) (i : SlotId) (t0 : Nat) :
    ((s.idleTaken i t0).slot i).ctx.state = (s.slot i).ctx.state
      ∧ ((s.idleTaken i t0).slot i).pass = (s.slot i).pass := by
  rw [State.slot_ctx, State.slot_pass, State.work_idleTaken]
  exact ⟨rfl, rfl⟩

theorem exec_idleTimerExpiry {t0 : Nat} (hc : s.Calm) (h : (s.slot i).ctx.idleTimer = some t0) :
    exec (.idleTimerExpiry i) s = .next (State.settle i ((s.idleTaken i t0).lower i)) := by
  have hexp : s.idleExpires i = State.settle i ((s.idleTaken i t0).lower i) := by
    unfold State.idleExpires
    rw [h]
    rfl
  change Host.Outcome.next (State.live (fun t => t.idleExpires i) s) = _
  rw [State.live_calm hc, hexp]

/-- From LOADED and SPUN the expiry lowers the slot by one level (R7, R28). -/
theorem State.idle_down (t0 : Nat) (hs : (s.slot i).ctx.state = .loaded ∨ (s.slot i).ctx.state = .spun)
    (hh : (s.slot i).pass.hold = []) (ht : t = State.settle i ((s.idleTaken i t0).lower i)) :
    s.CameTo t i (s.slot i).ctx.state.below (max s.now t0)
      ∧ (t.slot i).ctx.outstanding = (s.slot i).ctx.state.below.outstanding
      ∧ (t.slot i).ctx.idleTimer = none
      ∧ (t.slot i).ctx.stepDeadline
        = classDeadline ((s.slot i).classIn s.profile) (max s.now t0) (s.slot i).ctx.state.below := by
  obtain ⟨hpow, -, hne1, hne2⟩ := SlotSt.below_cases hs
  have hne3 : (s.slot i).ctx.state.below ≠ .loaded := by rcases hs with e | e <;> rw [e] <;> decide
  obtain ⟨hst, hpass⟩ := s.idleTaken_slot i t0
  have hw := (State.settle_lower (s := s.idleTaken i t0) (by rw [hst]; exact hs)
    (by rw [hpass]; exact hh)).2.work_eq
  rw [hst, s.work_idleTaken, ← ht] at hw
  have hnone : ∀ x : Slot, x.idleFrom s.profile (max s.now t0) (s.slot i).ctx.state.below = none := fun _ =>
    Slot.idleFrom_of_state _ _ ⟨hne1, hne2, hne3⟩
  have htimer : (t.work i).ctx.idleTimer = none := by
    rw [hw]
    exact (Slot.enter_idleTimer _ _ _ _ _ _).trans (hnone _)
  refine ⟨State.cameTo_of_work (x := s.work i) rfl rfl hpow ?_ ?_ ?_ fun _ _ => ?_, ?_, htimer, ?_⟩
  · rw [hw]; rfl
  · rw [hw]; rfl
  · rw [hw]; exact Slot.enter_query _ _ false false _ hpow
  · rw [htimer, hnone]
  · rw [State.slot_ctx, hw]; rfl
  · rw [State.slot_ctx, hw]; rfl

/-- From IDLE the expiry powers the slot off (R7, R28). -/
theorem State.idle_off (t0 : Nat) (hs : (s.slot i).ctx.state = .idle) (hh : (s.slot i).pass.hold = [])
    (hf : (s.slot i).pass.flight = []) (ht : t = State.settle i ((s.idleTaken i t0).lower i)) :
    State.Bears i none (((s.idleTaken i t0).orderDown i).work i).demanding ((s.idleTaken i t0).orderDown i) t
      ∧ ((s.idleTaken i t0).work i).WentOff (s.profile.slots[i]) (max s.now t0)
        (((s.idleTaken i t0).orderDown i).work i) := by
  obtain ⟨hst, hpass⟩ := s.idleTaken_slot i t0
  have hwent := State.work_orderDown_idle (s := s.idleTaken i t0) (hst.trans hs) (by rw [hpass]; exact hf)
  refine ⟨?_, hwent⟩
  rw [ht]
  refine (State.lower_idle_bears (s := s.idleTaken i t0) (hst.trans hs) (by rw [hpass]; exact hf)).settle_down ?_
    hwent.not_lowered
  rw [hwent.pass, ← State.slot_pass, hpass]
  split
  · exact hh
  · rfl

theorem State.up_idle_off (t0 : Nat) (hbusy : s.ctrl.sending ≠ none) (hs : (s.slot i).ctx.state = .idle)
    (hh : (s.slot i).pass.hold = []) (hf : (s.slot i).pass.flight = [])
    (hown : ∀ a ∈ (s.slot i).pass.aborts, a.args.slot = fieldOfSlot i) :
    ((s.idleTaken i t0).orderDown i).up i
        = s.up i ++ (s.slot i).pass.aborts.map (fun a => interposerAnswer a 0x00 0 .off 0)
      ∧ ((s.idleTaken i t0).orderDown i).ctrl.sending ≠ none := by
  obtain ⟨hst, hpass⟩ := s.idleTaken_slot i t0
  have h := State.up_orderDown_idle (s := s.idleTaken i t0) (i := i) hbusy (hst.trans hs)
    (by
      intro c hc
      rw [hpass] at hc
      simp only [Passage.commands, hh, hf, flightByAge, List.map_nil, List.nil_append] at hc
      exact hown c hc) (by rw [hpass]; exact hf)
  rw [State.offFrames, hpass, hh] at h
  have hup : (s.idleTaken i t0).up i = s.up i := State.up_modCtx _ _ _ _
  simp only [List.length_nil, List.map_nil, ite_self, List.append_nil, hup] at h
  exact h

end idle

/-- Settles O44: the order lowers the slot by one level, where it stays. -/
theorem idleDecayLowers : Obligations.IdleDecayLowers := by
  unfold Obligations.IdleDecayLowers
  intro s i t0 hcalm hidle hh hf
  have hexec := exec_idleTimerExpiry hcalm hidle
  have hk : (s.idleTaken i t0).Keeps (State.settle i ((s.idleTaken i t0).lower i)) :=
    ((State.Keeps.rfl _).lower i).settle i
  generalize ht : State.settle i ((s.idleTaken i t0).lower i) = t at hexec hk
  refine ⟨t, hexec, hk.now, hk.rest, fun hs => ?_, fun hs => ?_, fun hs => ?_⟩
  · have h := State.idle_down t0 (.inl hs) hh ht.symm
    rw [hs] at h
    exact h
  · have h := State.idle_down t0 (.inr hs) hh ht.symm
    rw [hs] at h
    exact h
  · obtain ⟨hb, hwent⟩ := State.idle_off t0 hs hh hf ht.symm
    have hw := hb.2.work_eq
    have hstate : (t.slot i).ctx.state = if (s.profile.slots[i]).enabled then .off else .empty := by
      rw [State.slot_ctx, hw]
      exact hwent.state
    refine ⟨hstate, ?_, ?_, ?_, State.powerEnable_unpowered ?_, ?_, ?_, fun hbusy hown => ?_⟩
    · rw [State.slot_charge, hw]; exact hwent.charge
    · rw [State.slot_port, hw]; exact hwent.port
    · rw [State.slot_ctx, hw]; exact hwent.idleTimer
    · rw [hstate]
      split <;> rfl
    · rw [State.slot_pass, hw]
      change (((s.idleTaken i t0).orderDown i).work i).pass.aborts = []
      rw [hwent.pass]
      split <;> rfl
    · rw [State.slot_record, hw]
      change (((s.idleTaken i t0).orderDown i).work i).record = _
      rw [hwent.record, s.work_idleTaken]
      rfl
    · obtain ⟨h1, h2⟩ := State.up_idle_off t0 hbusy hs hh hf hown
      exact (hb.1.up_busy h2).trans h1

end Sys2Proof.Machine
end

section
/-! PROOFS. A POWER_OFF that is performed in IDLE. -/

namespace Sys2Proof.Machine

/-! ## A busy link -/

section busy

variable {i : SlotId} {s t : State}

/-- A frame handed up leaves the link in transmission. -/
theorem State.handUp_sends (s : State) (i : SlotId) (f : UpFrame) : (s.handUp i f).ctrl.sending ≠ none := by
  by_cases hs : s.ctrl.sending = none
  · let u := s.modSlot i (fun x => { x with upstream := x.upstream ++ [f] })
    have hui : u.up i ≠ [] := by
      have h : u.up i = s.up i ++ [f] := by simp [u, State.up]
      rw [h]
      exact List.append_ne_nil_of_right_ne_nil _ (List.cons_ne_nil _ _)
    change u.pickUpstream.ctrl.sending ≠ none
    unfold State.pickUpstream
    split
    · next h =>
      rw [h]
      exact Option.some_ne_none _
    · split
      · next h =>
        have h0 := State.firstWaiting_none h (positionOf i) (mem_servedOrder _ _)
        rw [State.upstreamAt_positionOf] at h0
        exact absurd h0 hui
      · next p hp =>
        split
        · next h => exact absurd h (State.firstWaiting_some hp)
        · exact State.beginUpstream_sending _ _
  · exact State.handUp_sending hs i f

theorem State.handedUp_sends {l : List UpFrame} (h : l ≠ []) : (s.handedUp i l).ctrl.sending ≠ none := by
  cases l with
  | nil => exact absurd rfl h
  | cons f rest => exact (State.handedUp_busy (s.handUp_sends i f) rest).2

/-- The port of a busy link stands while frames join what waits. -/
theorem State.complete_ctrl (hs : s.ctrl.sending ≠ none) (c : Cmd) (code : Byte) :
    (s.complete i c code).ctrl = s.ctrl := by
  unfold State.complete
  rw [State.handUp_busy hs]
  rfl

theorem State.completeAll_ctrl (code : Byte) (l : List Cmd) (hs : s.ctrl.sending ≠ none) :
    (State.completeAll i code l s).ctrl = s.ctrl := by
  induction l generalizing s with
  | nil => rfl
  | cons c rest ih =>
    have h := State.complete_ctrl (i := i) hs c code
    exact (ih (by rw [h]; exact hs)).trans h

theorem State.enterDown_ctrl (hs : s.ctrl.sending ≠ none) (st : SlotSt) (code : Byte) :
    (s.enterDown i st code).ctrl = s.ctrl := by
  unfold State.enterDown State.leavingFault
  have h := State.completeAll_ctrl (i := i) code (s.slot i).pass.commands
    (s := ((s.enter i st false false).modPass i Passage.emptied).modCtx i
        (fun c => { c with spinMark := false, emergency := false })) hs
  split
  · exact h
  · exact h

theorem State.takeMap_ctrl (hs : s.ctrl.sending ≠ none) : (s.takeMap i).ctrl = s.ctrl := by
  unfold State.takeMap
  simp only
  split
  · split <;> rfl
  · split
    · rfl
    · rw [State.enterDown_ctrl (by exact hs)]
      rfl

theorem State.orderDown_ctrl (hs : s.ctrl.sending ≠ none) : (s.orderDown i).ctrl = s.ctrl := by
  have hoff : ((s.enterOff i).active i).ctrl = s.ctrl := by
    have h := State.completeAll_ctrl (i := i) codeOk (s.slot i).pass.aborts
      (s := (s.enter i .off false false).modPass i (fun p => { p with aborts := [] })) hs
    have h' : (s.offAnswered i).ctrl = s.ctrl := h
    change ((s.offAnswered i).takeMap i).ctrl = s.ctrl
    rw [State.takeMap_ctrl (by rw [h']; exact hs), h']
  unfold State.orderDown
  split
  case h_4 => exact hoff
  all_goals rfl

theorem State.shedRounds_ctrl (n : Nat) (b : BankId) (hs : s.ctrl.sending ≠ none) :
    (State.shedRounds n b s).ctrl = s.ctrl := by
  induction n generalizing s with
  | zero => rfl
  | succ n ih =>
    unfold State.shedRounds
    split
    · split
      · rfl
      · next j _ =>
        have h := State.orderDown_ctrl (i := j) hs
        rw [ih (by rw [h]; exact hs), h]
    · rfl

theorem State.shed_ctrl (b : BankId) (hs : s.ctrl.sending ≠ none) : (s.shed b).ctrl = s.ctrl := by
  have h := State.shedRounds_ctrl 10 b hs
  unfold State.shed State.clearIfFits
  generalize State.shedRounds 10 b s = u at h ⊢
  split
  · split
    · rw [State.scan_ctrl]
      exact h
    · exact h
  · rfl

end busy

/-! ## POWER_OFF in IDLE -/

section powersOff

variable {i : SlotId} {s t : State} {e : HoldEntry}

/-- The frames of a slot that goes from IDLE to OFF for a POWER_OFF held alone (R110, R117, R120; log entries 38
and 39). -/
def State.powerOffFrames (s : State) (i : SlotId) (e : HoldEntry) : List UpFrame :=
  (s.slot i).pass.aborts.map (fun a => interposerAnswer a 0x00 0 .off 1)
    ++ [if (s.profile.slots[i]).enabled then interposerAnswer e.cmd 0x00 0 .off 0
        else interposerAnswer e.cmd 0x41 (fullCount e.cmd.args) .empty 0]

/-- A slot that is off, with nothing held or listed. -/
structure Slot.PoweredOff (m : SlotMap) (n : Nat) (x y : Slot) : Prop where
  state : y.ctx.state = if m.enabled then .off else .empty
  charge : y.charge = 0
  port : y.port = Port.reset
  map : y.ctx.map = m
  pass : y.pass = { x.pass with hold := [], aborts := [], demand := none }
  record : y.record = x.record
  activity : y.ctx.lastActivity = n

/-- What a slot's scans leave alike. -/
theorem State.react_alike {was : Slot} (h : (s.bank was.ctx.map.bank).overdraw = false) :
    s.UpAlike (State.react was i s) := by
  have h1 : s.UpAlike (if (s.slot i).charge < was.charge then s.sumFell was.ctx.map.bank else s) := by
    split
    · rw [State.sumFell, h]
      exact State.UpAlike.rfl.scan
    · exact State.UpAlike.rfl
  unfold State.react
  simp only
  split
  · exact h1.scan
  · exact h1

theorem State.performing_alike (s : State) (i : SlotId) : s.UpAlike (s.performing i) := by
  have h : s.UpAlike (s.reportDemand i) := State.UpAlike.rfl.modPass i _
  unfold State.performing State.beginHead
  exact (h.withdraw i).modPass i _

/-- The performance of a POWER_OFF has come to OFF, or EMPTY, and the admission unit has reacted (R110). -/
theorem State.reportAndServe_powerOff (hst : (s.slot i).ctx.state = .idle) (hh : (s.slot i).pass.hold = [e])
    (hc : e.cmd.op.cls = .lowering .off) (hf : (s.slot i).pass.flight = []) (hn : (s.slot i).fence = false)
    (ho : s.overdrawn i = false) (hown : (s.slot i).Own i) :
    ∃ y, (s.reportAndServe i).Stands i none y
      ∧ (s.work i).begun.WentOff (s.profile.slots[i]) s.now y
      ∧ (s.handedUp i ((s.performing i).offFrames i)).UpAlike (s.reportAndServe i) := by
  have hserve : s.reportAndServe i = (s.performing i).lower i := by
    rw [State.reportAndServe_lowering hh hc hf hn, if_neg (by rw [hst]; decide),
      if_neg (by rw [hst]; decide)]
  have hk := s.performing_keeps i
  have hpstate : ((s.performing i).slot i).ctx.state = .idle := by
    rw [State.slot_ctx, s.work_performing]; exact hst
  have hppass : ((s.performing i).slot i).pass = (s.work i).begun.pass := by
    rw [State.slot_pass, s.work_performing]
  have hbegun := Slot.begun_pass (x := s.work i) hh hc
  have hpflight : ((s.performing i).slot i).pass.flight = [] := by rw [hppass, hbegun]; exact hf
  have hpmap : ((s.performing i).slot i).ctx.map = (s.slot i).ctx.map := by
    rw [State.slot_ctx, s.work_performing]; rfl
  have hpown : ((s.performing i).slot i).Own i := by
    intro c hc'
    rw [hppass, hbegun] at hc'
    refine hown c ?_
    rw [Passage.commands, hh]
    exact hc'
  have hwent := State.work_orderDown_idle hpstate hpflight
  rw [hk.profile, hk.now, s.work_performing] at hwent
  have hclear : (((s.performing i).orderDown i).bank ((s.performing i).slot i).ctx.map.bank).overdraw = false := by
    rw [hpmap, (State.OnlyAt.rfl.orderDown (t := s.performing i) (i := i)).bank,
      (s.performing_onlyAt i).bank]
    exact ho
  refine ⟨_, ?_, hwent, ?_⟩
  · rw [hserve]
    exact (State.lower_idle_bears hpstate hpflight).2
  · have h1 := ((s.performing_alike i).enterOff hpown hpflight).active i
    rw [← State.orderDown_idle hpstate] at h1
    rw [hserve]
    exact h1.trans (State.react_alike hclear)

/-- The end of a POWER_OFF in OFF, its entry still held, or in EMPTY. -/
theorem State.settleEnd_powerOff {u : State} {y : Slot} (hh : (s.slot i).pass.hold = [e])
    (hc : e.cmd.op.cls = .lowering .off) (hf : (s.slot i).pass.flight = [])
    (hslot : e.cmd.args.slot = fieldOfSlot i) (hst : u.Stands i none y)
    (hw : (s.work i).begun.WentOff (s.profile.slots[i]) s.now y) (hk : s.Keeps u) :
    ∃ v, State.settleEnd i u = v.shed (v.slot i).ctx.map.bank
      ∧ (∃ x, v.Stands i none x ∧ (s.work i).PoweredOff (s.profile.slots[i]) s.now x)
      ∧ State.UpAlike
        (if (s.profile.slots[i]).enabled then u.handUp i (interposerAnswer e.cmd 0x00 0 .off 0) else u) v := by
  have hwork := hst.work_eq
  have hbegun := Slot.begun_pass (x := s.work i) hh hc
  have hstate := hw.state
  have hpass := hw.pass
  rw [hbegun] at hpass
  have hpflight : (s.work i).pass.flight = [] := hf
  cases he : (s.profile.slots[i]).enabled with
  | true =>
    rw [he] at hstate hpass
    have huhold : (u.slot i).pass.hold = e.begin :: [] := by rw [State.slot_pass, hwork, hpass]; rfl
    have huflight : (u.slot i).pass.flight = [] := by rw [State.slot_pass, hwork, hpass]; exact hf
    have hustate : (u.slot i).ctx.state = .off := by rw [State.slot_ctx, hwork, hstate]; rfl
    have hcls : e.begin.cmd.op.cls = .lowering .off := hc
    have hnodup : ((u.slot i).pass.hold.map (fun g => g.cmd.args.tag)).Nodup := by
      rw [huhold]
      exact List.nodup_singleton _
    let v := u.performed i e.begin
    have hvw : v.work i = y.finished u.profile u.now e.begin := by rw [State.work_performed, hwork]
    have hpd := Slot.finished_passed u.profile u.now e.begin y
    have hvpass : (y.finished u.profile u.now e.begin).pass = { y.pass with hold := [], demand := none } :=
      Slot.finished_pass u.profile u.now (x := y) (by rw [← hwork]; exact huhold) hcls
        (by rw [← hwork]; exact hnodup)
    have hvraise : (v.work i).demanding.raise = none := by
      rw [hvw]
      exact Slot.demanding_raise_nil (by rw [hvpass])
    have hrs : u.reportAndServe i = (v.reportDemand i).withdraw i := by
      rw [State.reportAndServe_lowering huhold hcls huflight (by rw [State.slot_fence, hwork]; exact hw.fence),
        if_neg (by rw [hustate]; decide), if_pos (by rw [hustate]; decide)]
      exact State.report_withdraws hvraise
    refine ⟨(v.reportDemand i).withdraw i, ?_, ⟨(v.work i).demanding, ?_, ?_⟩, ?_⟩
    · unfold State.settleEnd
      rw [hrs]
    · refine .of_work (v.work_report_demand i) (State.entriesOf_eq_nil.mp (State.withdraw_entriesOf _ i))
        (.inl (.inr (.inr ?_)))
      rw [hvw]
      exact ⟨fun h => hw.not_lowered.1 (hpd.state.symm.trans h), fun h => hw.not_lowered.2 (hpd.state.symm.trans h)⟩
    · rw [hvw]
      refine { state := hpd.state.trans hw.state, charge := hpd.charge.trans hw.charge, port := ?_,
               map := hpd.map.trans hw.map, pass := ?_, record := hpd.record.trans hw.record, activity := ?_ }
      · exact hw.port
      · rw [Slot.demanding_pass_nil (by rw [hvpass]), hvpass, hpass]
        rfl
      · exact hk.now
    · rw [if_pos rfl]
      refine State.UpAlike.withdraw (State.UpAlike.modPass ?_ i _) i
      have hout : ((u.performing i).modPass i (fun p => p.dropHeld e.begin.cmd.args.tag)).work i
          = y.begun.withPass fun p => p.dropHeld e.begin.cmd.args.tag := by
        rw [State.work_modPass, State.work_performing, hwork]; rfl
      have hopass : (y.begun.withPass fun p => p.dropHeld e.begin.cmd.args.tag).pass
          = (y.finished u.profile u.now e.begin).pass := rfl
      refine State.UpAlike.complete (c := e.begin.cmd) (code := codeOk) ((u.performing_alike i).modPass i _) hslot ?_ ?_
      · rw [State.slot_ctx, hout]
        exact hstate
      · rw [State.slot_pass, hout, hopass, hvpass]
        rfl
  | false =>
    rw [he] at hstate hpass
    have huhold : (u.work i).pass.hold = [] := by rw [hwork, hpass]; rfl
    have hrs : u.reportAndServe i = (u.reportDemand i).withdraw i := by
      rw [State.reportAndServe, State.report_withdraws (Slot.demanding_raise_nil huhold)]
      exact State.serve_waits (Slot.waits_nil (by
        change ((u.reportDemand i).work i).pass.hold = []
        rw [State.work_report_demand]
        exact huhold))
    refine ⟨(u.reportDemand i).withdraw i, ?_, ⟨(u.work i).demanding, ?_, ?_⟩, ?_⟩
    · unfold State.settleEnd
      rw [hrs]
    · refine .of_work (u.work_report_demand i) (State.entriesOf_eq_nil.mp (State.withdraw_entriesOf _ i))
        (.inl (.inr (.inr ?_)))
      rw [hwork]
      exact hw.not_lowered
    · rw [hwork]
      refine { state := hw.state, charge := hw.charge, port := hw.port, map := hw.map, pass := ?_,
               record := hw.record, activity := hw.activity }
      rw [Slot.demanding_pass_nil (by rw [hpass]; rfl), hpass]
      simp only [Passage.emptied, Bool.false_eq_true, if_false, hpflight]
    · rw [if_neg (by decide)]
      exact (State.UpAlike.rfl.modPass i _).withdraw i

/-- A POWER_OFF held alone at an IDLE slot, in a bank not in OVERDRAW, is performed and ends (R110, R120; log
entries 38 and 39). -/
theorem State.settle_powersOff (hst : (s.slot i).ctx.state = .idle) (hh : (s.slot i).pass.hold = [e])
    (hc : e.cmd.op.cls = .lowering .off) (hf : (s.slot i).pass.flight = []) (hn : (s.slot i).fence = false)
    (ho : s.overdrawn i = false) (hown : (s.slot i).Own i) :
    (s.work i).PoweredOff (s.profile.slots[i]) s.now ((State.settle i s).work i)
      ∧ (State.settle i s).ctrl = (s.handedUp i (s.powerOffFrames i e)).ctrl
      ∧ (State.settle i s).up i = (s.handedUp i (s.powerOffFrames i e)).up i := by
  obtain ⟨y, hstands, hwent, halike⟩ := State.reportAndServe_powerOff hst hh hc hf hn ho hown
  have hk : s.Keeps (s.reportAndServe i) := (State.Keeps.rfl s).reportAndServe i
  obtain ⟨v, hend, ⟨x, hx, hoff⟩, halike'⟩ := State.settleEnd_powerOff hh hc hf
    (hown.hold e (by rw [hh]; exact List.mem_cons_self)) hstands hwent hk
  have hsettle : State.settle i s = v.shed (v.slot i).ctx.map.bank := by
    unfold State.settle
    rw [hstands.parkTest (.inr hwent.not_lowered), hend]
  have hframes : (s.handedUp i (s.powerOffFrames i e)).UpAlike v := by
    have hbegun := Slot.begun_pass (x := s.work i) hh hc
    have hppass : ((s.performing i).slot i).pass = (s.work i).begun.pass := by
      rw [State.slot_pass, s.work_performing]
    rw [State.offFrames, (s.performing_keeps i).profile, hppass, hbegun] at halike
    rw [State.powerOffFrames]
    cases he : (s.profile.slots[i]).enabled with
    | true =>
      rw [he] at halike halike'
      rw [if_pos rfl, List.append_nil] at halike
      rw [State.handedUp_append]
      exact (halike.handUp i _).trans halike'
    | false =>
      rw [he] at halike halike'
      exact halike.trans halike'
  have hbusy : v.ctrl.sending ≠ none := by
    rw [hframes.ctrl]
    exact State.handedUp_sends (List.append_ne_nil_of_right_ne_nil _ (List.cons_ne_nil _ _))
  have hb := hx.shed (v.slot i).ctx.map.bank
  rw [hsettle]
  refine ⟨?_, (State.shed_ctrl _ hbusy).trans hframes.ctrl, (hb.1.up_busy hbusy).trans (hframes.up i)⟩
  rw [hb.2.work_eq]
  exact hoff

end powersOff

end Sys2Proof.Machine
end

section
/-! PROOFS. POWER_OFF at arrival in an IDLE slot, and a drive's completions. -/

namespace Sys2Proof.Machine

section powerOff

variable {s t : State} {i : SlotId}

theorem State.UpAlike.handedUp (h : s.UpAlike t) (i : SlotId) (l : List UpFrame) :
    (s.handedUp i l).UpAlike (t.handedUp i l) := by
  induction l generalizing s t with
  | nil => exact h
  | cons f rest ih => exact ih (h.handUp i f)

theorem State.hold_alike (s : State) (i : SlotId) (c : Cmd) : s.UpAlike (s.hold i c) := by
  unfold State.hold
  exact (State.UpAlike.rfl.modPass i _).touchIdle i

theorem Passage.inUse_of_nil {a : Passage} {g : Tag} (h1 : a.hold = []) (h2 : a.flight = [])
    (h3 : ∀ c ∈ a.aborts, c.args.tag ≠ g) : a.inUse g = false := by
  have h : a.aborting g = false := by
    rw [Passage.aborting, List.any_eq_false]
    intro c hc
    simpa using h3 c hc
  simp [Passage.inUse, Passage.held?, Passage.flight?, h1, h2, h]

end powerOff

/-- Settles O12: the POWER_OFF held alone is performed at once. -/
theorem powerOffFromIdle : Obligations.PowerOffFromIdle := by
  unfold Obligations.PowerOffFromIdle
  intro s i c hr hi hst hh hf hab hn ho
  let cmd : Cmd := { op := .powerOff, args := c }
  have hfield := fieldOfSlot_of_slotOfField hi
  have hu := Passage.inUse_of_nil hh hf fun a ha => (hab a ha).2
  have hexec := exec_lowering (op := .powerOff) hr hi rfl hu (by rw [hst]; exact SlotSt.noConfusion)
    (by rw [hst]; exact SlotSt.noConfusion)
  have hpass : ((s.hold i cmd).slot i).pass = { (s.slot i).pass with hold := [newEntry s.profile s.now cmd] } := by
    have h := s.hold_pass i cmd
    rwa [hh, List.nil_append] at h
  have hctx : ((s.hold i cmd).slot i).ctx.state = (s.slot i).ctx.state
      ∧ ((s.hold i cmd).slot i).ctx.map = (s.slot i).ctx.map := by
    rw [s.hold_ctx]
    exact ⟨rfl, rfl⟩
  have hown : ((s.hold i cmd).slot i).Own i := by
    intro d hd
    rw [hpass] at hd
    simp only [Passage.commands, hf, flightByAge, List.map_nil, List.map_cons, List.append_nil, List.cons_append,
      List.nil_append, List.mem_cons] at hd
    rcases hd with rfl | hd
    · exact hfield
    · exact (hab d hd).1.trans hfield
  obtain ⟨hoff, hctrl, hup⟩ := State.settle_powersOff (s := s.hold i cmd) (i := i)
    (e := newEntry s.profile s.now cmd) (hctx.1.trans hst) (by rw [hpass]) rfl (by rw [hpass]; exact hf)
    (by rw [State.slot_fence, s.work_hold_eq]; exact hn)
    (by rw [State.overdrawn, hctx.2]; exact ho) hown
  have hk : s.Keeps (State.settle i (s.hold i cmd)) := ((State.Keeps.rfl s).hold i cmd).settle i
  have halike := (s.hold_alike i cmd).handedUp i ((s.hold i cmd).powerOffFrames i (newEntry s.profile s.now cmd))
  have hframes : (s.hold i cmd).powerOffFrames i (newEntry s.profile s.now cmd)
      = (s.slot i).pass.aborts.map (fun a => interposerAnswer a 0x00 0 .off 1)
        ++ [if (s.profile.slots[i]).enabled then interposerAnswer cmd 0x00 0 .off 0
            else interposerAnswer cmd 0x41 (fullCount c) .empty 0] := by
    rw [State.powerOffFrames, hpass]
    rfl
  rw [hframes] at hup hctrl halike
  generalize State.settle i (s.hold i cmd) = t at *
  have hstate : (t.slot i).ctx.state = if (s.profile.slots[i]).enabled then .off else .empty := hoff.state
  refine ⟨t, hexec, hstate, State.powerEnable_unpowered ?_, hoff.charge, hoff.port, ?_, hoff.map, hoff.activity,
    hup.trans (halike.up i), hctrl.trans halike.ctrl, ?_, hk.rest, hk.now⟩
  · rw [hstate]
    split <;> rfl
  · rw [State.slot_pass, hoff.pass, ← State.slot_pass, hpass]
    simp only [hh]
  · rw [State.slot_record, hoff.record, s.work_hold_eq]
    rfl

end Sys2Proof.Machine
end

section
/-! PROOFS. The completions of a drive that pass up. -/

namespace Sys2Proof.Machine

section passing

variable {s t : State} {i : SlotId} {r : DriveReport} {f : InFlight} {h : HoldEntry} {rest : List HoldEntry}
  {target : Level}

/-- The state in which a drive's completion has passed up (R114). -/
def State.passedUp (s : State) (i : SlotId) (r : DriveReport) : State := (s.removeFlight i r.tag).passUp i r

/-- The frame of a drive's completion (R114). -/
def Slot.completionOf (i : SlotId) (x : Slot) (r : DriveReport) : UpFrame :=
  .completion
    { slot := BitVec.ofNat 4 i.val, tag := r.tag, op := r.op, source := .drive, code := r.code,
      residual := r.residual, hint := { state := some x.ctx.state, held := x.pass.hold.length } }

theorem State.passUp_eq (s : State) (i : SlotId) (r : DriveReport) :
    s.passUp i r = (s.handUp i ((s.slot i).completionOf i r)).active i := rfl

/-- A slot whose command has ended in a completion of its drive. -/
def Slot.completed (p : Profile) (n : Nat) (g : Tag) (x : Slot) : Slot :=
  ({ x with pass := x.pass.dropFlight g, port := x.port.dropData g } : Slot).act p n

theorem State.removeFlight_slot (s : State) (i : SlotId) (g : Tag) :
    ((s.removeFlight i g).slot i).ctx = (s.slot i).ctx
      ∧ ((s.removeFlight i g).slot i).pass = (s.slot i).pass.dropFlight g := by
  rw [State.slot_ctx, State.slot_pass, State.work_removeFlight]
  exact ⟨rfl, rfl⟩

theorem State.work_passedUp (s : State) (i : SlotId) (r : DriveReport) :
    (s.passedUp i r).work i = (s.work i).completed s.profile s.now r.tag := by
  have hk := (State.Keeps.rfl s).removeFlight i r.tag
  rw [State.passedUp, State.work_passUp, State.work_removeFlight, hk.profile, hk.now]
  rfl

theorem State.passedUp_onlyAt (s : State) (i : SlotId) (r : DriveReport) : s.OnlyAt i (s.passedUp i r) :=
  (State.OnlyAt.rfl.removeFlight _).passUp r

theorem State.passedUp_flows (s : State) (i : SlotId) (r : DriveReport) : s.Flows (s.passedUp i r) :=
  (s.passedUp_onlyAt i r).flows (((State.Keeps.rfl s).removeFlight i _).passUp i r)

theorem State.up_passedUp (hs : s.ctrl.sending ≠ none) (r : DriveReport) :
    (s.passedUp i r).up i = s.up i ++ [(s.slot i).completionOf i r] := by
  obtain ⟨hctx, hpass⟩ := s.removeFlight_slot i r.tag
  rw [State.passedUp, State.passUp_eq, State.up_active,
    State.up_handUp_busy (s := s.removeFlight i r.tag) hs, State.up_removeFlight,
    Slot.completionOf, hctx, hpass]
  rfl

/-- The one record of a tag leaves nothing in flight. -/
theorem Passage.dropFlight_one {a : Passage} {g : Tag} (h : a.flight = [f]) (ht : f.cmd.args.tag = g) :
    a.dropFlight g = { a with flight := [] } := by
  simp [Passage.dropFlight, h, ht]

theorem Passage.flight?_one {a : Passage} {g : Tag} (h : a.flight = [f]) (ht : f.cmd.args.tag = g) :
    a.flight? g = some f := by
  simp [Passage.flight?, h, ht]

/-- A completion of a command in flight that no requeue answers (R114). -/
theorem exec_passedUp (hr : s.DriveReady i) (hp : (s.slot i).ctx.state.powered = true)
    (hc : (s.slot i).port.cancelPending = false) (hop : r.op ≠ 0x3F)
    (hf : (s.slot i).pass.flight? r.tag = some f) (h2 : r.code ≠ 0x02) (h3 : r.code ≠ 0x03) :
    exec (.driveCompletion i r) s = .next (State.settle i (s.passedUp i r)) := by
  rw [exec_driveCompletion hr, State.takeCompletion_flight (State.routes_iff.mpr ⟨hp, hc⟩) hop hf, if_neg]
  · rfl
  · simp only [Bool.or_eq_true, decide_eq_true_eq, not_or]
    exact ⟨h2, h3⟩

/-- What is dropped at arrival (R114, R120, R135, R138). -/
theorem State.takeCompletion_discarded
    (h : (s.slot i).ctx.state.powered = false ∨ (s.slot i).port.cancelPending = true
      ∨ (r.op = 0x3F ∧ ∀ c ∈ (s.slot i).pass.aborts, c.args.tag ≠ r.tag)
      ∨ (r.op ≠ 0x3F ∧ (s.slot i).pass.flight? r.tag = none)) :
    s.takeCompletion i r = s := by
  by_cases hr : s.routes i = true
  · obtain ⟨hp, hc⟩ := State.routes_iff.mp hr
    unfold State.takeCompletion
    rw [hr, if_neg (by decide)]
    rcases h with h | h | ⟨hop, hab⟩ | ⟨hop, hf⟩
    · rw [hp] at h; cases h
    · rw [hc] at h; cases h
    · have ha : (s.slot i).pass.aborting r.tag = false := by
        rw [Passage.aborting, List.any_eq_false]
        intro c hc
        simpa using hab c hc
      rw [if_pos (by exact hop), State.takeAbortAnswer, ha]
      rfl
    · rw [if_neg (by exact hop), hf]
  · unfold State.takeCompletion
    rw [Bool.not_eq_true] at hr
    rw [hr]
    rfl

/-- The answer of a forwarded ABORT (R120). -/
theorem State.takeCompletion_abort (hp : (s.slot i).ctx.state.powered = true)
    (hc : (s.slot i).port.cancelPending = false) (hop : r.op = 0x3F)
    (h : ∃ c ∈ (s.slot i).pass.aborts, c.args.tag = r.tag) :
    s.takeCompletion i r
      = (s.modPass i (fun p => { p with aborts := p.aborts.filter (fun c => c.args.tag != r.tag) })).passUp i r := by
  have ha : (s.slot i).pass.aborting r.tag = true := by
    obtain ⟨c, hmem, ht⟩ := h
    exact List.any_eq_true.mpr ⟨c, hmem, by simpa using ht⟩
  unfold State.takeCompletion
  rw [State.routes_iff.mpr ⟨hp, hc⟩, if_neg (by decide), if_pos (by exact hop), State.takeAbortAnswer, ha]
  rfl

theorem State.modPass_congr {g k : Passage → Passage} (h : g (s.slot i).pass = k (s.slot i).pass) :
    s.modPass i g = s.modPass i k := by
  unfold State.modPass State.modSlot
  simp only [h]

/-- With nothing held, a completion passes up and no more. -/
theorem State.settle_passedUp (hh : (s.slot i).pass.hold = []) (hp : s.park.lowering = false)
    (ho : s.overdrawn i = false) :
    State.settle i (s.passedUp i r)
      = ((s.passedUp i r).modPass i (fun p => { p with demand := none })).withdraw i := by
  have hw := s.work_passedUp i r
  have hhold : ((s.passedUp i r).work i).pass.hold = [] := by rw [hw]; exact hh
  have hmap : ((s.passedUp i r).slot i).ctx.map = (s.slot i).ctx.map := by rw [State.slot_ctx, hw]; rfl
  have hdemand : (s.passedUp i r).reportDemand i
      = (s.passedUp i r).modPass i (fun p => { p with demand := none }) := by
    refine State.modPass_congr ?_
    rw [State.slot_pass, hhold]
    rfl
  rw [State.settle_eq (Slot.waits_nil hhold) (Slot.demanding_raise_nil hhold)
    (.inl (by rw [(s.passedUp_flows i r).keeps.park]; exact hp)), hmap, hdemand]
  refine State.shed_of_clear (s := ((s.passedUp i r).modPass i _).withdraw i) ?_
  exact (s.passedUp_flows i r).clear ho

/-! ## A barrier whose last command ends -/

theorem State.passedUp_slot (hf : (s.slot i).pass.flight = [f]) (ht : f.cmd.args.tag = r.tag) :
    ((s.passedUp i r).slot i).ctx.state = (s.slot i).ctx.state
      ∧ ((s.passedUp i r).slot i).ctx.map = (s.slot i).ctx.map
      ∧ ((s.passedUp i r).slot i).fence = (s.slot i).fence
      ∧ ((s.passedUp i r).slot i).pass = { (s.slot i).pass with flight := [] } := by
  have hpass := Passage.dropFlight_one hf ht
  rw [State.slot_ctx, State.slot_fence, State.slot_pass, s.work_passedUp]
  exact ⟨rfl, rfl, rfl, hpass⟩

/-- The barrier performs with one step down (R110). -/
theorem State.settle_barrier_lowers (hf : (s.slot i).pass.flight = [f]) (ht : f.cmd.args.tag = r.tag)
    (hh : (s.slot i).pass.hold = h :: rest) (hc : h.cmd.op.cls = .lowering target) (hn : (s.slot i).fence = false)
    (hs : (s.slot i).ctx.state = .loaded ∨ ((s.slot i).ctx.state = .spun ∧ target ≠ .spun)) :
    State.Bears i none (((s.passedUp i r).work i).steppedDown s.profile s.now) (s.passedUp i r)
      (State.settle i (s.passedUp i r)) := by
  obtain ⟨hst, hmap, hfence, hpass⟩ := State.passedUp_slot (r := r) hf ht
  have hk := (s.passedUp_flows i r).keeps
  have hrank : target.rank < (s.slot i).ctx.state.rank := by
    rcases hs with e | ⟨e, hne⟩
    · rw [e]
      by_cases ht : target = .spun
      · rw [ht]; decide
      · exact (Op.lowering_target hc ht).trans (by decide)
    · rw [e]
      exact Op.lowering_target hc hne
  have hb := State.settle_lowers (s := s.passedUp i r) (i := i) (by rw [hpass]; exact hh) hc (by rw [hpass])
    (by rw [hfence]; exact hn) (by rw [hst]; exact hs.imp id And.left) (by rw [hst]; exact hrank)
  rwa [hk.profile, hk.now] at hb

theorem State.cameTo_steppedDown (hf : (s.slot i).pass.flight = [f]) (ht : f.cmd.args.tag = r.tag)
    (hh : (s.slot i).pass.hold = h :: rest)
    (hs : (s.slot i).ctx.state = .loaded ∨ (s.slot i).ctx.state = .spun)
    (hw : t.work i = ((s.passedUp i r).work i).steppedDown s.profile s.now) :
    s.CameTo t i (s.slot i).ctx.state.below s.now
      ∧ (t.slot i).ctx.outstanding = (s.slot i).ctx.state.below.outstanding := by
  obtain ⟨hst, hmap, -, -⟩ := State.passedUp_slot (r := r) hf ht
  obtain ⟨hpow, -, -, -⟩ := SlotSt.below_cases hs
  have hcharge : ((s.passedUp i r).work i).charge = (s.slot i).charge := by rw [s.work_passedUp]; rfl
  have hst' : ((s.passedUp i r).work i).ctx.state = (s.slot i).ctx.state := hst
  rw [Slot.steppedDown, hst'] at hw
  refine ⟨State.cameTo_of_work (x := ((s.passedUp i r).work i).begun) hcharge hmap hpow ?_ ?_ ?_
    fun e _ => ?_, ?_⟩
  · rw [hw]; rfl
  · rw [hw]; rfl
  · rw [hw]; exact Slot.enter_query _ _ false false _ hpow
  · rw [hh] at e; cases e
  · rw [State.slot_ctx, hw]; rfl

/-! ## The lowering phase -/

/-- In the lowering phase an IDLE slot with nothing held or in flight is powered off at a park level of OFF (R91). -/
theorem State.settle_phase {u : State} (hst : (u.slot i).ctx.state = .idle) (hh : (u.slot i).pass.hold = [])
    (hf : (u.slot i).pass.flight = []) (ha : (u.slot i).pass.aborts = []) (hp : u.park.lowering = true)
    (hl : u.profile.parkLevel = .off) :
    ∃ y, (u.work i).demanding.WentOff (u.profile.slots[i]) u.now y
      ∧ (State.settle i u).work i = y
      ∧ (u.ctrl.sending ≠ none → (State.settle i u).up i = u.up i) := by
  let v := (u.reportDemand i).withdraw i
  have hhold : (u.work i).pass.hold = [] := hh
  have hvw : v.work i = (u.work i).demanding := u.work_report_demand i
  have hvst : (v.slot i).ctx.state = .idle := by rw [State.slot_ctx, hvw]; exact hst
  have hvpass : (v.slot i).pass = { (u.slot i).pass with demand := none } := by
    rw [State.slot_pass, hvw]
    exact Slot.demanding_pass_nil hhold
  have hserve : u.reportAndServe i = v := by
    rw [State.reportAndServe, State.report_withdraws (Slot.demanding_raise_nil hhold)]
    exact State.serve_waits (by rw [hvw]; exact Slot.waits_nil hhold)
  have hk : u.Keeps v := ((State.Keeps.rfl u).reportDemand i).withdraw i
  have hpark : v.parkTest i = v.lower i := by
    have habove : v.abovePark i = true := by
      simp only [State.abovePark, hvst, hk.profile, hl, hvpass, hf]
      rfl
    unfold State.parkTest
    rw [habove, hk.park, hp]
    rfl
  have hvflight : (v.slot i).pass.flight = [] := by rw [hvpass]; exact hf
  have hwent := State.work_orderDown_idle hvst hvflight
  rw [hk.profile, hk.now, hvw] at hwent
  have hb := State.lower_idle_bears hvst hvflight
  have hypass : ((v.orderDown i).work i).pass.hold = [] ∧ ((v.orderDown i).work i).pass.demand = none := by
    have hdem := Slot.demanding_pass_nil hhold
    rw [hwent.pass, hdem]
    split
    · exact ⟨hhold, rfl⟩
    · exact ⟨rfl, rfl⟩
  have hrest : ((v.orderDown i).work i).Resting none :=
    ⟨Slot.waits_nil hypass.1, by rw [hypass.1, hypass.2]; rfl, Slot.raise_of_demand_none hypass.2⟩
  have hend := hb.andThen (·.settleEnd hrest)
  have hsettle : State.settle i u = State.settleEnd i (v.lower i) := by
    unfold State.settle
    rw [hserve, hpark]
  rw [hsettle]
  refine ⟨_, hwent, hend.2.work_eq, fun hs => ?_⟩
  have hvup : v.up i = u.up i := by
    change (u.reportDemand i).up i = _
    unfold State.reportDemand
    exact State.up_modPass _ _ _ _
  obtain ⟨h1, h2⟩ := State.up_orderDown_idle (s := v) (i := i) hs hvst
    (by
      intro c hc
      rw [hvpass] at hc
      simp [Passage.commands, hh, hf, ha, flightByAge] at hc) hvflight
  have hframes : v.offFrames i = [] := by
    rw [State.offFrames, hvpass]
    simp only [ha, hh, List.map_nil, ite_self, List.append_nil]
  rw [hend.1.up_busy h2, h1, hframes, hvup, List.append_nil]

end passing

end Sys2Proof.Machine
end

section
/-! PROOFS. What a drive's completion makes the part do. -/

namespace Sys2Proof.Machine

section upward

variable {s t : State} {i : SlotId} {r : DriveReport} {f : InFlight} {h : HoldEntry} {rest : List HoldEntry}
  {target : Level}

/-- The one lowering entry behind a command's completion completes at its target, with its own answer behind
the drive's (R110). -/
theorem State.settle_barrier_ends (hf : (s.slot i).pass.flight = [f]) (ht : f.cmd.args.tag = r.tag)
    (hh : (s.slot i).pass.hold = [h]) (hc : h.cmd.op.cls = .lowering target) (hn : (s.slot i).fence = false)
    (hs : (s.slot i).ctx.state.settled = true) (hr : (s.slot i).ctx.state.rank ≤ target.rank)
    (hp : s.park.lowering = false) (ho : s.overdrawn i = false) (hfield : h.cmd.args.slot = fieldOfSlot i) :
    ((State.settle i (s.passedUp i r)).slot i).ctx.state = (s.slot i).ctx.state
      ∧ ((State.settle i (s.passedUp i r)).slot i).pass
        = { (s.slot i).pass with hold := [], flight := [], demand := none }
      ∧ (s.ctrl.sending ≠ none → (State.settle i (s.passedUp i r)).up i = s.up i
          ++ [(s.slot i).completionOf i r, interposerAnswer h.cmd 0x00 0 (s.slot i).ctx.state 0]) := by
  obtain ⟨hst, hmap, hfence, hpass⟩ := State.passedUp_slot (r := r) hf ht
  have hflows := s.passedUp_flows i r
  have hhold : ((s.passedUp i r).slot i).pass.hold = [h] := by rw [hpass]; exact hh
  have hnodup : (((s.passedUp i r).slot i).pass.hold.map (fun e => e.cmd.args.tag)).Nodup := by
    rw [hhold]
    exact List.nodup_singleton _
  have hb := State.settle_finishes (s := s.passedUp i r) (i := i) hhold hc (by rw [hpass])
    (by rw [hfence]; exact hn) (by rw [hst]; exact hs) (by rw [hst]; exact hr) hnodup
    (fun g hg => by cases hg) (by rw [hflows.keeps.park]; exact hp)
    (fun _ => by
      rw [State.overdrawn, hmap]
      exact hflows.clear ho)
  have hfin := Slot.finished_pass (s.passedUp i r).profile (s.passedUp i r).now (x := (s.passedUp i r).work i) hhold hc
    hnodup
  have hraise : (((s.passedUp i r).work i).finished (s.passedUp i r).profile (s.passedUp i r).now h).demanding.raise
      = none := Slot.demanding_raise_nil (by rw [hfin])
  rw [hraise] at hb
  have hpd := Slot.finished_passed (s.passedUp i r).profile (s.passedUp i r).now h ((s.passedUp i r).work i)
  refine ⟨?_, ?_, fun hs => ?_⟩
  · rw [State.slot_ctx, hb.2.work_eq]
    exact hpd.state.trans hst
  · rw [hb.2.pass, Slot.demanding_pass_nil (by rw [hfin]), hfin, ← State.slot_pass, hpass]
  · have h1 := hflows.sending hs
    rw [hb.1.up_busy (((s.passedUp i r).performed_flows i h).sending h1),
      State.up_performed h1 hhold hc hnodup hfield, hst, State.up_passedUp hs, List.append_assoc]
    rfl

/-- The one POWER_OFF behind a command's completion is performed in IDLE (R110; log entry 39). -/
theorem State.settle_barrier_off (hf : (s.slot i).pass.flight = [f]) (ht : f.cmd.args.tag = r.tag)
    (hh : (s.slot i).pass.hold = [h]) (hc : h.cmd.op.cls = .lowering .off) (hn : (s.slot i).fence = false)
    (hs : (s.slot i).ctx.state = .idle) (ha : (s.slot i).pass.aborts = []) (ho : s.overdrawn i = false)
    (hfield : h.cmd.args.slot = fieldOfSlot i) :
    ((State.settle i (s.passedUp i r)).slot i).ctx.state = (if (s.profile.slots[i]).enabled then .off else .empty)
      ∧ ((State.settle i (s.passedUp i r)).slot i).charge = 0
      ∧ ((State.settle i (s.passedUp i r)).slot i).pass
        = { (s.slot i).pass with hold := [], flight := [], demand := none }
      ∧ (s.ctrl.sending ≠ none → (State.settle i (s.passedUp i r)).up i = s.up i
          ++ [(s.slot i).completionOf i r,
            if (s.profile.slots[i]).enabled then interposerAnswer h.cmd 0x00 0 .off 0
            else interposerAnswer h.cmd 0x41 (fullCount h.cmd.args) .empty 0]) := by
  obtain ⟨hst, hmap, hfence, hpass⟩ := State.passedUp_slot (r := r) hf ht
  have hflows := s.passedUp_flows i r
  have hown : ((s.passedUp i r).slot i).Own i := by
    intro c hc
    rw [hpass] at hc
    simp only [Passage.commands, hh, ha, flightByAge, List.map_cons, List.map_nil, List.append_nil,
      List.mem_singleton] at hc
    rw [hc]
    exact hfield
  obtain ⟨hoff, -, hup⟩ := State.settle_powersOff (s := s.passedUp i r) (i := i) (e := h) (hst.trans hs)
    (by rw [hpass]; exact hh) hc (by rw [hpass]) (by rw [hfence]; exact hn)
    (by
      rw [State.overdrawn, hmap]
      exact hflows.clear ho) hown
  rw [hflows.keeps.profile, hflows.keeps.now] at hoff
  generalize State.settle i (s.passedUp i r) = t at *
  refine ⟨hoff.state, hoff.charge, ?_, fun hs => ?_⟩
  · rw [State.slot_pass, hoff.pass, ← State.slot_pass, hpass]
    simp only [ha]
  · rw [hup, (State.handedUp_busy (hflows.sending hs) _).1, State.up_passedUp hs, State.powerOffFrames, hpass, ha,
      hflows.keeps.profile, List.append_assoc]
    rfl

end upward

/-- Settles O21: the completion passes up, and the head behind it is performed. -/
theorem completionsPassUp : Obligations.CompletionsPassUp := by
  unfold Obligations.CompletionsPassUp
  intro s i r hr
  refine ⟨fun f hp hcp hop hf h2 h3 hh hlow ho => ?_, fun f h rest target hp hcp hop h2 h3 hf ht hh hc hn => ?_,
    fun f hst hcp hop h2 h3 hf ht hh ha hlow hpark => ?_, fun hp hcp hop hab => ?_, fun hd => ?_⟩
  · have hframe : (s.removeFlight i r.tag).passUp i r = _ := State.passUp_eq _ i r
    obtain ⟨hctx, hpass⟩ := s.removeFlight_slot i r.tag
    have hup : ((s.removeFlight i r.tag).slot i).completionOf i r = (s.slot i).completionOf i r := by
      rw [Slot.completionOf, hctx, hpass]
      rfl
    rw [hup] at hframe
    have hexec := exec_passedUp hr hp hcp hop hf h2 h3
    rw [State.settle_passedUp hh hlow ho, State.passedUp, hframe] at hexec
    have hw := s.work_passedUp i r
    rw [State.passedUp, hframe] at hw
    have htw : ((((s.removeFlight i r.tag).handUp i ((s.slot i).completionOf i r)).active i).modPass i
        (fun p => { p with demand := none })).work i = _ := State.work_modPass _ i _
    rw [hw] at htw
    refine ⟨hexec, congrArg (fun x : Slot => x.ctx.lastActivity) htw, ?_⟩
    refine (congrArg (fun x : Slot => x.ctx.idleTimer) htw).trans ?_
    refine (Slot.act_idleTimer _ _ _).trans ?_
    exact (congrArg (fun x : Slot => x.idleFrom s.profile s.now (s.slot i).ctx.state) htw).symm
  · have hk : s.Keeps (State.settle i (s.passedUp i r)) := (s.passedUp_flows i r).keeps.settle i
    have hexec := exec_passedUp hr hp hcp hop (Passage.flight?_one hf ht) h2 h3
    refine ⟨fun hs => ?_, fun hnil ho hfield => ?_⟩
    · have hb := State.settle_barrier_lowers hf ht hh hc hn hs
      have hw := hb.2.work_eq
      have hcame := State.cameTo_steppedDown hf ht hh (hs.imp id And.left) hw
      refine ⟨_, hexec, ?_, fun e => ?_, fun e => ?_, fun hb' => ?_, hk.rest, hk.now⟩
      · obtain ⟨-, -, -, hpass⟩ := State.passedUp_slot (r := r) hf ht
        have hpass' : ((s.passedUp i r).work i).pass = { (s.slot i).pass with flight := [] } := hpass
        rw [hb.2.pass, Slot.steppedDown, Slot.enter_pass, Slot.begun_pass (by rw [hpass']; exact hh) hc, hpass']
        rfl
      · rw [e] at hcame
        exact hcame
      · rw [e] at hcame
        exact hcame
      · exact (hb.1.up_busy ((s.passedUp_flows i r).sending hb')).trans (State.up_passedUp hb' r)
    · rw [hnil] at hh
      refine ⟨fun hs hrank hlow => ?_, fun hs htarget ha => ?_⟩
      · obtain ⟨h1, h2, h3⟩ := State.settle_barrier_ends hf ht hh hc hn hs hrank hlow ho hfield
        exact ⟨_, hexec, h1, h2, h3, hk.rest, hk.now⟩
      · rw [htarget] at hc
        obtain ⟨h1, h2, h3, h4⟩ := State.settle_barrier_off hf ht hh hc hn hs ha ho hfield
        generalize State.settle i (s.passedUp i r) = t at *
        refine ⟨t, hexec, h1, State.powerEnable_unpowered ?_, h2, h3, h4, hk.rest, hk.now⟩
        rw [h1]
        split <;> rfl
  · have hp : (s.slot i).ctx.state.powered = true := by rw [hst]; rfl
    have hk : s.Keeps (State.settle i (s.passedUp i r)) := (s.passedUp_flows i r).keeps.settle i
    have hexec := exec_passedUp hr hp hcp hop (Passage.flight?_one hf ht) h2 h3
    obtain ⟨hst', -, -, hpass⟩ := State.passedUp_slot (r := r) hf ht
    have hkp := (s.passedUp_flows i r).keeps
    have hhold : ((s.passedUp i r).slot i).pass.hold = [] := by rw [hpass]; exact hh
    obtain ⟨y, hwent, hw, hup⟩ := State.settle_phase (u := s.passedUp i r) (i := i) (hst'.trans hst) hhold
      (by rw [hpass]) (by rw [hpass]; exact ha) (by rw [hkp.park]; exact hlow)
      (by rw [hkp.profile]; exact hpark)
    rw [hkp.profile] at hwent
    generalize State.settle i (s.passedUp i r) = t at *
    refine ⟨t, hexec, ?_, State.powerEnable_unpowered ?_, ?_, ?_, fun hb => ?_, hk.rest, hk.now⟩
    · rw [State.slot_ctx, hw]; exact hwent.state
    · rw [State.slot_ctx, hw]; exact hwent.unpowered
    · rw [State.slot_charge, hw]; exact hwent.charge
    · have hdem : ((s.passedUp i r).work i).demanding.pass = { (s.slot i).pass with flight := [], demand := none } := by
        rw [Slot.demanding_pass_nil (x := (s.passedUp i r).work i) hhold, ← State.slot_pass, hpass]
      rw [State.slot_pass, hw, hwent.pass, hdem]
      split
      · simp only [ha]
      · simp only [Passage.emptied, ha, hh]
    · exact (hup ((s.passedUp_flows i r).sending hb)).trans (State.up_passedUp hb r)
  · rw [exec_driveCompletion hr, State.takeCompletion_abort hp hcp hop hab]
    generalize hg : (fun p : Passage => { p with aborts := p.aborts.filter (fun c => c.args.tag != r.tag) }) = g
    have hhold : (g (s.slot i).pass).hold = (s.slot i).pass.hold := by rw [← hg]
    have hup : ((s.modPass i g).slot i).completionOf i r = (s.slot i).completionOf i r := by
      rw [Slot.completionOf, Slot.completionOf, State.slot_ctx, State.slot_pass, State.work_modPass, ← hhold]
      rfl
    rw [State.passUp_eq, hup]
    rfl
  · rw [exec_driveCompletion hr, State.takeCompletion_discarded hd]

end Sys2Proof.Machine
end

section
/-! PROOFS. The entries into FAULT and EMPTY, with every command answered. -/

namespace Sys2Proof.Machine

/-! ## The order of R117 -/

theorem insertByAge_perm (next : Seq) (r : InFlight) (l : List InFlight) :
    (insertByAge next r l).Perm (r :: l) := by
  induction l with
  | nil => exact List.Perm.refl _
  | cons h t ih =>
    unfold insertByAge
    split
    · exact List.Perm.refl _
    · exact (ih.cons h).trans (List.Perm.swap r h t)

theorem flightByAge_perm (next : Seq) (l : List InFlight) : (flightByAge next l).Perm l := by
  induction l with
  | nil => exact List.Perm.refl _
  | cons r t ih => exact (insertByAge_perm next r _).trans (ih.cons r)

/-- Records stand in order of forward sequence, the earliest first (R117). -/
def SortedByAge (next : Seq) (l : List InFlight) : Prop :=
  l.Pairwise fun a b => seqAge next b.seq ≤ seqAge next a.seq

theorem SortedByAge.insert {next : Seq} {l : List InFlight} (h : SortedByAge next l) (r : InFlight) :
    SortedByAge next (insertByAge next r l) := by
  induction l with
  | nil => exact List.pairwise_singleton _ _
  | cons g t ih =>
    obtain ⟨hg, ht⟩ := List.pairwise_cons.mp h
    unfold insertByAge
    split
    · next hgt =>
      refine List.pairwise_cons.mpr ⟨fun b hb => ?_, h⟩
      rcases List.mem_cons.mp hb with rfl | hb
      · omega
      · have := hg b hb
        omega
    · next hle =>
      refine List.pairwise_cons.mpr ⟨fun b hb => ?_, ih ht⟩
      rcases List.mem_cons.mp ((insertByAge_perm next r t).mem_iff.mp hb) with rfl | hb
      · omega
      · exact hg b hb

theorem flightByAge_sorted (next : Seq) (l : List InFlight) : SortedByAge next (flightByAge next l) := by
  induction l with
  | nil => exact List.Pairwise.nil
  | cons r t ih => exact ih.insert r

/-! ## Down -/

section down

variable {s t u v : State} {i : SlotId} {st : SlotSt} {code : Byte} {cause : SenseCode}

/-- The answers of every command of a slot, in the order of R117. -/
def Slot.answers (code : Byte) (st : SlotSt) (x : Slot) : List UpFrame :=
  x.pass.commands.map fun c => interposerAnswer c code (fullCount c.args) st 0

/-- The claims' word for the answers of a slot's commands (R117). -/
theorem State.allAnswered_of_up (h : s.ctrl.sending ≠ none → (s.slot i).Own i →
    t.up i = s.up i ++ (s.slot i).answers code st) : s.AllAnswered t i code st := by
  refine ⟨flightByAge (s.slot i).pass.nextSeq (s.slot i).pass.flight, flightByAge_perm _ _,
    flightByAge_sorted _ _, fun hs hown => ?_⟩
  exact h hs hown

/-- A slot with the entry of its cause submitted, and down (R25, R155). -/
def State.downed (s : State) (i : SlotId) (st : SlotSt) (code : Byte) (cause : SenseCode) : State :=
  (s.submit i cause none none (s.slot i).ctx.state (s.slot i).pass.hold.length).enterDown i st code

/-- The slot that went down. -/
def Slot.downed (p : Profile) (m : MotionSt) (n : Nat) (st : SlotSt) (cause : SenseCode) (a : Nat) (x : Slot) :
    Slot :=
  ((x.noted p m cause none none x.ctx.state x.pass.hold.length).down p n st).actedAt a

theorem State.work_downed (hst : st.powered = false) : ∃ a,
    (s.downed i st code cause).work i = (s.work i).downed s.profile s.motion.state s.now st cause a
      ∧ ((s.slot i).ctx.state = .fault → a = s.now) := by
  refine ⟨if (s.slot i).pass.commands = [] ∧ (s.slot i).ctx.state ≠ .fault then
      (s.slot i).ctx.lastActivity else s.now, ?_, ?_⟩
  · rw [State.downed, State.work_enterDown _ _ _ hst, State.work_submit]
    simp only [State.slot_ctx, State.slot_pass, State.work_submit]
    rfl
  · intro h
    rw [if_neg fun hn => hn.2 h]

theorem State.downed_onlyAt (s : State) (i : SlotId) (st : SlotSt) (code : Byte) (cause : SenseCode) :
    s.OnlyAt i (s.downed i st code cause) := (State.OnlyAt.rfl.submit _ _ _ _ _).enterDown st code

theorem State.downed_keeps (s : State) (i : SlotId) (st : SlotSt) (code : Byte) (cause : SenseCode) :
    s.Keeps (s.downed i st code cause) := ((State.Keeps.rfl s).submit i _ _ _ _ _).enterDown i st code

theorem State.downed_noEntry (s : State) (i : SlotId) (st : SlotSt) (code : Byte) (cause : SenseCode) :
    (s.downed i st code cause).NoEntry i := State.enterDown_noEntry _ i st code

theorem State.up_downed (hs : s.ctrl.sending ≠ none) (hown : (s.slot i).Own i) (hc : code ≠ codeOk) :
    (s.downed i st code cause).up i = s.up i ++ (s.slot i).answers code st := by
  let u := s.submit i cause none none (s.slot i).ctx.state (s.slot i).pass.hold.length
  have hu : (u.slot i).pass = (s.slot i).pass := by rw [State.slot_pass, State.work_submit]; rfl
  have h := (State.UpAlike.rfl (s := u)).enterDown (i := i) (st := st) (code := code) fun c hc => hown c (by rwa [hu] at hc)
  have hbusy : u.ctrl.sending ≠ none := hs
  have hup : u.up i = s.up i := State.up_submit _ _ _ _ _ _ _ _
  rw [State.downed, h.up, (State.handedUp_busy hbusy _).1, hup, hu]
  simp only [Slot.answers, partResidual_full hc]

/-- A slot with nothing left takes any slot map entry without a frame. -/
theorem State.up_takeMap_emptied (hc : (u.slot i).pass.commands = []) :
    (u.takeMap i).up i = u.up i := by
  cases he : (u.profile.slots[i]).enabled with
  | true => exact (State.UpAlike.rfl.takeMap he).up i
  | false =>
    by_cases hst : (u.slot i).ctx.state = .empty
    · unfold State.takeMap
      simp only [he, hst, Bool.false_eq_true, if_false, if_true]
      rw [State.up_modCtx, State.up_modCtx]
      rfl
    · have h := State.UpAlike.rfl.takeMap_disabled he hst fun c hm => by rw [hc] at hm; cases hm
      rw [hc] at h
      exact h.up i

/-- From x to y, a slot went down with everything of it dropped (R25). -/
structure Slot.Spent (x y : Slot) : Prop where
  rest : y.AtRest
  pass : y.pass = x.pass.emptied
  spinMark : y.ctx.spinMark = false
  emergency : y.ctx.emergency = false

theorem Slot.downed_spent (p : Profile) (m : MotionSt) (n a : Nat) (cause : SenseCode) (x : Slot)
    (hst : st.powered = false) : x.Spent (x.downed p m n st cause a) :=
  ⟨(Slot.down_atRest p n _ hst).actedAt a, rfl, rfl, rfl⟩

/-- A slot in FAULT takes its slot map entry (R5, R25). -/
theorem State.work_takeMap_fault {x : Slot} (h : x.Spent (v.work i)) (hst : (v.slot i).ctx.state = .fault) :
    x.Spent ((v.takeMap i).work i)
      ∧ ((v.takeMap i).work i).ctx.state = (if (v.profile.slots[i]).enabled then .fault else .empty)
      ∧ ((v.takeMap i).work i).ctx.map = v.profile.slots[i]
      ∧ ((v.profile.slots[i]).enabled = false → ((v.takeMap i).work i).ctx.lastActivity = v.now)
      ∧ ((v.takeMap i).work i).record = (v.work i).record ∧ ((v.takeMap i).work i).notice = (v.work i).notice
      ∧ ((v.takeMap i).work i).ctx.faultAck = (v.work i).ctx.faultAck := by
  obtain ⟨hrest, hpass, hspin, hemer⟩ := h
  cases he : (v.profile.slots[i]).enabled with
  | true =>
    rw [State.work_takeMap_enabled he]
    exact ⟨⟨hrest.mapped _ _, hpass, hspin, hemer⟩, hst, rfl, fun e => (by cases e), rfl, rfl, rfl⟩
  | false =>
    rw [State.work_takeMap_disabled he (by rw [hst]; exact SlotSt.noConfusion), hst]
    refine ⟨⟨(Slot.down_atRest _ _ _ rfl).actedAt _, ?_, rfl, rfl⟩, rfl, rfl, fun _ => ?_, rfl, rfl, rfl⟩
    · change (v.work i).pass.emptied = _
      rw [hpass]
      rfl
    · exact if_neg fun hn => hn.2 rfl

/-! ## FAULT -/

/-- The state in which a slot has entered FAULT, before the admission unit reacts (R25). -/
def State.faulted (s : State) (i : SlotId) (cause : SenseCode) : State :=
  ((s.downed i .fault codeSlotFault cause).modCtx i (fun c => { c with faultAck := false })).takeMap i

theorem State.enterFault_eq (s : State) (i : SlotId) (cause : SenseCode) :
    s.enterFault i cause = State.reactDown (s.slot i) i (s.faulted i cause) := rfl

/-- What is the same of slot i in two states, for an entry into FAULT. -/
structure State.AlikeAt (i : SlotId) (s u : State) : Prop where
  keeps : s.loader = u.loader ∧ s.motion = u.motion
  state : (u.slot i).ctx.state = (s.slot i).ctx.state
  pass : (u.slot i).pass = (s.slot i).pass
  record : (u.slot i).record = (s.slot i).record
  up : u.up i = s.up i
  sending : u.ctrl.sending = s.ctrl.sending

/-- A slot that stands unpowered is left by the admission unit's reaction. -/
theorem State.reactDown_bears {x : Slot} (h : s.Stands i none x) (was : Slot) :
    State.Bears i none x s (State.reactDown was i s) := (h.react was i).shed _

theorem Slot.Spent.safe {x y : Slot} (h : x.Spent y) : y.Busy := by
  refine .inr (.inr ⟨fun e => ?_, fun e => ?_⟩) <;>
    · have hp := h.rest.powered
      rw [e] at hp
      cases hp

theorem State.faulted_noEntry (s : State) (i : SlotId) (cause : SenseCode) : (s.faulted i cause).NoEntry i :=
  State.takeMap_noEntry ((s.downed_noEntry i .fault codeSlotFault cause).of_queue_eq rfl)

theorem State.up_faulted (hs : s.ctrl.sending ≠ none) (hown : (s.slot i).Own i) :
    (s.faulted i cause).up i = s.up i ++ (s.slot i).answers codeSlotFault .fault := by
  obtain ⟨a, hw, -⟩ := State.work_downed (s := s) (i := i) (code := codeSlotFault) (cause := cause)
    (show SlotSt.fault.powered = false from rfl)
  rw [State.faulted, State.up_takeMap_emptied, State.up_modCtx, State.up_downed hs hown (by decide)]
  rw [State.slot_pass, State.work_modCtx, hw]
  rfl

/-- The slot that has entered FAULT, and what of the state it left its entry captured (R25, R155). -/
theorem State.work_faulted (hcls : cause.cls = .drive) :
    (s.work i).Spent ((s.faulted i cause).work i)
      ∧ ((s.faulted i cause).work i).ctx.state = (if (s.profile.slots[i]).enabled then .fault else .empty)
      ∧ ((s.faulted i cause).work i).ctx.map = s.profile.slots[i]
      ∧ ((s.profile.slots[i]).enabled = false → ((s.faulted i cause).work i).ctx.lastActivity = s.now)
      ∧ ((s.faulted i cause).work i).record
        = recordAfter (s.slot i).record cause none (s.slot i).ctx.state s.motion.state
            (s.slot i).pass.hold.length none
      ∧ ((s.faulted i cause).work i).notice = true ∧ ((s.faulted i cause).work i).ctx.faultAck = false := by
  obtain ⟨a, hw, -⟩ := State.work_downed (s := s) (i := i) (code := codeSlotFault) (cause := cause)
    (show SlotSt.fault.powered = false from rfl)
  have hk := s.downed_keeps i .fault codeSlotFault cause
  let v := (s.downed i .fault codeSlotFault cause).modCtx i (fun c => { c with faultAck := false })
  have hv : v.work i = _ := State.work_modCtx _ i _
  rw [hw] at hv
  have hprof : v.profile = s.profile := hk.profile
  have hnow : v.now = s.now := hk.now
  obtain ⟨hrest, hpass, hspin, hemer⟩ := Slot.downed_spent s.profile s.motion.state s.now a cause (s.work i)
    (show SlotSt.fault.powered = false from rfl)
  have h := State.work_takeMap_fault (v := v) (i := i) (x := s.work i)
    (by rw [hv]; exact ⟨{ hrest with }, hpass, hspin, hemer⟩) (by rw [State.slot_ctx, hv]; rfl)
  rw [hprof, hnow, hv] at h
  obtain ⟨h1, h2, h3, h4, h5, h6, h7⟩ := h
  refine ⟨h1, h2, h3, h4, h5, h6.trans ?_, h7⟩
  change noticeAfter s.profile cause (s.work i).notice = true
  simp only [noticeAfter, hcls]

/-- An entry of slot i into FAULT, as the claims spell it (R25). -/
theorem State.enterFault_faultedWith (hcls : cause.cls = .drive) (h : s.AlikeAt i u) :
    s.FaultedWith (u.enterFault i cause) i cause := by
  obtain ⟨hspent, hstate, hmap, hact, hrec, hnotice, hack⟩ := State.work_faulted (s := u) (i := i) hcls
  have hprof : s.profile = u.profile := congrArg Loader.profile h.keeps.1
  have hb := State.reactDown_bears (.of_work rfl (u.faulted_noEntry i cause) (.inl hspent.safe)) (u.slot i)
  have hup := State.up_faulted (s := u) (i := i) (cause := cause)
  have o : u.OnlyAt i (u.faulted i cause) := ((u.downed_onlyAt i .fault codeSlotFault cause).modCtx _).takeMap
  have hnow := ((State.Keeps.rfl u).enterFault i cause).now
  rw [← State.enterFault_eq] at hb
  generalize u.enterFault i cause = t at *
  have hw := hb.2.work_eq
  have hpow : (t.slot i).ctx.state.powered = false := by rw [State.slot_ctx, hw]; exact hspent.rest.powered
  rw [← hprof] at hstate hmap hact
  rw [h.state, h.record, h.pass, ← h.keeps.2] at hrec
  refine ⟨?_, ?_, State.powerEnable_unpowered hpow, ?_, ?_, ?_, ?_, ?_, ?_, ?_, ?_, ?_, ?_, ?_, ?_, ?_, ?_,
    fun he => ?_, ?_, State.allAnswered_of_up fun hs hown => ?_, hb.2.noEntry⟩
  · rw [State.slot_ctx, hw]; exact hstate
  · rw [State.slot_ctx, hw]; exact hmap
  · rw [State.slot_charge, hw]; exact hspent.rest.charge
  · rw [State.slot_port, hw]; exact hspent.rest.port
  · rw [State.slot_fence, hw]; exact hspent.rest.fence
  · rw [State.slot_pass, hw, hspent.pass, ← State.slot_pass, h.pass]
  · rw [State.slot_ctx, hw]; exact hspent.rest.outstanding
  · rw [State.slot_ctx, hw]; exact hspent.rest.deadline
  · rw [State.slot_ctx, hw]; exact hspent.rest.query
  · rw [State.slot_ctx, hw]; exact hspent.rest.missed
  · rw [State.slot_ctx, hw]; exact hspent.rest.idle
  · rw [State.slot_ctx, hw]; exact hspent.rest.retry
  · rw [State.slot_ctx, hw]; exact hspent.spinMark
  · rw [State.slot_ctx, hw]; exact hspent.emergency
  · rw [State.slot_ctx, hw]; exact hack
  · rw [State.slot_notice, hw]; exact hnotice
  · rw [State.slot_ctx, hw]; exact (hact he).trans hnow.symm
  · rw [State.slot_record, hw]; exact hrec
  · have hs' : u.ctrl.sending ≠ none := by rw [h.sending]; exact hs
    have hown' : (u.slot i).Own i := fun c hc => hown c (by rwa [h.pass] at hc)
    have hans : (u.slot i).answers codeSlotFault .fault = (s.slot i).answers codeSlotFault .fault := by
      rw [Slot.answers, Slot.answers, h.pass]
    rw [hb.1.up_busy (o.sending hs'), hup hs' hown', hans, h.up]
    rfl

end down

end Sys2Proof.Machine
end

section
/-! PROOFS. What leads to FAULT: a tripped supply, a deadline, a lost drive, and the faults that a drive reports. -/

namespace Sys2Proof.Machine

section events

variable {s t u : State} {i : SlotId}

/-- A change of a slot that leaves its waiting frames leaves a calm state calm. -/
theorem State.Calm.modSlot (h : s.Calm) (i : SlotId) (f : Slot → Slot) (hf : ∀ x, (f x).waiting = x.waiting) :
    (s.modSlot i f).Calm := by
  have hw : ∀ j, ((s.modSlot i f).slot j).waiting = (s.slot j).waiting := fun j => by
    rw [State.slot_modSlot]
    split
    · next hj => rw [hf, hj]
    · rfl
  refine ⟨h.1, Eq.trans ?_ h.2⟩
  unfold State.waitingCount
  simp only [hw]
  rfl

theorem State.AlikeAt.rfl (i : SlotId) (s : State) : s.AlikeAt i s :=
  ⟨⟨Eq.refl _, Eq.refl _⟩, Eq.refl _, Eq.refl _, Eq.refl _, Eq.refl _, Eq.refl _⟩

theorem State.AlikeAt.reach (h : s.AlikeAt i u) (t : Nat) : s.AlikeAt i (u.reach t) := { h with }

/-- A change of the slot that neither FAULT nor its answers read. -/
theorem State.AlikeAt.modSlot (h : s.AlikeAt i u) (f : Slot → Slot)
    (hf : ∀ x : Slot, (f x).ctx.state = x.ctx.state ∧ (f x).pass = x.pass ∧ (f x).record = x.record
      ∧ (f x).upstream = x.upstream) : s.AlikeAt i (u.modSlot i f) := by
  obtain ⟨h1, h2, h3, h4⟩ := hf (u.slot i)
  have hx : (u.modSlot i f).slot i = f (u.slot i) := State.slot_modSlot_self u i f
  exact ⟨h.keeps, by rw [hx, h1]; exact h.state, by rw [hx, h2]; exact h.pass, by rw [hx, h3]; exact h.record,
    by rw [State.up, hx, h4]; exact h.up, h.sending⟩

/-! ## POWER_FAULT -/

/-- The state with the POWER_FAULT line recorded and latched (R21). -/
def State.latched (s : State) (i : SlotId) : State :=
  s.modSlot i (fun x => { x with powerFaultLine := true, ctx := { x.ctx with latch := true } })

theorem State.modSlot_modSlot (s : State) (i : SlotId) (f g : Slot → Slot) :
    (s.modSlot i f).modSlot i g = s.modSlot i (fun x => g (f x)) := by
  apply State.ext_slots <;> try simp
  intro j
  by_cases hj : j = i
  · subst hj; simp
  · simp [hj]

theorem State.setPowerFault_latched (s : State) (i : SlotId) :
    (s.setPowerFault i true).modCtx i (fun c => { c with latch := true }) = s.latched i :=
  State.modSlot_modSlot s i _ _

theorem exec_powerFault (h : s.Calm) :
    exec (.powerFaultAsserted i) s = .next ((s.setPowerFault i true).tripped i)
      ∧ exec (.powerFaultDeasserted i) s = .next ((s.setPowerFault i false).untripped i) :=
  ⟨congrArg Host.Outcome.next (State.lineEvent_calm _ _ (h.modSlot i _ fun _ => rfl)),
    congrArg Host.Outcome.next (State.lineEvent_calm _ _ (h.modSlot i _ fun _ => rfl))⟩

theorem State.setPowerFault_fields (s : State) (i : SlotId) (l : Bool) :
    ((s.setPowerFault i l).slot i).ctx = (s.slot i).ctx ∧ ((s.setPowerFault i l).slot i).pass = (s.slot i).pass := by
  rw [State.setPowerFault, State.slot_modSlot_self]
  exact ⟨rfl, rfl⟩

end events

/-- Settles O32: the latch stands, and the slot faults by its state. -/
theorem powerFaultTrips : Obligations.PowerFaultTrips := by
  unfold Obligations.PowerFaultTrips
  intro s i hc
  obtain ⟨hexec, hexec'⟩ := exec_powerFault (i := i) hc
  obtain ⟨hctx, hpass⟩ := s.setPowerFault_fields i true
  refine ⟨fun h1 h2 => ?_, fun h => ?_, fun h => ?_, ?_⟩
  · have htrip : (s.setPowerFault i true).tripped i = (s.latched i).enterFault i .powerTrip := by
      unfold State.tripped
      rw [hctx, s.setPowerFault_latched]
      split
      · next h => exact absurd h h2
      · next h => exact absurd h h1
      · rfl
    have hk := (State.Keeps.rfl (s.latched i)).enterFault i .powerTrip
    have halike : s.AlikeAt i (s.latched i) := (State.AlikeAt.rfl i s).modSlot _ fun _ => ⟨rfl, rfl, rfl, rfl⟩
    have hf := State.enterFault_faultedWith (cause := .powerTrip) rfl halike
    have hlat : ((s.latched i).slot i).ctx.latch = true ∧ ((s.latched i).slot i).powerFaultLine = true := by
      rw [State.latched, State.slot_modSlot_self]
      exact ⟨rfl, rfl⟩
    rw [htrip] at hexec
    exact ⟨_, hexec, hf, (hk.latch i).trans hlat.1, (hk.powerFault i).trans hlat.2, hk.rest⟩
  · rw [hexec, State.tripped, hctx, s.setPowerFault_latched, h, hpass]
    rfl
  · rw [hexec, State.tripped, hctx, s.setPowerFault_latched, h]
    rfl
  · obtain ⟨hctx', -⟩ := s.setPowerFault_fields i false
    rw [hexec', State.untripped, hctx']
    by_cases hst : (s.slot i).ctx.state = .fault ∨ (s.slot i).ctx.state = .empty
    · rw [if_pos (by simpa using hst)]
      refine congrArg Host.Outcome.next ((State.modSlot_modSlot s i _ _).trans ?_)
      unfold State.modSlot
      simp only [hst, if_true]
    · rw [if_neg (by simpa using hst)]
      refine congrArg Host.Outcome.next ?_
      unfold State.setPowerFault State.modSlot
      simp only [hst, if_false]

/-! ## Deadlines -/

section deadlines

variable {s : State} {i : SlotId}

theorem State.atDeadline_runs {st : SlotSt} {act : State → State} {t0 : Nat} (hst : (s.slot i).ctx.state = st)
    (h : (s.slot i).ctx.stepDeadline = some t0) : State.atDeadline i st act s = act (s.reach t0) := by
  unfold State.atDeadline
  rw [if_pos hst, h]

/-- The claims' word for an expiry that enters FAULT. -/
theorem State.reach_faultedWith (t0 : Nat) {cause : SenseCode} (hcls : cause.cls = .drive) :
    s.FaultedWith ((s.reach t0).enterFault i cause) i cause
      ∧ ((s.reach t0).enterFault i cause).now = max s.now t0
      ∧ s.RestKept ((s.reach t0).enterFault i cause) := by
  have hk := (State.Keeps.rfl (s.reach t0)).enterFault i cause
  exact ⟨State.enterFault_faultedWith hcls ((State.AlikeAt.rfl i s).reach t0), hk.now, hk.rest⟩

theorem exec_deadline_faults {st : SlotSt} {cause : SenseCode} {c : Instr} {t0 : Nat} (hc : s.Calm)
    (he : exec c s = .next (State.live (State.atDeadline i st (fun t => t.enterFault i cause)) s))
    (hst : (s.slot i).ctx.state = st) (h : (s.slot i).ctx.stepDeadline = some t0) (hcls : cause.cls = .drive) :
    ∃ t, exec c s = .next t ∧ s.FaultedWith t i cause ∧ t.now = max s.now t0 ∧ s.RestKept t := by
  rw [State.live_calm hc, State.atDeadline_runs hst h] at he
  exact ⟨_, he, State.reach_faultedWith t0 hcls⟩

theorem State.loadFails_limit (h : s.profile.retryLimit ≤ (s.slot i).ctx.retry) :
    s.loadFails i = s.enterFault i .loadFailed := by
  unfold State.loadFails
  rw [if_neg (by omega)]

theorem exec_controlReply_calm (hc : s.Calm) (a b : Byte) :
    exec (.controlReply i a b) s = .next (s.takeControlReply i a b) := by
  refine congrArg Host.Outcome.next (State.arriveDrive_calm hc i _ ?_)
  simp [State.canTakeDrive, hc.1, goesUp]

end deadlines

/-- Settles O41: each deadline's act is an entry into FAULT. -/
theorem deadlinesLeadToFault : Obligations.DeadlinesLeadToFault := by
  unfold Obligations.DeadlinesLeadToFault
  intro s i t0 hc hd
  refine ⟨fun h => exec_deadline_faults hc rfl h hd rfl, fun h => exec_deadline_faults hc rfl h hd rfl,
    fun h => exec_deadline_faults hc rfl h hd rfl, fun c time hload hlimit => ?_⟩
  obtain ⟨-, hst, ⟨rfl, t1, hd1, rfl⟩ | ⟨rfl, hout, rfl⟩⟩ := hload
  · have he : exec (.loadDeadlineExpiry i) s = .next ((s.reach t1).enterFault i .loadFailed) := by
      change Host.Outcome.next (State.live (State.atDeadline i .loading (fun t => t.loadFails i)) s) = _
      rw [State.live_calm hc, State.atDeadline_runs hst hd1]
      exact congrArg Host.Outcome.next (State.loadFails_limit (s := s.reach t1) hlimit)
    exact ⟨_, he, State.reach_faultedWith t1 rfl⟩
  · have hp : (s.slot i).ctx.state.powered = true := by rw [hst]; rfl
    have hreply : s.replyToStep i .load .failed = s.enterFault i .loadFailed := by
      unfold State.replyToStep
      rw [hout]
      exact State.loadFails_limit hlimit
    have he : exec (.controlReply i 0x02 0x04) s = .next (s.enterFault i .loadFailed) := by
      rw [exec_controlReply_calm hc, State.takeControlReply_step hp (op := .load) (ans := .failed) rfl rfl
        ControlOp.noConfusion ControlOp.noConfusion, hreply]
    have hk := (State.Keeps.rfl s).enterFault i .loadFailed
    exact ⟨_, he, State.enterFault_faultedWith rfl (State.AlikeAt.rfl i s), hk.now, hk.rest⟩

/-! ## The QUERY schedule -/

section query

variable {s : State} {i : SlotId}

/-- A QUERY handed over goes out, or waits (R136). -/
theorem Port.handQuery_carries (p : Port) :
    p.handQuery.sending = some (.control .query) ∨ .query ∈ p.handQuery.control := by
  unfold Port.handQuery
  split
  · next h => exact .inr (by simpa using h)
  · change (Port.pick { p with control := p.control ++ [.query] }).sending = _ ∨ _
    unfold Port.handControl Port.pick
    cases hs : p.sending with
    | some _ => exact .inr (by simp)
    | none =>
      cases hc : p.control with
      | nil => exact .inl (by simp)
      | cons op rest => exact .inr (by simp)

theorem Slot.linkLost_countMisses (x : Slot) :
    x.countMisses.linkLost = true
      ↔ x.ctx.state ≠ .powering ∧ ((x.ctx.queryPending = true ∧ 2 ≤ x.ctx.missed)
        ∨ (x.port.cancelPending = true ∧ 2 ≤ x.port.cancelMiss)) := by
  unfold Slot.countMisses
  split
  · next h => simp [Slot.linkLost, h]
  · next h =>
    cases hq : x.ctx.queryPending <;> cases hp : x.port.cancelPending <;>
      simp [Slot.linkLost, h, hq, hp, Config.missLimit]

/-- The state in which an expiry of the QUERY schedule has counted (R9, R139). -/
def State.counted (s : State) (i : SlotId) (q : QuerySchedule) : State :=
  (s.reach q.expiry).modSlot i Slot.countMisses

theorem exec_queryExpiry {q : QuerySchedule} (hc : s.Calm) (h : (s.slot i).port.query = some q) :
    exec (.queryScheduleExpiry i) s
      = .next (if (s.slot i).countMisses.linkLost then (s.counted i q).enterFault i .linkLost
          else (s.counted i q).modSlot i (Slot.query (max s.now q.expiry) q.interval)) := by
  have hx : ((s.counted i q).slot i) = (s.slot i).countMisses := State.slot_modSlot_self _ _ _
  have hexp : s.queryExpires i = _ := rfl
  unfold State.queryExpires at hexp
  rw [h] at hexp
  change Host.Outcome.next (State.live (fun t => t.queryExpires i) s) = _
  rw [State.live_calm hc, ← hx]
  unfold State.queryExpires
  rw [h]
  rfl

end query

/-- Settles O43: the counts rise by one, and the third miss enters FAULT. -/
theorem queriesAreCounted : Obligations.QueriesAreCounted := by
  unfold Obligations.QueriesAreCounted
  intro s i q hc hq
  have hexec := exec_queryExpiry hc hq
  refine ⟨fun h => ?_, fun hp hst h => ?_⟩
  · have hlost : (s.slot i).countMisses.linkLost = false := by
      rw [← Bool.not_eq_true, Slot.linkLost_countMisses]
      rintro ⟨hne, hor⟩
      obtain ⟨h1, h2⟩ := h.resolve_left hne
      rcases hor with ⟨e, hge⟩ | ⟨e, hge⟩
      · have := h1 e
        omega
      · have := h2 e
        omega
    rw [hlost, if_neg (by decide)] at hexec
    have hslot : ((s.counted i q).modSlot i (Slot.query (max s.now q.expiry) q.interval)).slot i
        = (s.slot i).countMisses.query (max s.now q.expiry) q.interval := by
      rw [State.slot_modSlot_self]
      exact congrArg _ (State.slot_modSlot_self _ _ _)
    have hothers : s.OthersKept i ((s.counted i q).modSlot i (Slot.query (max s.now q.expiry) q.interval)) :=
      fun j hj => by
        rw [State.slot_modSlot, if_neg hj, State.counted, State.slot_modSlot, if_neg hj]
        rfl
    refine ⟨_, hexec, rfl, ?_, ?_, ?_, ?_, ?_, ?_, hothers, rfl, rfl, ⟨rfl, rfl, rfl, rfl, rfl, rfl, rfl⟩⟩
    all_goals rw [hslot]
    · exact Slot.countMisses_state _
    · rfl
    · rfl
    · change (s.slot i).countMisses.ctx.missed = _
      unfold Slot.countMisses
      by_cases hst : (s.slot i).ctx.state = .powering <;> simp [hst]
    · change (Port.handQuery (s.slot i).countMisses.port).cancelMiss = _
      rw [Port.handQuery_cancelMiss]
      unfold Slot.countMisses
      by_cases hst : (s.slot i).ctx.state = .powering <;> simp [hst]
    · exact Port.handQuery_carries _
  · have hlost : (s.slot i).countMisses.linkLost = true := by
      rw [Slot.linkLost_countMisses]
      exact ⟨hst, h.imp (fun e => ⟨e.1, e.2.ge⟩) fun e => ⟨e.1, e.2.ge⟩⟩
    rw [hlost, if_pos rfl] at hexec
    have halike : s.AlikeAt i (s.counted i q) := ((State.AlikeAt.rfl i s).reach _).modSlot _ fun x => by
      unfold Slot.countMisses
      split <;> exact ⟨rfl, rfl, rfl, rfl⟩
    have hk := (State.Keeps.rfl (s.counted i q)).enterFault i .linkLost
    exact ⟨_, hexec, State.enterFault_faultedWith rfl halike, hk.now, hk.rest⟩

end Sys2Proof.Machine
end

section
/-! PROOFS. A slot between two settled states, whose queue is served with its step running on; the faults that a drive
reports. -/

namespace Sys2Proof.Machine

/-! ## The serving in a state that is not settled -/

/-- A slot whose step is under way as given, whatever of its queue was forwarded or ended. -/
structure Slot.OnWay (c : SlotContext) (w : Nat) (q : Option QuerySchedule) (x : Slot) : Prop where
  unsettled : c.state.settled = false
  powered : c.state.powered = true
  idle : c.idleTimer = none
  ctx : x.ctx = { c with lastActivity := x.ctx.lastActivity }
  charge : x.charge = w
  query : x.port.query = q

section onWay

variable {c : SlotContext} {w : Nat} {q : Option QuerySchedule} {x : Slot}

theorem Slot.OnWay.state (h : x.OnWay c w q) : x.ctx.state = c.state := by rw [h.ctx]

/-- Between two settled states a slot is no candidate, has no idle timer and asks for no step. -/
theorem SlotSt.between {st : SlotSt} (h : st.settled = false) :
    (st ≠ .idle ∧ st ≠ .spun ∧ st ≠ .loaded) ∧ st.nextKind = none := by
  cases st <;> simp_all [SlotSt.settled, SlotSt.nextKind]

theorem Slot.OnWay.between (h : x.OnWay c w q) :
    (x.ctx.state ≠ .idle ∧ x.ctx.state ≠ .spun ∧ x.ctx.state ≠ .loaded) ∧ x.ctx.state.nextKind = none :=
  SlotSt.between (h.state ▸ h.unsettled)

theorem Slot.OnWay.withPass (h : x.OnWay c w q) (f : Passage → Passage) : (x.withPass f).OnWay c w q :=
  { h with ctx := h.ctx }

theorem Slot.OnWay.act (h : x.OnWay c w q) (p : Profile) (n : Nat) : (x.act p n).OnWay c w q := by
  have hctx : (x.act p n).ctx = { x.ctx with lastActivity := n, idleTimer := none } := by
    have hidle := Slot.act_idleTimer p n x
    rw [Slot.idleFrom_of_state p n h.between.1] at hidle
    rw [Slot.act_eq, hidle]
  refine { h with ctx := ?_ }
  rw [hctx, h.ctx, ← h.idle]

theorem Slot.OnWay.forwarded (h : x.OnWay c w q) (p : Profile) (n : Nat) (cmd : Cmd) (g : Seq) (m : Nat) :
    (x.forwarded p n cmd g m).OnWay c w q := by
  refine Slot.OnWay.act ?_ p n
  exact { h with ctx := h.ctx, query := (Port.handCommand_query cmd x.port).trans h.query }

theorem Slot.OnWay.forwardedHeld (h : x.OnWay c w q) (p : Profile) (n : Nat) (e : HoldEntry) :
    (x.forwardedHeld p n e).OnWay c w q := by
  obtain ⟨f, g, m, hx⟩ := Slot.forwardedHeld_eq p n e x
  rw [hx]
  exact (h.withPass f).forwarded p n e.cmd g m

end onWay

section serve

variable {i : SlotId} {c : SlotContext} {w : Nat} {q : Option QuerySchedule} {s : State}

/-- Slot i has its step under way, and no entry. -/
def State.OnWay (s : State) (i : SlotId) (c : SlotContext) (w : Nat) (q : Option QuerySchedule) : Prop :=
  (s.work i).OnWay c w q ∧ s.NoEntry i

theorem State.OnWay.report (h : s.OnWay i c w q) : (s.report i).OnWay i c w q := by
  have hr : (s.work i).demanding.raise = none :=
    Slot.raise_of_nextKind_none (x := (s.work i).demanding) h.1.between.2
  rw [State.report_withdraws hr]
  refine ⟨?_, State.entriesOf_eq_nil.mp (State.withdraw_entriesOf _ i)⟩
  rw [State.work_withdraw, State.work_report_demand]
  exact h.1.withPass _

theorem State.OnWay.forwardHeld (h : s.OnWay i c w q) (e : HoldEntry) : (s.forwardHeld i e).OnWay i c w q :=
  ⟨by rw [State.work_forwardHeld]; exact h.1.forwardedHeld _ _ e, h.2.of_queue_eq (by simp)⟩

theorem State.OnWay.finishHeld (h : s.OnWay i c w q) (e : HoldEntry) : (s.finishHeld i e).OnWay i c w q :=
  ⟨by rw [State.work_finishHeld]; exact (h.1.withPass _).act _ _, h.2.of_queue_eq (by simp)⟩

theorem State.OnWay.beginHead (h : s.OnWay i c w q) : (s.beginHead i).OnWay i c w q :=
  ⟨by rw [State.work_beginHead]; exact h.1.withPass _, h.2.of_queue_eq rfl⟩

/-- The serving forwards and ends commands of such a slot, and begins a lowering entry (R109, R110). -/
theorem State.OnWay.serveRounds (h : s.OnWay i c w q) (n : Nat) : (State.serveRounds n i s).OnWay i c w q := by
  induction n generalizing s with
  | zero => exact h
  | succ n ih =>
    have hset : (s.slot i).ctx.state.settled = false := by
      rw [State.slot_ctx, h.1.state]
      exact h.1.unsettled
    unfold State.serveRounds
    split
    · exact h
    split
    · exact h
    next e _ _ =>
      split
      · split
        · exact ih (h.forwardHeld e).report
        · exact h
      · split
        · exact ih (h.forwardHeld e).report
        · exact h
      · split
        · exact ih (h.finishHeld e).report
        · exact h
      · split
        · exact h
        · rw [hset]
          exact h.beginHead
      · exact h
      · exact h

theorem State.OnWay.reportAndServe (h : s.OnWay i c w q) : (s.reportAndServe i).OnWay i c w q :=
  h.report.serveRounds _

/-- What follows the entry into a state that is not settled leaves the step under way. -/
theorem State.OnWay.settle (h : s.OnWay i c w q) : (State.settle i s).OnWay i c w q := by
  have h1 := h.reportAndServe
  have hpark : (s.reportAndServe i).parkTest i = s.reportAndServe i := by
    obtain ⟨⟨hidle, hspun, -⟩, -⟩ := h1.1.between
    exact State.parkTest_eq_self (.inr (State.abovePark_of_state hidle hspun))
  have h2 := h1.reportAndServe
  obtain ⟨⟨hidle, hspun, -⟩, -⟩ := h2.1.between
  have hb := (State.Stands.of_work (Eq.refl _) h2.2 (.inl (.inr (.inr ⟨hidle, hspun⟩)))).shed
    (((s.reportAndServe i).reportAndServe i).slot i).ctx.map.bank
  unfold State.settle State.settleEnd
  rw [hpark]
  exact ⟨by rw [hb.2.work_eq]; exact h2.1, hb.2.noEntry⟩

end serve

/-! ## A spin failure -/

section fails

variable {i : SlotId} {s u : State} {why : SpinFailure}

/-- The state in which a spin has failed, before the admission unit reacts (R12). -/
def State.spinFailed (s : State) (i : SlotId) (why : SpinFailure) : State :=
  (s.enter i .stopping false true).modCtx i (fun c => { c with lastFail := why, spinMark := true })

theorem State.spinFailed_onWay (s : State) (i : SlotId) (why : SpinFailure) :
    (s.spinFails i why).OnWay i ((s.spinFailed i why).work i).ctx ((s.spinFailed i why).work i).charge
      ((s.spinFailed i why).work i).port.query := by
  have hw : (s.spinFailed i why).work i = _ := State.work_modCtx _ i _
  rw [State.work_enter] at hw
  have hstate : ((s.spinFailed i why).work i).ctx.state = .stopping := by rw [hw]; rfl
  have hst : (s.spinFailed i why).Stands i none ((s.spinFailed i why).work i) :=
    .of_work rfl ((s.enter_noEntry i .stopping false true).of_queue_eq rfl)
      (.inl (.inr (.inr (by rw [hstate]; decide))))
  have hb := hst.react (s.slot i) i
  have hidle : ((s.spinFailed i why).work i).ctx.idleTimer = none := by
    rw [hw]
    exact (Slot.enter_idleTimer _ _ .stopping _ _ _).trans (Slot.idleFrom_of_state _ _ (by decide))
  refine State.OnWay.settle (s := State.react (s.slot i) i (s.spinFailed i why)) ⟨?_, hb.2.noEntry⟩
  rw [hb.2.work_eq]
  exact ⟨by rw [hstate]; rfl, by rw [hstate]; rfl, hidle, rfl, rfl, rfl⟩

/-- The claims' word for a spin failure: a marked STOPPING (R12, R14). -/
theorem State.spinFails_stopping (s : State) (i : SlotId) (why : SpinFailure) :
    s.CameTo (s.spinFails i why) i .stopping s.now ∧ ((s.spinFails i why).slot i).ctx.spinMark = true
      ∧ ((s.spinFails i why).slot i).ctx.lastFail = why
      ∧ ((s.spinFails i why).slot i).ctx.retry = (s.slot i).ctx.retry
      ∧ ((s.spinFails i why).slot i).ctx.outstanding = .stop ∧ (s.spinFails i why).now = s.now
      ∧ s.RestKept (s.spinFails i why) := by
  obtain ⟨h, -⟩ := s.spinFailed_onWay i why
  have hk := (State.Keeps.rfl s).spinFails i why
  have hw : (s.spinFailed i why).work i = _ := State.work_modCtx _ i _
  rw [State.work_enter] at hw
  rw [hw] at h
  generalize s.spinFails i why = t at *
  refine ⟨State.cameTo_of_work (x := s.work i) rfl rfl rfl ?_ h.charge ?_ fun _ _ => ?_, ?_, ?_, ?_, ?_,
    hk.now, hk.rest⟩
  · rw [h.ctx]; rfl
  · exact h.query.trans (Slot.enter_query _ _ false true _ rfl)
  · rw [h.ctx]
    exact (Slot.enter_idleTimer _ _ .stopping _ _ _)
  all_goals exact (congrArg _ h.ctx).trans (Eq.refl _)

end fails

/-! ## What a drive reports -/

section reports

variable {i : SlotId} {s : State} {report : Byte}

theorem exec_stateReply (hr : s.DriveReady i) (report : Byte) :
    exec (.stateReply i report) s = .next (s.takeStateReply i report) :=
  congrArg Host.Outcome.next (State.arriveDrive_ready hr _)

theorem exec_faultAlert (hr : s.DriveReady i) :
    exec (.driveAlertFault i) s
      = .next (if (s.slot i).ctx.state.powered then s.enterFault i .driveFault else s) :=
  congrArg Host.Outcome.next (State.arriveDrive_ready hr .alertFault)

/-- A slot with its STATE_REPLY counted (R9). -/
def State.replied (s : State) (i : SlotId) : State :=
  s.modCtx i (fun c => { c with queryPending := false, missed := 0 })

theorem State.takeStateReply_fault (hp : (s.slot i).ctx.state.powered = true)
    (h : report.extractLsb' 4 2 = 2 ∨ report.extractLsb' 4 2 = 3
      ∨ (report.extractLsb' 4 2 = 1 ∧ (s.slot i).ctx.state ≠ .spinningUp)) :
    s.takeStateReply i report = (s.replied i).enterFault i .driveFault := by
  unfold State.takeStateReply reportFault
  rw [hp]
  rcases h with h | h | ⟨h, hne⟩
  · rw [h]; rfl
  · rw [h]; rfl
  · rw [h]
    exact if_neg hne

theorem State.takeStateReply_spin (hs : (s.slot i).ctx.state = .spinningUp) (h : report.extractLsb' 4 2 = 1) :
    s.takeStateReply i report = (s.replied i).spinFails i .timeout := by
  have hp : (s.slot i).ctx.state.powered = true := by rw [hs]; rfl
  unfold State.takeStateReply reportFault
  rw [hp, h]
  exact if_pos hs

theorem State.replied_slot (s : State) (i : SlotId) :
    (s.replied i).slot i
      = { s.slot i with ctx := { (s.slot i).ctx with queryPending := false, missed := 0 } } :=
  State.slot_modSlot_self s i _

end reports

/-- Settles O29: a reported fault enters FAULT, and one of the spindle in SPINNING_UP fails the spin. -/
theorem driveFaultsLeadToFault : Obligations.DriveFaultsLeadToFault := by
  unfold Obligations.DriveFaultsLeadToFault
  intro s i hr
  refine ⟨fun hp => ⟨?_, fun report h => ?_, fun hs hout => ?_⟩, fun hp => ?_, fun hs => ⟨fun report h => ?_,
    fun hout => ?_⟩⟩
  · have hk := (State.Keeps.rfl s).enterFault i .driveFault
    exact ⟨_, by rw [exec_faultAlert hr, if_pos hp],
      State.enterFault_faultedWith rfl (State.AlikeAt.rfl i s), hk.rest⟩
  · have hk := (State.Keeps.rfl (s.replied i)).enterFault i .driveFault
    have halike : s.AlikeAt i (s.replied i) := (State.AlikeAt.rfl i s).modSlot
      (fun x => { x with ctx := { x.ctx with queryPending := false, missed := 0 } }) fun _ => ⟨rfl, rfl, rfl, rfl⟩
    exact ⟨_, by rw [exec_stateReply hr, State.takeStateReply_fault hp h],
      State.enterFault_faultedWith rfl halike, hk.rest⟩
  · have hreply : s.replyToStep i .unload .failed = s.enterFault i .unloadFailed := by
      unfold State.replyToStep
      rw [hout]
    have hk := (State.Keeps.rfl s).enterFault i .unloadFailed
    refine ⟨_, ?_, State.enterFault_faultedWith rfl (State.AlikeAt.rfl i s), hk.rest⟩
    rw [exec_controlReply hr, State.takeControlReply_step hp (op := .unload) (ans := .failed) rfl rfl
      ControlOp.noConfusion ControlOp.noConfusion, hreply]
  · rw [exec_faultAlert hr, if_neg (by rw [hp]; decide)]
  · obtain ⟨hcame, hrest⟩ := (s.replied i).spinFails_stopping i .timeout
    refine ⟨_, by rw [exec_stateReply hr, State.takeStateReply_spin hs h], ?_, ?_⟩
    · unfold State.CameTo at hcame ⊢
      rw [s.replied_slot] at hcame
      exact hcame
    · rw [s.replied_slot] at hrest
      exact hrest
  · have hp : (s.slot i).ctx.state.powered = true := by rw [hs]; rfl
    have hreply : s.replyToStep i .spin .refused = s.spinFails i .refused := by
      unfold State.replyToStep
      rw [hout]
    refine ⟨_, ?_, s.spinFails_stopping i .refused⟩
    rw [exec_controlReply hr, State.takeControlReply_step hp (op := .spin) (ans := .refused) rfl rfl
      ControlOp.noConfusion ControlOp.noConfusion, hreply]

end Sys2Proof.Machine
end

section
/-! PROOFS. The PRESENT line: a removal, and the end of a debounce. -/

namespace Sys2Proof.Machine

section present

variable {s u : State} {i : SlotId} {t0 : Nat}

/-! ## Removal -/

/-- The state in which a drive was removed, before the admission unit reacts (R23). -/
def State.removed (s : State) (i : SlotId) : State :=
  (s.downed i .empty codeSlotEmpty .slotRemoved).takeMap i

theorem State.enterRemoved_eq (s : State) (i : SlotId) :
    s.enterRemoved i = State.reactDown (s.slot i) i (s.removed i) := rfl

theorem State.work_takeMap_atEmpty (h : (s.slot i).ctx.state = .empty) :
    ∃ d, (s.takeMap i).work i = (s.work i).mapped (s.profile.slots[i]) d := by
  cases he : (s.profile.slots[i]).enabled with
  | true => exact ⟨_, State.work_takeMap_enabled he⟩
  | false => exact ⟨_, State.work_takeMap_empty he h⟩

theorem State.work_removed : ∃ a d,
    (s.removed i).work i
      = ((s.work i).downed s.profile s.motion.state s.now .empty .slotRemoved a).mapped (s.profile.slots[i]) d
      ∧ ((s.slot i).ctx.state = .fault → a = s.now) := by
  obtain ⟨a, hw, ha⟩ := State.work_downed (s := s) (i := i) (code := codeSlotEmpty) (cause := .slotRemoved)
    (show SlotSt.empty.powered = false from rfl)
  obtain ⟨d, hd⟩ := State.work_takeMap_atEmpty (s := s.downed i .empty codeSlotEmpty .slotRemoved) (i := i)
    (by rw [State.slot_ctx, hw]; rfl)
  rw [hw, (s.downed_keeps i .empty codeSlotEmpty .slotRemoved).profile] at hd
  exact ⟨a, d, hd, ha⟩

theorem State.removed_noEntry (s : State) (i : SlotId) : (s.removed i).NoEntry i :=
  State.takeMap_noEntry (s.downed_noEntry i .empty codeSlotEmpty .slotRemoved)

theorem State.removed_onlyAt (s : State) (i : SlotId) : s.OnlyAt i (s.removed i) :=
  (s.downed_onlyAt i .empty codeSlotEmpty .slotRemoved).takeMap

theorem State.up_removed (hs : s.ctrl.sending ≠ none) (hown : (s.slot i).Own i) :
    (s.removed i).up i = s.up i ++ (s.slot i).answers codeSlotEmpty .empty := by
  obtain ⟨a, hw, -⟩ := State.work_downed (s := s) (i := i) (code := codeSlotEmpty) (cause := .slotRemoved)
    (show SlotSt.empty.powered = false from rfl)
  have hnone : ((s.downed i .empty codeSlotEmpty .slotRemoved).slot i).pass.commands = [] := by
    rw [State.slot_pass, hw]
    rfl
  rw [State.removed, State.up_takeMap_emptied hnone, State.up_downed hs hown (by decide)]

/-- The removal of a drive leaves its slot in EMPTY with nothing of it left (R23, R25, R117). -/
theorem State.enterRemoved_spec (s : State) (i : SlotId) :
    ∃ a d, State.Bears i none
        (((s.work i).downed s.profile s.motion.state s.now .empty .slotRemoved a).mapped (s.profile.slots[i]) d)
        (s.removed i) (s.enterRemoved i)
      ∧ ((s.slot i).ctx.state = .fault → a = s.now)
      ∧ s.AllAnswered (s.enterRemoved i) i codeSlotEmpty .empty := by
  obtain ⟨a, d, hw, ha⟩ := State.work_removed (s := s) (i := i)
  have hb := State.reactDown_bears (s := s.removed i)
    (.of_work hw (s.removed_noEntry i) (.inl (.inr (.inr ⟨SlotSt.noConfusion, SlotSt.noConfusion⟩)))) (s.slot i)
  rw [← State.enterRemoved_eq] at hb
  refine ⟨a, d, hb, ha, State.allAnswered_of_up fun hs hown => ?_⟩
  rw [hb.1.up_busy ((s.removed_onlyAt i).sending hs), State.up_removed hs hown]

/-! ## The changes of the line -/

theorem exec_present (h : s.Calm) :
    exec (.presentAsserted i) s = .next ((s.setPresent i true).seated i)
      ∧ exec (.presentDeasserted i) s = .next ((s.setPresent i false).unseated i) :=
  ⟨congrArg Host.Outcome.next (State.lineEvent_calm _ _ (h.modSlot i _ fun _ => rfl)),
    congrArg Host.Outcome.next (State.lineEvent_calm _ _ (h.modSlot i _ fun _ => rfl))⟩

theorem State.setPresent_slot (s : State) (i : SlotId) (l : Bool) :
    (s.setPresent i l).slot i = { s.slot i with presentLine := l } := State.slot_modSlot_self s i _

/-! ## The end of a debounce -/

/-- A slot that takes its slot map entry at the end of its debounce (R24). -/
def State.reseated (s : State) (i : SlotId) (t0 : Nat) : State :=
  ((s.reach (t0 + Config.presentDebounceMs)).modCtx i (fun c => { c with presentDebounce := none })).takeMap i

theorem State.seatingDone_eq (hst : (s.slot i).ctx.state = .empty) (hd : (s.slot i).ctx.presentDebounce = some t0) :
    s.seatingDone i
      = if !((s.reseated i t0).slot i).ctx.map.enabled then s.reseated i t0
        else if ((s.reseated i t0).slot i).ctx.latch then (s.reseated i t0).enterFault i .powerTrip
        else (s.reseated i t0).enterOff i := by
  unfold State.seatingDone
  rw [hst, hd]
  rfl

theorem exec_presentDebounceComplete (h : s.Calm) :
    exec (.presentDebounceComplete i) s = .next (s.seatingDone i) :=
  congrArg Host.Outcome.next (State.live_calm h _)

theorem State.reseated_keeps (s : State) (i : SlotId) (t0 : Nat) :
    (s.reach (t0 + 500)).Keeps (s.reseated i t0) :=
  ((State.Keeps.rfl (s.reach (t0 + 500))).modCtx i (fun c => { c with presentDebounce := none })
    fun _ => rfl).takeMap i

/-- Under an enabling entry, as before, the end of the debounce changes the entry alone. -/
theorem State.work_reseated (hmap : (s.slot i).ctx.map.enabled = true) (he : (s.profile.slots[i]).enabled = true) :
    (s.reseated i t0).work i = (s.work i).mapped (s.profile.slots[i]) none := by
  have hm : (s.work i).ctx.map.enabled = true := hmap
  refine (State.work_takeMap_enabled (s := (s.reach (t0 + Config.presentDebounceMs)).modCtx i
    (fun c => { c with presentDebounce := none })) he).trans ?_
  rw [State.work_modCtx, State.work_reach]
  simp only [Slot.debounceUnder, hm, Bool.not_true, Bool.and_false, Bool.false_and, Bool.false_eq_true, if_false]
  rfl

theorem State.reseated_alikeAt (hmap : (s.slot i).ctx.map.enabled = true)
    (he : (s.profile.slots[i]).enabled = true) : s.AlikeAt i (s.reseated i t0) := by
  have hw := State.work_reseated (t0 := t0) hmap he
  have hk := s.reseated_keeps i t0
  have hup := (State.UpAlike.rfl (s := (s.reach (t0 + Config.presentDebounceMs)).modCtx i
    (fun c => { c with presentDebounce := none }))).takeMap (i := i) he
  refine ⟨⟨hk.loader.symm, hk.motion.symm⟩, ?_, ?_, ?_, ?_, ?_⟩
  · rw [State.slot_ctx, hw]; rfl
  · rw [State.slot_pass, hw]; rfl
  · rw [State.slot_record, hw]; rfl
  · exact (hup.up i).trans (State.up_modCtx _ _ _ _)
  · exact congrArg CtrlPort.sending hup.ctrl

/-- An entry into FAULT under an enabling entry leaves the PRESENT debounce as it is. -/
theorem State.enterFault_debounce (he : (u.profile.slots[i]).enabled = true) (cause : SenseCode) :
    ((u.enterFault i cause).slot i).ctx.presentDebounce = (u.slot i).ctx.presentDebounce := by
  obtain ⟨a, hw, -⟩ := State.work_downed (s := u) (i := i) (code := codeSlotFault) (cause := cause)
    (show SlotSt.fault.powered = false from rfl)
  have hprof : ((u.downed i .fault codeSlotFault cause).modCtx i (fun c => { c with faultAck := false })).profile
      = u.profile := (u.downed_keeps i .fault codeSlotFault cause).profile
  have hf : (u.faulted i cause).work i = _ :=
    State.work_takeMap_enabled (s := (u.downed i .fault codeSlotFault cause).modCtx i
      (fun c => { c with faultAck := false })) (by rw [hprof]; exact he)
  rw [State.work_modCtx, hw] at hf
  have hb := State.reactDown_bears (s := u.faulted i cause)
    (.of_work hf (u.faulted_noEntry i cause) (.inl (.inr (.inr ⟨SlotSt.noConfusion, SlotSt.noConfusion⟩))))
    (u.slot i)
  rw [← State.enterFault_eq] at hb
  rw [State.slot_ctx, hb.2.work_eq]
  rfl

/-- The end of a debounce under a disabling entry: the slot takes the entry, and stays in EMPTY. -/
theorem State.reseated_disabled (hst : (s.slot i).ctx.state = .empty) (he : (s.profile.slots[i]).enabled = false) :
    (s.reseated i t0).slot i
        = { s.slot i with
            ctx := { (s.slot i).ctx with map := s.profile.slots[i], presentDebounce := none } }
      ∧ s.OthersKept i (s.reseated i t0) ∧ (s.reseated i t0).ctrl = s.ctrl := by
  let v := (s.reach (t0 + Config.presentDebounceMs)).modCtx i (fun c => { c with presentDebounce := none })
  have hv : v.slot i = { s.slot i with ctx := { (s.slot i).ctx with presentDebounce := none } } :=
    State.slot_modSlot_self _ i _
  have hr : s.reseated i t0
      = ((v.setQueue (v.admission.queue.map (fun e =>
          if e.slot = i then { e with bank := (v.profile.slots[i]).bank } else e))).modCtx i
            (fun c => { c with map := v.profile.slots[i] })).modCtx i
              (fun c => { c with presentDebounce := none }) := by
    have hst' : (v.slot i).ctx.state = .empty := by rw [hv]; exact hst
    have he' : (v.profile.slots[i]).enabled = false := he
    change v.takeMap i = _
    unfold State.takeMap
    simp only [he', hst', Bool.false_eq_true, if_true, if_false]
  rw [hr]
  refine ⟨?_, fun j hj => ?_, rfl⟩
  · rw [State.modCtx, State.slot_modSlot_self, State.modCtx, State.slot_modSlot_self]
    change ({ v.slot i with ctx := { (v.slot i).ctx with map := s.profile.slots[i], presentDebounce := none } } : Slot)
      = _
    rw [hv]
  · rw [State.modCtx, State.slot_modSlot, if_neg hj, State.modCtx, State.slot_modSlot, if_neg hj]
    change v.slot j = _
    exact (State.slot_modSlot _ i j _).trans (if_neg hj)

end present

/-- Settles O31: the line is recorded, and the slot acts by its state and by the entry of the profile. -/
theorem presentSeatsAndRemoves : Obligations.PresentSeatsAndRemoves := by
  unfold Obligations.PresentSeatsAndRemoves
  intro s i hc
  obtain ⟨hup, hdown⟩ := exec_present (i := i) hc
  have hset := s.setPresent_slot i false
  have hset' := s.setPresent_slot i true
  refine ⟨fun h => ?_, fun h => ?_, fun h he => ?_, fun h => ?_, fun t0 hst hmap hd he => ?_,
    fun t0 hst hd he => ?_⟩
  · have hun : (s.setPresent i false).unseated i = (s.setPresent i false).enterRemoved i := by
      unfold State.unseated
      rw [hset, if_neg (by simpa using h)]
    obtain ⟨a, d, hb, ha, hans⟩ := (s.setPresent i false).enterRemoved_spec i
    have hk := (State.Keeps.rfl (s.setPresent i false)).enterRemoved i
    have hw := hb.2.work_eq
    rw [hun] at hdown
    generalize (s.setPresent i false).enterRemoved i = t at *
    have hpow : (t.slot i).ctx.state.powered = false := by rw [State.slot_ctx, hw]; rfl
    have hx : (s.setPresent i false).work i = { s.work i with presentLine := false } :=
      State.work_modSlot s i _ fun _ => rfl
    rw [hx] at hw
    refine ⟨t, hdown, ?_, State.powerEnable_unpowered hpow, ?_, ?_, ?_, ?_, ?_, ?_, ?_, fun hf => ?_, hk.now⟩
    · rw [State.slot_ctx, hw]; rfl
    · rw [State.slot_charge, hw]; rfl
    · rw [State.slot_port, hw]; rfl
    · rw [State.slot_pass, hw]; rfl
    · rw [State.slot_notice, hw]; rfl
    · rw [hk.present, hset]
    · rw [State.slot_record, hw]; rfl
    · obtain ⟨order, h1, h2, h3⟩ := hans
      rw [hset] at h1 h2 h3
      refine ⟨order, h1, h2, fun hs hown => ?_⟩
      exact h3 hs hown
    · rw [State.slot_ctx, hw]
      exact ha (by rw [hset]; exact hf)
  · rw [hdown, State.unseated, hset, if_pos (by simpa using h)]
    exact congrArg Host.Outcome.next (State.modSlot_modSlot s i _ _)
  · rw [hup, State.seated, hset', if_pos (by simpa using ⟨h, he⟩)]
    exact congrArg Host.Outcome.next (State.modSlot_modSlot s i _ _)
  · rw [hup, State.seated, hset', if_neg (by simpa [imp_iff_not_or] using h)]
    rfl
  · have hw := State.work_reseated (t0 := t0) hmap he
    have hctx : ((s.reseated i t0).slot i).ctx
        = { (s.slot i).ctx with map := s.profile.slots[i], presentDebounce := none } := by
      rw [State.slot_ctx, hw]; rfl
    have hk := s.reseated_keeps i t0
    have hexec := exec_presentDebounceComplete (i := i) hc
    rw [State.seatingDone_eq hst hd, hctx,
      if_neg (by change ¬ (!(s.profile.slots[i]).enabled) = true; rw [he]; decide)] at hexec
    have hprof : (s.reseated i t0).profile = s.profile := hk.profile
    cases hl : (s.slot i).ctx.latch with
    | true =>
      rw [if_pos (by exact hl)] at hexec
      have hf := State.enterFault_faultedWith (cause := .powerTrip) rfl (State.reseated_alikeAt (t0 := t0) hmap he)
      have hdeb := State.enterFault_debounce (u := s.reseated i t0) (i := i) (by rw [hprof]; exact he) .powerTrip
      have hkf := hk.enterFault i .powerTrip
      rw [hctx] at hdeb
      obtain ⟨hstate, hmap', -, -, -, -, -, -, -, -, -, -, -, -, -, -, hnotice, -, hrec, -⟩ := hf
      rw [he, if_pos rfl] at hstate
      rw [hst] at hrec
      exact ⟨_, hexec, hkf.now, by rw [if_pos rfl]; exact hstate, hdeb, hmap', fun _ => ⟨hnotice, hrec⟩, hkf.rest⟩
    | false =>
      rw [if_neg (by rw [hl]; decide)] at hexec
      have hoff := State.work_enterOff_enabled (s := s.reseated i t0) (i := i) (by rw [hprof]; exact he)
      have hko := hk.enterOff i
      rw [hctx, hprof] at hoff
      refine ⟨_, hexec, hko.now, ?_, ?_, ?_, fun e => (by cases e), hko.rest⟩
      all_goals
        rw [State.slot_ctx, hoff]
        rfl
  · obtain ⟨hslot, hothers, hctrl⟩ := State.reseated_disabled (t0 := t0) hst he
    have hk := s.reseated_keeps i t0
    have hexec := exec_presentDebounceComplete (i := i) hc
    rw [State.seatingDone_eq hst hd, hslot,
      if_pos (by change (!(s.profile.slots[i]).enabled) = true; rw [he]; rfl)] at hexec
    exact ⟨_, hexec, hk.now, hslot, hothers, hctrl, hk.rest⟩

end Sys2Proof.Machine
end

section
/-! PROOFS. What is kept by every operation of the admission unit and of the command passage, for a property given; with it
the lowering phase. -/

namespace Sys2Proof.Machine

/-! ## Properties that the reactions keep -/

/-- A property of the state that the operations keep of which every reaction and serving is made. -/
structure State.Closed (P : State → Prop) : Prop where
  scan : ∀ {s}, P s → P s.scan
  orderDown : ∀ {s} i, P s → P (s.orderDown i)
  clearMark : ∀ {s} b, P s → P (s.modBank b fun k => { k with overdraw := false })
  compare : ∀ {s} i, P s → P (s.compare i)
  reportDemand : ∀ {s} i, P s → P (s.reportDemand i)
  forwardHeld : ∀ {s} i e, (s.slot i).pass.hold ≠ [] → P s → P (s.forwardHeld i e)
  finishHeld : ∀ {s} i e, (s.slot i).pass.hold ≠ [] → P s → P (s.finishHeld i e)
  beginHead : ∀ {s} i, P s → P (s.beginHead i)

section closed

variable {P : State → Prop} {s : State}

theorem State.Closed.clearIfFits (c : State.Closed P) (b : BankId) (h : P s) : P (s.clearIfFits b) := by
  unfold State.clearIfFits
  split
  · exact c.scan (c.clearMark b h)
  · exact h

theorem State.Closed.shedRounds (c : State.Closed P) (n : Nat) (b : BankId) (h : P s) :
    P (State.shedRounds n b s) := by
  induction n generalizing s with
  | zero => exact h
  | succ n ih =>
    unfold State.shedRounds
    split
    · split
      · exact h
      · exact ih (c.orderDown _ h)
    · exact h

theorem State.Closed.shed (c : State.Closed P) (b : BankId) (h : P s) : P (s.shed b) := by
  unfold State.shed
  split
  · exact c.clearIfFits b (c.shedRounds 10 b h)
  · exact h

theorem State.Closed.sumFell (c : State.Closed P) (b : BankId) (h : P s) : P (s.sumFell b) := by
  unfold State.sumFell State.evaluate
  split
  · split
    · exact c.clearIfFits b h
    · exact c.shed b h
  · exact c.scan h

theorem State.Closed.react (c : State.Closed P) (was : Slot) (i : SlotId) (h : P s) :
    P (State.react was i s) := by
  have h1 : P (if (s.slot i).charge < was.charge then s.sumFell was.ctx.map.bank else s) := by
    split
    · exact c.sumFell _ h
    · exact h
  unfold State.react
  simp only
  split
  · exact c.scan h1
  · exact h1

theorem State.Closed.lower (c : State.Closed P) (i : SlotId) (h : P s) : P (s.lower i) :=
  c.react _ i (c.orderDown i h)

theorem State.Closed.report (c : State.Closed P) (i : SlotId) (h : P s) : P (s.report i) :=
  c.compare i (c.reportDemand i h)

theorem State.Closed.serveRounds (c : State.Closed P) (n : Nat) (i : SlotId) (h : P s) :
    P (State.serveRounds n i s) := by
  induction n generalizing s with
  | zero => exact h
  | succ n ih =>
    unfold State.serveRounds
    split
    · exact h
    split
    · exact h
    next e rest hh =>
      have hne : (s.slot i).pass.hold ≠ [] := by rw [hh]; exact List.cons_ne_nil _ _
      have hbegun : ((s.beginHead i).slot i).pass.hold ≠ [] := by
        rw [State.beginHead, State.modPass, State.slot_modSlot_self, hh]
        exact List.cons_ne_nil _ _
      split
      · split
        · exact ih (c.report i (c.forwardHeld i e hne h))
        · exact h
      · split
        · exact ih (c.report i (c.forwardHeld i e hne h))
        · exact h
      · split
        · exact ih (c.report i (c.finishHeld i e hne h))
        · exact h
      · split
        · exact h
        split
        · exact c.beginHead i h
        split
        · exact ih (c.report i (c.finishHeld i e hbegun (c.beginHead i h)))
        · exact c.lower i (c.beginHead i h)
      · exact h
      · exact h

theorem State.Closed.reportAndServe (c : State.Closed P) (i : SlotId) (h : P s) : P (s.reportAndServe i) :=
  c.serveRounds _ i (c.report i h)

theorem State.Closed.parkTest (c : State.Closed P) (i : SlotId) (h : P s) : P (s.parkTest i) := by
  unfold State.parkTest
  split
  · exact c.lower i h
  · exact h

theorem State.Closed.settleEnd (c : State.Closed P) (i : SlotId) (h : P s) : P (State.settleEnd i s) :=
  c.shed _ (c.reportAndServe i h)

theorem State.Closed.settle (c : State.Closed P) (i : SlotId) (h : P s) : P (State.settle i s) :=
  c.settleEnd i (c.parkTest i (c.reportAndServe i h))

theorem State.Closed.testSlot (c : State.Closed P) (i : SlotId) (h : P s) : P (s.testSlot i) := by
  unfold State.testSlot
  split
  · exact c.settle i (c.lower i h)
  · exact h

theorem State.Closed.foldl {f : State → SlotId → State} (hf : ∀ {s} i, P s → P (f s i)) (l : List SlotId)
    (h : P s) : P (l.foldl f s) := by
  induction l generalizing s with
  | nil => exact h
  | cons i l ih => exact ih (hf i h)

theorem State.Closed.testAll (c : State.Closed P) (h : P s) : P s.testAll :=
  State.Closed.foldl (fun i => c.testSlot i) allSlots h

end closed

/-- A property that some slot's step sets, and every slot's keeps, holds after the steps of all of them. -/
theorem State.foldl_each {P : State → Prop} {Q : SlotId → State → Prop} {f : State → SlotId → State}
    (hP : ∀ {s} i, P s → P (f s i)) (hset : ∀ {s} i, P s → Q i (f s i))
    (hkeep : ∀ {s} i j, P s → Q j s → Q j (f s i)) (l : List SlotId) {s : State} (h : P s) (j : SlotId)
    (hj : j ∈ l ∨ Q j s) : Q j (l.foldl f s) := by
  induction l generalizing s with
  | nil => exact hj.resolve_left (List.not_mem_nil)
  | cons i l ih =>
    refine ih (hP i h) ?_
    rcases hj with hj | hj
    · rcases List.mem_cons.mp hj with rfl | hj
      · exact .inr (hset j h)
      · exact .inl hj
    · exact .inr (hkeep i j h hj)

/-! ## What an operation does to the state of a slot -/

section states

variable {s t : State} {i j : SlotId}

/-- The forms of a lowering order (R7). -/
theorem State.orderDown_cases (s : State) (i : SlotId) :
    ((s.slot i).ctx.state = .idle ∧ s.orderDown i = (s.enterOff i).active i)
      ∨ (∃ st, (st = .unloading ∨ st = .stopping) ∧ s.orderDown i = s.enter i st false false)
      ∨ (s.orderDown i = s ∧ (s.slot i).ctx.state ≠ .idle ∧ (s.slot i).ctx.state ≠ .spun) := by
  unfold State.orderDown
  split <;> rename_i hst
  case h_1 => exact .inr (.inl ⟨.unloading, .inl rfl, rfl⟩)
  case h_2 => exact .inr (.inl ⟨.unloading, .inl rfl, rfl⟩)
  case h_3 => exact .inr (.inl ⟨.stopping, .inr rfl, rfl⟩)
  case h_4 => exact .inl ⟨hst, rfl⟩
  all_goals exact .inr (.inr ⟨rfl, by rw [hst]; exact SlotSt.noConfusion, by rw [hst]; exact SlotSt.noConfusion⟩)

/-- The states that a lowering order leaves a slot in (R7). -/
theorem State.orderDown_state (s : State) (i : SlotId) :
    ((s.orderDown i).work i = s.work i ∧ (s.slot i).ctx.state ≠ .idle ∧ (s.slot i).ctx.state ≠ .spun)
      ∨ (((s.orderDown i).slot i).ctx.state ≠ .idle ∧ ((s.orderDown i).slot i).ctx.state ≠ .spun) := by
  rcases s.orderDown_cases i with ⟨-, e⟩ | ⟨st, hst, e⟩ | ⟨e, h1, h2⟩
  · rw [e]
    refine .inr ?_
    cases he : (s.profile.slots[i]).enabled with
    | true =>
      rw [State.slot_ctx, State.work_active, State.work_enterOff_enabled he]
      exact ⟨SlotSt.noConfusion, SlotSt.noConfusion⟩
    | false =>
      obtain ⟨a, hw⟩ := State.work_enterOff_disabled (s := s) (i := i) he
      rw [State.slot_ctx, State.work_active, hw]
      exact ⟨SlotSt.noConfusion, SlotSt.noConfusion⟩
  · refine .inr ?_
    rw [e, State.slot_ctx, State.work_enter]
    rcases hst with rfl | rfl <;> exact ⟨SlotSt.noConfusion, SlotSt.noConfusion⟩
  · rw [e]
    exact .inl ⟨rfl, h1, h2⟩

theorem State.compare_cases (s : State) (i : SlotId) :
    s.compare i = s.withdraw i ∨ s.compare i = s
      ∨ ∃ k, (s.slot i).ctx.state.nextKind = some k ∧ s.compare i
          = (s.setQueue (s.admission.queue ++
              [{ slot := i, kind := k, bank := (s.slot i).ctx.map.bank, retried := false }])).scan := by
  unfold State.compare State.place
  split
  · exact .inl rfl
  · next k hk =>
    split
    · split
      · exact .inr (.inl rfl)
      · exact .inr (.inr ⟨k, hk, rfl⟩)
    · exact .inl rfl

end states

/-! ## At or below the park level -/

section abovePark

variable {s t : State} {i : SlotId} {p : Profile}

/-- Slot i meets no condition of R91 under a profile in force. -/
def State.BelowPark (i : SlotId) (p : Profile) (s : State) : Prop := s.profile = p ∧ s.abovePark i = false

theorem State.belowPark_of_work (h : s.BelowPark i p) (hp : t.profile = s.profile)
    (hst : (t.work i).ctx.state = (s.work i).ctx.state)
    (hf : (t.work i).pass.flight = [] → (s.work i).pass.flight = []) : t.BelowPark i p := by
  obtain ⟨hprof, hbelow⟩ := h
  refine ⟨hp.trans hprof, ?_⟩
  rw [← Bool.not_eq_true] at hbelow ⊢
  refine fun habove => hbelow ?_
  change (t.slot i).ctx.state = (s.slot i).ctx.state at hst
  change (t.slot i).pass.flight = [] → (s.slot i).pass.flight = [] at hf
  unfold State.abovePark at habove ⊢
  simp only [hp, hst, Bool.or_eq_true, Bool.and_eq_true, List.isEmpty_iff] at habove ⊢
  exact habove.imp id fun ⟨h1, h2⟩ => ⟨h1, hf h2⟩

theorem State.belowPark_of_state (hp : s.profile = p) (h1 : (s.slot i).ctx.state ≠ .idle)
    (h2 : (s.slot i).ctx.state ≠ .spun) : s.BelowPark i p := ⟨hp, State.abovePark_of_state h1 h2⟩

theorem State.BelowPark.scanOver (q : List AdmEntry) (m : Marks) (h : s.BelowPark i p) :
    (State.scanOver q m s).BelowPark i p := by
  induction q generalizing m s with
  | nil => exact h
  | cons e rest ih =>
    have hgrant : (s.grant e).BelowPark i p := by
      have hk := (State.Keeps.rfl s).grant e
      by_cases he : i = e.slot
      · subst he
        refine State.belowPark_of_state (hk.profile.trans h.1) ?_ ?_ <;>
          · rw [State.slot_ctx, State.grant_work_self]
            cases e.kind <;> exact SlotSt.noConfusion
      · have hw := State.grant_work_ne s e he
        exact State.belowPark_of_work h hk.profile (by rw [hw]) (by rw [hw]; exact id)
    unfold State.scanOver
    repeat' split
    all_goals solve | exact ih _ h | exact ih _ hgrant

theorem State.BelowPark.orderDown (h : s.BelowPark i p) (j : SlotId) : (s.orderDown j).BelowPark i p := by
  have hp := ((State.Keeps.rfl s).orderDown j).profile
  by_cases hj : i = j
  · subst hj
    rcases s.orderDown_state i with ⟨hw, -, -⟩ | ⟨h1, h2⟩
    · exact State.belowPark_of_work h hp (by rw [hw]) (by rw [hw]; exact id)
    · exact State.belowPark_of_state (hp.trans h.1) h1 h2
  · have hw := (State.OnlyAt.rfl (i := j) (s := s)).orderDown.others i hj
    exact State.belowPark_of_work h hp (by rw [hw]) (by rw [hw]; exact id)

theorem State.BelowPark.scan (h : s.BelowPark i p) : s.scan.BelowPark i p := by
  unfold State.scan
  split
  · exact h
  · exact h.scanOver _ _

/-- An operation of a passage leaves the state of its slot, and its in-flight set or more. -/
theorem State.BelowPark.of_passage {j : SlotId} (h : s.BelowPark i p) (o : s.OnlyAt j t)
    (hst : (t.work j).ctx.state = (s.work j).ctx.state)
    (hf : (t.work j).pass.flight = [] → (s.work j).pass.flight = []) : t.BelowPark i p := by
  by_cases hj : i = j
  · subst hj
    exact State.belowPark_of_work h o.profile hst hf
  · have hw := o.others i hj
    exact State.belowPark_of_work h o.profile (by rw [hw]) (by rw [hw]; exact id)

theorem State.closed_belowPark (i : SlotId) (p : Profile) : State.Closed (State.BelowPark i p) where
  scan h := h.scan
  orderDown j h := h.orderDown j
  clearMark _ h := h
  compare {s} j h := by
    rcases s.compare_cases j with e | e | ⟨k, -, e⟩ <;> rw [e]
    · exact h
    · exact h
    · exact State.BelowPark.scan (s := s.setQueue _) h
  reportDemand {s} j h := h.of_passage (State.OnlyAt.rfl (i := j)).reportDemand
    (by rw [State.work_report_demand]; rfl) (by rw [State.work_report_demand]; exact id)
  forwardHeld {s} j e _ h := h.of_passage (State.OnlyAt.rfl (i := j).forwardHeld e)
    (by
      rw [State.work_forwardHeld]
      exact (Slot.Passed.rfl.forwardedHeld (n := s.now) s.profile e).state)
    (by
      rw [State.work_forwardHeld]
      obtain ⟨f, g, m, hx⟩ := Slot.forwardedHeld_eq s.profile s.now e (s.work j)
      rw [hx]
      intro hnil
      exact absurd hnil (List.append_ne_nil_of_right_ne_nil _ (List.cons_ne_nil _ _)))
  finishHeld {s} j e _ h := h.of_passage (State.OnlyAt.rfl (i := j).finishHeld e)
    (by rw [State.work_finishHeld]; rfl) (by rw [State.work_finishHeld]; exact id)
  beginHead {s} j h := h.of_passage (State.OnlyAt.rfl (i := j)).beginHead
    (by rw [State.work_beginHead]; rfl) (by rw [State.work_beginHead]; exact id)

/-- A slot tested in the lowering phase stands at or below the park level from then on (R91). -/
theorem State.testSlot_below (hl : s.park.lowering = true) (i : SlotId) : (s.testSlot i).BelowPark i s.profile := by
  unfold State.testSlot
  rw [hl, Bool.true_and]
  split
  · next habove =>
    have hk := (State.Keeps.rfl s).orderDown i
    have hdown : (s.orderDown i).BelowPark i s.profile := by
      rcases s.orderDown_state i with ⟨-, h1, h2⟩ | ⟨h1, h2⟩
      · rw [State.abovePark_of_state h1 h2] at habove
        cases habove
      · exact State.belowPark_of_state hk.profile h1 h2
    have hc := State.closed_belowPark i s.profile
    exact hc.settle i (hc.react _ i hdown)
  · next habove => exact ⟨rfl, by simpa using habove⟩

/-- In the lowering phase the test of every slot leaves none above the park level (R91). -/
theorem State.testAll_below (hl : s.park.lowering = true) (i : SlotId) : s.testAll.abovePark i = false := by
  have h := State.foldl_each (P := fun t => t.park.lowering = true ∧ t.profile = s.profile)
    (Q := fun i t => t.BelowPark i s.profile) (f := State.testSlot)
    (fun {t} j h => by
      have hk := (State.Keeps.rfl t).testSlot j
      exact ⟨by rw [hk.park]; exact h.1, hk.profile.trans h.2⟩)
    (fun {t} j h => by rw [← h.2]; exact State.testSlot_below h.1 j)
    (fun j k _ hq => (State.closed_belowPark k s.profile).testSlot j hq)
    allSlots ⟨hl, rfl⟩ i (.inl (mem_allSlots i))
  exact h.2

end abovePark

/-! ## A SPUN slot under the lock -/

section underLock

variable {s t : State} {i : SlotId}

/-- Under the lock, slot i is SPUN with no entry but of LOAD, or STOPPING with none (R36, R79, R87). -/
def State.SpunOrStopping (i : SlotId) (s : State) : Prop :=
  s.lock = true
    ∧ (((s.work i).ctx.state = .spun ∧ ∀ e ∈ s.admission.queue, e.slot = i → e.kind = .load)
      ∨ ((s.work i).ctx.state = .stopping ∧ s.NoEntry i))

theorem State.SpunOrStopping.loads (h : s.SpunOrStopping i) : ∀ e ∈ s.admission.queue, e.slot = i → e.kind = .load := by
  obtain ⟨-, ⟨-, hq⟩ | ⟨-, hn⟩⟩ := h
  · exact hq
  · exact fun e he hi => absurd hi (hn e he)

theorem State.permits_load_of_lock (h : s.lock = true) : s.permits .load = false := by
  simp [State.permits, h]

theorem State.SpunOrStopping.of_work (h : s.SpunOrStopping i) (hl : t.lock = s.lock)
    (hst : (t.work i).ctx.state = (s.work i).ctx.state)
    (hq : ∀ e ∈ t.admission.queue, e.slot = i → e ∈ s.admission.queue) : t.SpunOrStopping i := by
  obtain ⟨hlock, h⟩ := h
  refine ⟨hl.trans hlock, h.imp (fun ⟨h1, h2⟩ => ⟨hst.trans h1, fun e he hi => h2 e (hq e he hi) hi⟩)
    fun ⟨h1, h2⟩ => ⟨hst.trans h1, fun e he hi => h2 e (hq e he hi) hi⟩⟩

/-- A scan under the lock grants no LOAD, and so nothing of such a slot. -/
theorem State.SpunOrStopping.scanOver (q : List AdmEntry) (m : Marks) (h : s.SpunOrStopping i)
    (hq : ∀ e ∈ q, e.slot = i → e.kind = .load) : (State.scanOver q m s).SpunOrStopping i := by
  induction q generalizing m s with
  | nil => exact h
  | cons e rest ih =>
    have hrest : ∀ f ∈ rest, f.slot = i → f.kind = .load := fun f hf => hq f (List.mem_cons_of_mem _ hf)
    unfold State.scanOver
    by_cases hp : s.permits e.kind = true
    · have hne : i ≠ e.slot := fun hi => by
        rw [hq e List.mem_cons_self hi.symm, State.permits_load_of_lock h.1] at hp
        cases hp
      have hgrant : (s.grant e).SpunOrStopping i := by
        have hk := (State.Keeps.rfl s).grant e
        refine h.of_work (congrArg Park.handle hk.park) (by rw [State.grant_work_ne s e hne]) fun f hf _ => ?_
        rw [State.grant_queue] at hf
        exact (List.mem_filter.mp hf).1
      rw [hp]
      repeat' split
      all_goals solve | exact ih _ h hrest | exact ih _ hgrant hrest
    · rw [Bool.not_eq_true] at hp
      rw [hp]
      exact ih _ h hrest

theorem State.SpunOrStopping.scan (h : s.SpunOrStopping i) : s.scan.SpunOrStopping i := by
  unfold State.scan
  split
  · exact h
  · exact h.scanOver _ _ h.loads

theorem State.SpunOrStopping.of_onlyAt {j : SlotId} (h : s.SpunOrStopping i) (o : s.OnlyAt j t)
    (hst : (t.work j).ctx.state = (s.work j).ctx.state) (hq : t.admission.queue = s.admission.queue) :
    t.SpunOrStopping i := by
  refine h.of_work (congrArg Park.handle o.park) ?_ fun e he _ => by rwa [hq] at he
  by_cases hj : i = j
  · subst hj; exact hst
  · rw [o.others i hj]

theorem State.SpunOrStopping.withdraw (h : s.SpunOrStopping i) (j : SlotId) : (s.withdraw j).SpunOrStopping i :=
  h.of_work rfl rfl fun _ he _ => (List.mem_filter.mp he).1

theorem State.SpunOrStopping.orderDown (h : s.SpunOrStopping i) (j : SlotId) :
    (s.orderDown j).SpunOrStopping i := by
  have o : s.OnlyAt j (s.orderDown j) := State.OnlyAt.rfl.orderDown
  by_cases hj : i = j
  · subst hj
    obtain ⟨hlock, h⟩ := h
    rcases h with ⟨hst, -⟩ | ⟨hst, hn⟩
    · have hd : s.orderDown i = s.enter i .stopping false false := by
        unfold State.orderDown
        have : (s.slot i).ctx.state = .spun := hst
        rw [this]
      rw [hd]
      exact ⟨hlock, .inr ⟨by rw [State.work_enter]; rfl, s.enter_noEntry i _ _ _⟩⟩
    · have hd : s.orderDown i = s := by
        unfold State.orderDown
        have : (s.slot i).ctx.state = .stopping := hst
        rw [this]
      rw [hd]
      exact ⟨hlock, .inr ⟨hst, hn⟩⟩
  · refine h.of_work (congrArg Park.handle o.park) (by rw [o.others i hj]) fun e he hi => ?_
    have hmem : e ∈ (s.orderDown j).admission.queue.filter (fun e => e.slot != j) :=
      List.mem_filter.mpr ⟨he, by simp [hi, hj]⟩
    rw [o.entries] at hmem
    exact (List.mem_filter.mp hmem).1

theorem State.SpunOrStopping.compare (h : s.SpunOrStopping i) (j : SlotId) : (s.compare j).SpunOrStopping i := by
  rcases s.compare_cases j with e | e | ⟨k, hk, e⟩ <;> rw [e]
  · exact h.withdraw j
  · exact h
  · refine State.SpunOrStopping.scan ?_
    obtain ⟨hlock, h⟩ := h
    have hmem : ∀ f ∈ s.admission.queue ++
        [{ slot := j, kind := k, bank := (s.slot j).ctx.map.bank, retried := false }], f.slot = i →
        f ∈ s.admission.queue ∨ (j = i ∧ f.kind = k) := fun f hf hi => by
      rcases List.mem_append.mp hf with hf | hf
      · exact .inl hf
      · rw [List.mem_singleton] at hf
        subst hf
        exact .inr ⟨hi, rfl⟩
    refine ⟨hlock, h.imp (fun ⟨hst, hq⟩ => ⟨hst, fun f hf hi => ?_⟩) fun ⟨hst, hn⟩ => ⟨hst, fun f hf hi => ?_⟩⟩
    · rcases hmem f hf hi with hf | ⟨rfl, hkind⟩
      · exact hq f hf hi
      · rw [State.slot_ctx, hst] at hk
        cases hk
        exact hkind
    · rcases hmem f hf hi with hf | ⟨rfl, -⟩
      · exact hn f hf hi
      · rw [State.slot_ctx, hst] at hk
        cases hk

theorem State.closed_spunOrStopping (i : SlotId) : State.Closed (State.SpunOrStopping i) where
  scan h := h.scan
  orderDown j h := h.orderDown j
  clearMark _ h := h
  compare j h := h.compare j
  reportDemand j h := h.of_onlyAt (State.OnlyAt.rfl (i := j)).reportDemand
    (by rw [State.work_report_demand]; rfl) rfl
  forwardHeld {s} j e _ h := h.of_onlyAt (State.OnlyAt.rfl (i := j).forwardHeld e)
    (by
      rw [State.work_forwardHeld]
      exact (Slot.Passed.rfl.forwardedHeld (n := s.now) s.profile e).state)
    (by simp)
  finishHeld j e _ h := h.of_onlyAt (State.OnlyAt.rfl (i := j).finishHeld e)
    (by rw [State.work_finishHeld]; rfl) (by simp)
  beginHead j h := h.of_onlyAt (State.OnlyAt.rfl (i := j)).beginHead
    (by rw [State.work_beginHead]; rfl) rfl

theorem State.QueueOk.spunOrStopping (h : s.QueueOk) (hlock : s.lock = true) (hst : (s.slot i).ctx.state = .spun) :
    s.SpunOrStopping i := by
  refine ⟨hlock, .inl ⟨hst, fun e he hi => ?_⟩⟩
  have hsource := (h.1 e he).1
  rw [hi, hst] at hsource
  cases hk : e.kind with
  | load => rfl
  | power => rw [hk] at hsource; cases hsource
  | spin => rw [hk] at hsource; cases hsource

end underLock

end Sys2Proof.Machine
end

section
/-! PROOFS. The scan over queues of one and of two entries, and the expiries of the stagger timers and of the transit timer. -/

namespace Sys2Proof.Machine

/-! ## What a scan tests -/

section tests

variable {s : State} {e f : AdmEntry} {m : Marks}

theorem State.permits_iff (s : State) (k : Kind) : s.permits k = true ↔ s.Permitted k := by
  cases k <;> simp [State.permits, or_assoc]

theorem Slot.chargeOn_target (p : Profile) (x : Slot) (k : Kind) :
    x.chargeOn p k.target true = max x.charge (ClassEntry.stepCurrent (x.classIn p) k) := by
  cases k <;> rfl

theorem State.fits_iff (s : State) (e : AdmEntry) : s.fits e = true ↔ s.Fits e := by
  unfold State.fits State.increment State.Fits State.grantCharge
  rw [Slot.chargeOn_target, decide_eq_true_iff]

theorem State.spinLimits_iff (s : State) (b : BankId) : s.spinLimits b = true ↔ s.SpinFree b := by
  unfold State.spinLimits State.spinning State.SpinFree
  rw [Bool.and_eq_true, decide_eq_true_iff, Option.isNone_iff_eq_none]

/-- An entry of a permitted step, in a bank that is not marked, is granted or marks its bank (R39 to R41). -/
theorem State.scanOver_tested (rest : List AdmEntry) (hp : s.Permitted e.kind) (hb : m.blocked[e.bank] = false)
    (ho : (s.bank e.bank).overdraw = false) :
    State.scanOver (e :: rest) m s
      = if !s.fits e then State.scanOver rest { m with blocked := m.blocked.set e.bank true } s
        else if e.kind == .spin && (m.spinBlocked[e.bank] || !s.spinLimits e.bank) then
          State.scanOver rest { m with spinBlocked := m.spinBlocked.set e.bank true } s
        else State.scanOver rest m (s.grant e) := by
  rw [State.scanOver, (s.permits_iff e.kind).mpr hp, hb, ho]
  rfl

/-- A deferred entry, and one of a bank in OVERDRAW, is passed over with no mark (R39). -/
theorem State.scanOver_passed (rest : List AdmEntry) (hb : m.blocked[e.bank] = false)
    (h : ¬ s.Permitted e.kind ∨ (s.bank e.bank).overdraw = true) :
    State.scanOver (e :: rest) m s = State.scanOver rest m s := by
  rw [State.scanOver, hb]
  rcases h with h | h
  · rw [← s.permits_iff, Bool.not_eq_true] at h
    rw [h]
    rfl
  · rw [h]
    cases s.permits e.kind <;> rfl

/-- An entry of a blocked bank is passed over (R39). -/
theorem State.scanOver_blocked (rest : List AdmEntry) (hb : m.blocked[e.bank] = true) :
    State.scanOver (e :: rest) m s = State.scanOver rest m s := by
  rw [State.scanOver, hb]
  cases s.permits e.kind <;> rfl

theorem State.scanOver_granted (rest : List AdmEntry) (hb : m.blocked[e.bank] = false)
    (hs : e.kind = .spin → m.spinBlocked[e.bank] = false) (h : s.Grantable e) :
    State.scanOver (e :: rest) m s = State.scanOver rest m (s.grant e) := by
  obtain ⟨hp, ho, hf, hspin⟩ := h
  rw [State.scanOver_tested rest hp hb ho, (s.fits_iff e).mpr hf]
  by_cases hk : e.kind = .spin
  · rw [hk, hs hk, (s.spinLimits_iff e.bank).mpr (hspin hk)]
    rfl
  · have : (e.kind == .spin) = false := by simpa using hk
    rw [this]
    rfl

/-- The last entry of a scan, that is not granted, ends it (R39). -/
theorem State.scanOver_last (h : m.blocked[e.bank] = true ∨ (e.kind = .spin ∧ m.spinBlocked[e.bank] = true)
    ∨ ¬ s.Grantable e) : State.scanOver [e] m s = s := by
  by_cases hb : m.blocked[e.bank] = true
  · exact State.scanOver_blocked [] hb
  have hb' : m.blocked[e.bank] = false := by simpa using hb
  by_cases hskip : ¬ s.Permitted e.kind ∨ (s.bank e.bank).overdraw = true
  · exact State.scanOver_passed [] hb' hskip
  obtain ⟨hp, ho⟩ : s.Permitted e.kind ∧ (s.bank e.bank).overdraw = false := by
    simpa [not_or] using hskip
  rw [State.scanOver_tested [] hp hb' ho]
  split
  · rfl
  · next hf =>
    rw [Bool.not_eq_true, Bool.not_eq_false', s.fits_iff] at hf
    split
    · rfl
    · next hs =>
      rw [Bool.and_eq_true, beq_iff_eq, Bool.or_eq_true, Bool.not_eq_true', not_and, not_or] at hs
      rcases h with h | ⟨hk, h⟩ | h
      · exact absurd h hb
      · exact absurd h (hs hk).1
      · exact absurd ⟨hp, ho, hf, fun hk => (s.spinLimits_iff e.bank).mp (by simpa using (hs hk).2)⟩ h

theorem Marks.start_free (b : BankId) : Marks.start.blocked[b] = false ∧ Marks.start.spinBlocked[b] = false := by
  fin_cases b <;> exact ⟨rfl, rfl⟩

/-- A mark that was made stands (R39). -/
theorem Marks.marked {v : Vector Bool 2} {b d : BankId} (h : d = b) : (v.set b true)[d] = true := by
  subst h
  simp

/-- A scan where no power-on load is in progress (R38, R39). -/
theorem State.scan_eq {q : List AdmEntry} (h : s.loader.readState ≠ .powerOnRead) (hq : s.admission.queue = q) :
    s.scan = State.scanOver q Marks.start s := by
  rw [State.scan, if_neg h, hq]

end tests

/-! ## The grant -/

section grant

variable {s : State} {e : AdmEntry}

theorem State.startStagger_slot (s : State) (b : BankId) (j : SlotId) : (s.startStagger b).slot j = s.slot j := by
  unfold State.startStagger
  split <;> rfl

theorem State.grant_slot_self (s : State) (e : AdmEntry) :
    (s.grant e).slot e.slot = Slot.enter s.profile s.now e.kind.target true e.retried (s.slot e.slot) := by
  rcases s.grant_eq e with h | h
  · rw [h]
    exact State.slot_modSlot_self _ _ _
  · rw [h, State.startStagger_slot]
    exact State.slot_modSlot_self _ _ _

theorem State.grant_slot_ne (s : State) (e : AdmEntry) {j : SlotId} (hj : j ≠ e.slot) :
    (s.grant e).slot j = s.slot j := by
  rcases s.grant_eq e with h | h
  · rw [h]
    exact State.slot_modSlot_ne _ _ hj
  · rw [h, State.startStagger_slot]
    exact State.slot_modSlot_ne _ _ hj

/-- A SPIN grant starts the stagger timer of its bank, where the gap is not 0 (R42). -/
theorem State.grant_stagger (s : State) (e : AdmEntry) (b : BankId) :
    ((s.grant e).bank b).stagger
      = if e.kind = .spin ∧ b = e.bank ∧ s.profile.staggerMs ≠ 0 then some (s.now + s.profile.staggerMs)
        else (s.bank b).stagger := by
  unfold State.grant
  cases hk : e.kind with
  | power => rfl
  | load => rfl
  | spin =>
    have hprof : (s.enter e.slot (Kind.spin).target true e.retried).profile = s.profile := rfl
    by_cases h0 : s.profile.staggerMs = 0
    · simp only [State.startStagger, hprof, h0, if_true, ne_eq, not_true_eq_false, and_false, if_false]
      rfl
    · simp only [State.startStagger, hprof, h0, if_false]
      by_cases hb : b = e.bank
      · subst hb
        rw [State.bank_modBank_self, if_pos ⟨trivial, rfl, h0⟩]
        rfl
      · rw [State.bank_modBank_ne _ _ hb, if_neg fun h => hb h.2.1]
        rfl

/-- The claims' word for a grant (R6, R14, R32, R42). -/
theorem State.grant_grantedTo (s : State) (e : AdmEntry) : s.GrantedTo (s.grant e) e := by
  have hslot := s.grant_slot_self e
  have hk := (State.Keeps.rfl s).grant e
  have htarget : e.kind.target.powered = true ∧ (e.kind.target ≠ .idle ∧ e.kind.target ≠ .spun ∧ e.kind.target ≠ .loaded) := by
    cases e.kind <;> decide
  refine ⟨?_, ?_, ?_, ?_, ?_, ?_, ?_, ?_, ?_, fun j hj => s.grant_slot_ne e hj, hk.rest, s.grant_ctrl e, hk.now,
    fun b => ⟨(s.grant_account e b).1, (s.grant_account e b).2, s.grant_stagger e b⟩⟩
  all_goals rw [hslot]
  · rfl
  · rfl
  · change classDeadline _ _ _ = _
    cases e.kind <;> rfl
  · rfl
  · exact (Slot.enter_idleTimer _ _ _ _ _ _).trans (Slot.idleFrom_of_state _ _ htarget.2)
  · exact Slot.chargeOn_target _ _ _
  · rfl
  · exact Slot.enter_query _ _ true _ _ htarget.1
  · rfl

end grant

/-! ## The expiry of a stagger timer -/

section stagger

variable {s u : State} {e f : AdmEntry}

/-- A queue of one entry: it is granted, or stays (R39). -/
theorem State.scan_one (hl : u.loader.readState ≠ .powerOnRead) (hq : u.admission.queue = [e]) :
    (u.Grantable e → u.GrantedTo u.scan e ∧ u.scan.admission.queue = [])
      ∧ (¬ u.Grantable e → u.scan = u) := by
  rw [State.scan_eq hl hq]
  obtain ⟨hb, hs⟩ := Marks.start_free e.bank
  refine ⟨fun h => ?_, fun h => State.scanOver_last (.inr (.inr h))⟩
  rw [State.scanOver_granted [] hb (fun _ => hs) h]
  refine ⟨u.grant_grantedTo e, ?_⟩
  change (u.grant e).admission.queue = []
  rw [State.grant_queue, hq]
  simp

theorem State.grant_queue_first (hq : u.admission.queue = [e, f]) (hne : e.slot ≠ f.slot) :
    (u.grant e).admission.queue = [f] := by
  rw [State.grant_queue, hq]
  simp [hne.symm]

theorem State.grant_queue_second (hq : u.admission.queue = [e, f]) (hne : e.slot ≠ f.slot) :
    (u.grant f).admission.queue = [e] := by
  rw [State.grant_queue, hq]
  simp [hne]

/-- A queue of two entries, the first of which does not hold back the second (R39). -/
theorem State.scan_two_second {m : Marks} (hq : u.admission.queue = [e, f]) (hne : e.slot ≠ f.slot)
    (hscan : u.scan = State.scanOver [f] m u) (hb : m.blocked[f.bank] = false)
    (hs : f.kind = .spin → m.spinBlocked[f.bank] = false) (h : u.Grantable f) :
    u.GrantedTo u.scan f ∧ u.scan.admission.queue = [e] := by
  rw [hscan, State.scanOver_granted [] hb hs h]
  exact ⟨u.grant_grantedTo f, State.grant_queue_second hq hne⟩

/-- A queue of two entries, at most one of them granted (R39 to R42). -/
theorem State.scan_two (hl : u.loader.readState ≠ .powerOnRead) (hq : u.admission.queue = [e, f])
    (hne : e.slot ≠ f.slot) :
    (¬ u.Permitted e.kind ∨ (u.bank e.bank).overdraw = true →
        (u.Grantable f → u.GrantedTo u.scan f ∧ u.scan.admission.queue = [e])
        ∧ (¬ u.Grantable f → u.scan = u))
      ∧ (u.Permitted e.kind → (u.bank e.bank).overdraw = false → ¬ u.Fits e → f.bank = e.bank → u.scan = u)
      ∧ (u.Permitted e.kind → (u.bank e.bank).overdraw = false → u.Fits e → e.kind = .spin →
          ¬ u.SpinFree e.bank → f.bank = e.bank →
          (f.kind = .spin → u.scan = u)
          ∧ (f.kind ≠ .spin → u.Grantable f → u.GrantedTo u.scan f ∧ u.scan.admission.queue = [e]))
      ∧ (u.Grantable e → e.kind = .spin → f.kind = .spin → f.bank = e.bank → u.profile.staggerMs ≠ 0 →
          u.GrantedTo u.scan e ∧ u.scan.admission.queue = [f]) := by
  have hscan := State.scan_eq hl hq
  obtain ⟨hb, hs⟩ := Marks.start_free e.bank
  refine ⟨fun h => ?_, fun hp ho hf hbank => ?_, fun hp ho hf hk hfree hbank => ?_, fun h hk hkf hbank h0 => ?_⟩
  · rw [State.scanOver_passed [f] hb h] at hscan
    obtain ⟨hbf, hsf⟩ := Marks.start_free f.bank
    exact ⟨State.scan_two_second hq hne hscan hbf fun _ => hsf,
      fun hn => hscan.trans (State.scanOver_last (.inr (.inr hn)))⟩
  · rw [← u.fits_iff, Bool.not_eq_true] at hf
    rw [State.scanOver_tested [f] hp hb ho, hf, if_pos (by rfl)] at hscan
    exact hscan.trans (State.scanOver_last (.inl (Marks.marked hbank)))
  · rw [← u.spinLimits_iff, Bool.not_eq_true] at hfree
    rw [State.scanOver_tested [f] hp hb ho, (u.fits_iff e).mpr hf, if_neg (by decide), hk, hfree, hs,
      if_pos (by rfl)] at hscan
    refine ⟨fun hkf => hscan.trans (State.scanOver_last (.inr (.inl ⟨hkf, Marks.marked hbank⟩))), fun hkf hg =>
      State.scan_two_second hq hne hscan (Marks.start_free f.bank).1 (fun hkf' => absurd hkf' hkf) hg⟩
  · rw [State.scanOver_granted [f] hb (fun _ => hs) h] at hscan
    have hlast : State.scanOver [f] Marks.start (u.grant e) = u.grant e := by
      refine State.scanOver_last (.inr (.inr fun hg => ?_))
      have hstagger := (hg.2.2.2 hkf).2
      rw [State.grant_stagger, if_pos ⟨hk, hbank, h0⟩] at hstagger
      cases hstagger
    rw [hscan, hlast]
    exact ⟨u.grant_grantedTo e, State.grant_queue_first hq hne⟩

theorem exec_staggerTimerExpiry {b : BankId} {t0 : Nat} (hc : s.Calm) (h : (s.bank b).stagger = some t0) :
    exec (.staggerTimerExpiry b) s
      = .next (State.scan
          (State.modBank { s with now := max s.now t0 } b (fun k => { k with stagger := none }))) := by
  change Host.Outcome.next (State.live (fun t => t.staggerExpires b) s) = _
  rw [State.live_calm hc]
  unfold State.staggerExpires
  rw [h]
  rfl

end stagger

/-! ## The expiry of the transit timer -/

section transit

variable {s : State}

theorem exec_transitTimerExpiry {t0 : Nat} (hc : s.Calm) (h : s.park.transitTimer = some t0) :
    exec .transitTimerExpiry s = .next (s.reach t0).loweringBegins := by
  change Host.Outcome.next (State.live State.transitExpires s) = _
  rw [State.live_calm hc]
  unfold State.transitExpires
  rw [h]

/-- From a queue in order, the lowering phase takes a SPUN slot to STOPPING, at a park level below (R91). -/
theorem State.loweringBegins_stops {i : SlotId} (hlock : s.lock = true) (hq : s.QueueOk)
    (hst : (s.slot i).ctx.state = .spun) (hp : s.profile.parkLevel = .idle ∨ s.profile.parkLevel = .off) :
    (s.loweringBegins.slot i).ctx.state = .stopping := by
  let u := { s with park := { s.park with transitTimer := none, lowering := true } }
  have hbelow := State.testAll_below (s := u) rfl i
  have hspun := (State.closed_spunOrStopping i).testAll (s := u)
    (State.QueueOk.spunOrStopping (s := s) hq hlock hst)
  have hprof := ((State.Keeps.rfl u).testAll).profile
  obtain ⟨-, ⟨h, -⟩ | ⟨h, -⟩⟩ := hspun
  · have habove : u.testAll.abovePark i = true := by
      change (u.testAll.slot i).ctx.state = .spun at h
      unfold State.abovePark
      simp only [h, hprof]
      rcases hp with hp | hp
      · have : u.profile.parkLevel = .idle := hp
        rw [this]; rfl
      · have : u.profile.parkLevel = .off := hp
        rw [this]; rfl
    rw [hbelow] at habove
    cases habove
  · exact h

end transit

/-- Settles O45: the scan by its first tests, and the lowering phase by the tests of all slots. -/
theorem staggerAndTransitTimers : Obligations.StaggerAndTransitTimers := by
  unfold Obligations.StaggerAndTransitTimers
  intro s hc
  refine ⟨fun b t0 h => exec_staggerTimerExpiry hc h, fun b t0 h hl => ?_, fun t0 h hlock => ?_⟩
  · rw [exec_staggerTimerExpiry hc h]
    intro u
    refine ⟨fun e hq => ?_, fun e f hq hne => ?_⟩
    · obtain ⟨h1, h2⟩ := State.scan_one (u := u) hl hq
      exact ⟨fun hg => ⟨_, rfl, h1 hg⟩, fun hg => congrArg Host.Outcome.next (h2 hg)⟩
    · obtain ⟨h1, h2, h3, h4⟩ := State.scan_two (u := u) hl hq hne
      refine ⟨fun hskip => ⟨fun hg => ⟨_, rfl, (h1 hskip).1 hg⟩, fun hg => ?_⟩, fun hp ho hf hb => ?_,
        fun hp ho hf hk hfree hb => ⟨fun hkf => ?_, fun hkf hg => ⟨_, rfl, (h3 hp ho hf hk hfree hb).2 hkf hg⟩⟩,
        fun hg hk hkf hb h0 => ⟨_, rfl, h4 hg hk hkf hb h0⟩⟩
      · exact congrArg Host.Outcome.next ((h1 hskip).2 hg)
      · exact congrArg Host.Outcome.next (h2 hp ho hf hb)
      · exact congrArg Host.Outcome.next ((h3 hp ho hf hk hfree hb).1 hkf)
  · have hk := (State.Keeps.rfl
      { s.reach t0 with park := { s.park with transitTimer := none, lowering := true } }).testAll
    refine ⟨_, exec_transitTimerExpiry hc h, hk.now, hk.park, fun i => ⟨State.testAll_below rfl i, fun hq hst hp => ?_⟩⟩
    exact State.loweringBegins_stops (s := s.reach t0) hlock hq hst hp

end Sys2Proof.Machine
end

section
/-! PROOFS. What shedding takes: of the candidates of a bank, in their ranking, as many as its projected sum asks for
(R46 to R48). -/

namespace Sys2Proof.Machine

/-! ## Sums over the slots -/

theorem sum_allSlots (f : SlotId → Nat) : (allSlots.map f).sum = ∑ i, f i := (Fin.sum_univ_def f).symm

theorem sum_filter_list (l : List SlotId) (p : SlotId → Bool) (f : SlotId → Nat) :
    ((l.filter p).map f).sum = (l.map fun i => if p i then f i else 0).sum := by
  induction l with
  | nil => rfl
  | cons i l ih =>
    cases hp : p i with
    | true => simp [hp, ih]
    | false => simp [hp, ih]

theorem sum_filter_allSlots (p : SlotId → Bool) (f : SlotId → Nat) :
    ((allSlots.filter p).map f).sum = ∑ i, if p i then f i else 0 := by
  rw [sum_filter_list, sum_allSlots]

/-- Two sums that differ in one place. -/
theorem sum_change {f g : SlotId → Nat} (i : SlotId) (h : ∀ k, k ≠ i → g k = f k) :
    ∑ k, g k + f i = ∑ k, f k + g i := by
  have hsum : ∑ k ∈ Finset.univ.erase i, g k = ∑ k ∈ Finset.univ.erase i, f k :=
    Finset.sum_congr rfl fun k hk => h k (Finset.ne_of_mem_erase hk)
  rw [← Finset.add_sum_erase _ g (Finset.mem_univ i), ← Finset.add_sum_erase _ f (Finset.mem_univ i), hsum]
  omega

/-! ## The projected sum -/

section projected

variable {s t : State} {b : BankId} {i j : SlotId}

/-- What a slot adds to the projected sum of a bank: in STOPPING no more than the current of IDLE (R46). -/
def Slot.projShare (p : Profile) (b : BankId) (x : Slot) : Nat :=
  if x.ctx.map.bank = b then
    if x.ctx.state = .stopping then min x.charge (x.classIn p).iElec else x.charge
  else 0

/-- What slot i adds to the projected sum of a bank (R46). -/
def State.projShare (s : State) (b : BankId) (i : SlotId) : Nat := (s.work i).projShare s.profile b

theorem Slot.chargeOn_idle (p : Profile) (x : Slot) :
    x.chargeOn p .idle false = min x.charge (x.classIn p).iElec := Slot.chargeOn_down p x (st := .idle) rfl

theorem State.stopShare_eq (s : State) (b : BankId) (i : SlotId) :
    s.stopShare b i
      = if (s.slot i).ctx.map.bank = b ∧ (s.slot i).ctx.state = .stopping then
          (s.slot i).charge - min (s.slot i).charge ((s.slot i).classIn s.profile).iElec
        else 0 := by
  simp only [State.stopShare, Slot.chargeOn_idle]

theorem State.share_split (s : State) (b : BankId) (i : SlotId) :
    s.share b i = s.projShare b i + s.stopShare b i := by
  rw [State.stopShare_eq]
  change (if (s.slot i).ctx.map.bank = b then (s.slot i).charge else 0) = (s.slot i).projShare s.profile b + _
  unfold Slot.projShare
  by_cases hb : (s.slot i).ctx.map.bank = b
  · by_cases hs : (s.slot i).ctx.state = .stopping
    · simp only [hb, hs, and_self, if_true]
      omega
    · simp only [hb, hs, and_false, if_true, if_false, Nat.add_zero]
  · simp only [hb, false_and, if_false]

theorem State.bankSum_eq (s : State) (b : BankId) : s.bankSum b = ∑ i, s.share b i := sum_allSlots _

theorem State.projected_eq (s : State) (b : BankId) : s.projected b = ∑ i, s.projShare b i := by
  rw [State.projected, State.bankSum_eq, sum_allSlots]
  simp only [State.share_split, Finset.sum_add_distrib, Nat.add_sub_cancel]

/-- The projected sum of the claims is the model's (R46). -/
theorem State.projectedSum_eq (s : State) (b : BankId) : s.projectedSum b = ∑ i, s.projShare b i := by
  rw [← State.projected_eq, State.projectedSum, State.projected, sum_filter_allSlots, sum_allSlots]
  congr 1
  refine Finset.sum_congr rfl fun i _ => ?_
  simp only [State.stopShare_eq, Bool.and_eq_true, beq_iff_eq]

theorem State.projShare_of_work (hw : t.work i = s.work i) (hp : t.profile = s.profile) :
    t.projShare b i = s.projShare b i := by rw [State.projShare, State.projShare, hw, hp]

end projected

/-! ## The ranking -/

section ranking

variable {s t : State} {b : BankId} {i j k : SlotId}

theorem State.RanksBefore.trans (h : s.RanksBefore i j) (h' : s.RanksBefore j k) : s.RanksBefore i k := by
  rcases h with ⟨hi, hj⟩ | ⟨hij, h⟩ <;> rcases h' with ⟨hj', hk⟩ | ⟨hjk, h'⟩
  · exact .inl ⟨hi, hk⟩
  · exact .inl ⟨hi, hjk ▸ hj⟩
  · exact .inl ⟨hij.trans hj', hk⟩
  · refine .inr ⟨hij.trans hjk, ?_⟩
    omega

theorem State.RanksBefore.irrefl (i : SlotId) : ¬ s.RanksBefore i i := by
  rintro (⟨h, h'⟩ | ⟨-, h⟩)
  · rw [h] at h'
    cases h'
  · omega

theorem State.RanksBefore.total (hi : s.ShedCandidate b i) (hj : s.ShedCandidate b j) (hne : i ≠ j) :
    s.RanksBefore i j ∨ s.RanksBefore j i := by
  obtain ⟨-, hi, -⟩ := hi
  obtain ⟨-, hj, -⟩ := hj
  by_cases hst : (s.slot i).ctx.state = (s.slot j).ctx.state
  · have hval : i.val ≠ j.val := fun e => hne (Fin.ext e)
    have hcase : ((s.slot i).ctx.lastActivity < (s.slot j).ctx.lastActivity
        ∨ ((s.slot i).ctx.lastActivity = (s.slot j).ctx.lastActivity ∧ i.val < j.val))
        ∨ ((s.slot j).ctx.lastActivity < (s.slot i).ctx.lastActivity
          ∨ ((s.slot j).ctx.lastActivity = (s.slot i).ctx.lastActivity ∧ j.val < i.val)) := by omega
    exact hcase.imp (fun h => .inr ⟨hst, h⟩) fun h => .inr ⟨hst.symm, h⟩
  · rcases hi with hi | hi <;> rcases hj with hj | hj
    · exact absurd (hi.trans hj.symm) hst
    · exact .inl (.inl ⟨hi, hj⟩)
    · exact .inr (.inl ⟨hj, hi⟩)
    · exact absurd (hi.trans hj.symm) hst

theorem State.shedBefore_iff (hi : s.ShedCandidate b i) (hj : s.ShedCandidate b j) :
    s.shedBefore i j = true ↔ s.RanksBefore i j := by
  obtain ⟨-, hi, -⟩ := hi
  obtain ⟨-, hj, -⟩ := hj
  unfold State.shedBefore State.RanksBefore
  rcases hi with hi | hi <;> rcases hj with hj | hj <;> simp [hi, hj]

/-- The first of a list of candidates stands before each other one of it (R47). -/
theorem State.shedFirst_least (l : List SlotId) (hl : ∀ k ∈ l, s.ShedCandidate b k)
    (h : s.shedFirst l = some j) :
    ∀ k ∈ l, k ≠ j → s.RanksBefore j k := by
  induction l generalizing j with
  | nil => cases h
  | cons a l ih =>
    have ha := hl a List.mem_cons_self
    have hl' : ∀ k ∈ l, s.ShedCandidate b k := fun k hk => hl k (List.mem_cons_of_mem _ hk)
    unfold State.shedFirst at h
    split at h
    · next hnone =>
      cases h
      have hnil : l = [] := by
        cases l with
        | nil => rfl
        | cons _ l =>
          unfold State.shedFirst at hnone
          repeat' split at hnone
          all_goals cases hnone
      subst hnil
      exact fun k hk hne => absurd (List.mem_singleton.mp hk) hne
    · next c hc =>
      have hcm := hl' c (State.shedFirst_mem hc)
      have hleast := ih hl' hc
      split at h
      · next hbefore =>
        cases h
        rw [State.shedBefore_iff ha hcm] at hbefore
        intro k hk hne
        rcases List.mem_cons.mp hk with rfl | hk
        · exact absurd rfl hne
        · by_cases hkc : k = c
          · rw [hkc]; exact hbefore
          · exact hbefore.trans (hleast k hk hkc)
      · next hbefore =>
        cases h
        rw [State.shedBefore_iff ha hcm] at hbefore
        intro k hk hne
        rcases List.mem_cons.mp hk with rfl | hk
        · exact (State.RanksBefore.total ha hcm hne).resolve_left hbefore
        · exact hleast k hk hne

/-- The slot that a shed chooses stands first among the candidates (R47). -/
theorem State.shedChoice_first (h : s.shedChoice b = some j) :
    s.ShedCandidate b j ∧ ∀ k, s.ShedCandidate b k → k ≠ j → s.RanksBefore j k :=
  ⟨State.candidate_iff.mp (State.shedChoice_candidate h), fun k hk =>
    State.shedFirst_least _ (fun _ hc => State.candidate_iff.mp (List.mem_filter.mp hc).2) h k
      (List.mem_filter.mpr ⟨mem_allSlots k, State.candidate_iff.mpr hk⟩)⟩

theorem State.shedChoice_none (h : s.shedChoice b = none) (k : SlotId) : ¬ s.ShedCandidate b k := by
  intro hk
  have hmem : k ∈ allSlots.filter (s.candidate b) :=
    List.mem_filter.mpr ⟨mem_allSlots k, State.candidate_iff.mpr hk⟩
  unfold State.shedChoice at h
  generalize allSlots.filter (s.candidate b) = l at *
  cases l with
  | nil => cases hmem
  | cons c l =>
    unfold State.shedFirst at h
    repeat' split at h
    all_goals cases h

end ranking

/-! ## One order -/

section order

variable {s t : State} {b : BankId} {i j k : SlotId}

/-- From x to y, a SPUN or IDLE slot was given a lowering order (R7, R32). -/
structure Slot.Ordered (p : Profile) (m : SlotMap) (x y : Slot) : Prop where
  state : y.ctx.state = if x.ctx.state = .spun then .stopping else if m.enabled then .off else .empty
  spun : x.ctx.state = .spun → y.ctx.map = x.ctx.map ∧ y.charge = min x.charge (x.classIn p).iRun
  idle : x.ctx.state ≠ .spun → y.charge = 0

theorem State.orderDown_ordered (h : s.ShedCandidate b j) :
    (s.work j).Ordered s.profile (s.profile.slots[j]) ((s.orderDown j).work j) := by
  obtain ⟨-, hst, -, hf⟩ := h
  rcases hst with hst | hst
  · have hst' : (s.work j).ctx.state = .spun := hst
    have hd : s.orderDown j = s.enter j .stopping false false := by
      unfold State.orderDown
      rw [hst]
    rw [hd, State.work_enter]
    exact ⟨by rw [hst']; rfl, fun _ => ⟨rfl, Slot.chargeOn_down s.profile (s.work j) (st := .stopping) rfl⟩,
      fun h => absurd hst' h⟩
  · have hst' : (s.work j).ctx.state = .idle := hst
    have hw := State.work_orderDown_idle hst hf
    refine ⟨?_, fun h => ?_, fun _ => hw.charge⟩
    · rw [hw.state, hst', if_neg (show ¬ SlotSt.idle = .spun from SlotSt.noConfusion)]
    · rw [hst'] at h; cases h

theorem Slot.Ordered.not_candidate {p : Profile} {m : SlotMap} {x y : Slot} (h : x.Ordered p m y) :
    y.ctx.state ≠ .spun ∧ y.ctx.state ≠ .idle := by
  rw [h.state]
  split
  · exact ⟨SlotSt.noConfusion, SlotSt.noConfusion⟩
  · split <;> exact ⟨SlotSt.noConfusion, SlotSt.noConfusion⟩

/-- What the projected sum falls by when a slot is given its order (R46, R48). -/
def Slot.shedGain (p : Profile) (x : Slot) : Nat :=
  if x.ctx.state = .idle then x.charge else x.charge - min (min x.charge (x.classIn p).iRun) (x.classIn p).iElec

theorem State.shedGain_eq (s : State) (i : SlotId) : s.shedGain i = (s.work i).shedGain s.profile := rfl

theorem Slot.projShare_ordered {p : Profile} {m : SlotMap} {x y : Slot} (hb : x.ctx.map.bank = b)
    (hst : x.ctx.state = .spun ∨ x.ctx.state = .idle) (h : x.Ordered p m y) :
    y.projShare p b + x.shedGain p = x.projShare p b := by
  have hstate := h.state
  rcases hst with hst | hst
  · obtain ⟨hmap, hcharge⟩ := h.spun hst
    rw [if_pos hst] at hstate
    simp only [Slot.projShare, Slot.shedGain, Slot.classIn_congr p hmap, hmap, hb, hstate, hst, hcharge, if_true,
      reduceCtorEq, if_false]
    omega
  · have hcharge : y.charge = 0 := h.idle (by rw [hst]; exact SlotSt.noConfusion)
    simp only [Slot.projShare, Slot.shedGain, hb, hst, hcharge, Nat.zero_min, ite_self, if_true, reduceCtorEq,
      if_false, Nat.zero_add]

/-- The projected sum falls by the gain of the slot that is given its order (R46, R48). -/
theorem State.projShare_ordered (hc : s.ShedCandidate b j) (hp : t.profile = s.profile)
    (h : (s.work j).Ordered s.profile (s.profile.slots[j]) (t.work j)) :
    t.projShare b j + s.shedGain j = s.projShare b j := by
  rw [State.projShare, hp, s.shedGain_eq]
  exact Slot.projShare_ordered hc.1 hc.2.1 h

/-- What a slot that stands as it did contributes to a shed. -/
theorem State.shedGain_of_work (hw : t.work i = s.work i) (hp : t.profile = s.profile) :
    t.shedGain i = s.shedGain i := by rw [t.shedGain_eq, s.shedGain_eq, hw, hp]

theorem State.shedCandidate_of_work (hw : t.work i = s.work i) : t.ShedCandidate b i ↔ s.ShedCandidate b i := by
  unfold State.ShedCandidate
  rw [State.slot_ctx, State.slot_pass, hw, State.slot_ctx, State.slot_pass]

theorem State.ranksBefore_of_work (hi : t.work i = s.work i) (hj : t.work j = s.work j) :
    t.RanksBefore i j ↔ s.RanksBefore i j := by
  unfold State.RanksBefore
  rw [State.slot_ctx t, State.slot_ctx t, hi, hj, State.slot_ctx s, State.slot_ctx s]

/-- What slot i brings a shed ahead of slot j (R47, R48). -/
def State.gainAt (s : State) (b : BankId) (j i : SlotId) : Nat :=
  if decide (s.ShedCandidate b i ∧ s.RanksBefore i j) then s.shedGain i else 0

theorem State.gainAt_candidate (hi : s.ShedCandidate b i) (h : s.RanksBefore i j) :
    s.gainAt b j i = s.shedGain i := if_pos (decide_eq_true ⟨hi, h⟩)

theorem State.gainAt_none (h : ¬ (s.ShedCandidate b i ∧ s.RanksBefore i j)) : s.gainAt b j i = 0 :=
  if_neg (by rwa [decide_eq_true_iff])

/-- What the candidates before a slot bring a shed (R47, R48). -/
def State.gainBefore (s : State) (b : BankId) (j : SlotId) : Nat := ∑ i, s.gainAt b j i

theorem State.shedReaches_iff (s : State) (b : BankId) (n : Nat) (j : SlotId) :
    s.ShedReaches b n j ↔ n + s.gainBefore b j < ∑ i, s.projShare b i := by
  rw [State.ShedReaches, sum_filter_allSlots, State.projectedSum_eq]
  rfl

end order

/-! ## All orders of a shed -/

section rounds

variable {s t : State} {b : BankId} {i j : SlotId}

/-- The candidates of a bank. -/
def State.candidates (s : State) (b : BankId) : Finset SlotId :=
  Finset.univ.filter fun i => s.ShedCandidate b i

theorem State.mem_candidates : i ∈ s.candidates b ↔ s.ShedCandidate b i := by
  simp [State.candidates]

/-- From s to t, of the candidates of a bank exactly those that a shed reaches were given an order (R48). -/
def State.ShedTo (s : State) (b : BankId) (t : State) : Prop :=
  ∀ j, (s.ShedCandidate b j ∧ s.ShedReaches b (s.bank b).budget j →
      (s.work j).Ordered s.profile (s.profile.slots[j]) (t.work j))
    ∧ (¬ (s.ShedCandidate b j ∧ s.ShedReaches b (s.bank b).budget j) → t.work j = s.work j)

/-- The first order of a shed, and what it leaves to the others (R46 to R48). -/
theorem State.shedTo_cons {u : State} (hi : s.ShedCandidate b i)
    (hfirst : ∀ k, s.ShedCandidate b k → k ≠ i → s.RanksBefore i k)
    (hover : (s.bank b).budget < ∑ k, s.projShare b k) (hu : u = s.orderDown i) (h : u.ShedTo b t) :
    s.ShedTo b t := by
  have o : s.OnlyAt i u := by rw [hu]; exact State.OnlyAt.rfl.orderDown
  have hord : (s.work i).Ordered s.profile (s.profile.slots[i]) (u.work i) := by
    rw [hu]; exact State.orderDown_ordered hi
  have hp : u.profile = s.profile := o.profile
  have hbank : u.bank b = s.bank b := o.bank b
  have hnot : ¬ u.ShedCandidate b i := fun hc => hc.2.1.elim hord.not_candidate.1 hord.not_candidate.2
  have hcand : ∀ k, k ≠ i → (u.ShedCandidate b k ↔ s.ShedCandidate b k) := fun k hk =>
    State.shedCandidate_of_work (o.others k hk)
  have hproj : ∑ k, u.projShare b k + s.shedGain i = ∑ k, s.projShare b k := by
    have h1 := sum_change (f := s.projShare b) (g := u.projShare b) i fun k hk =>
      State.projShare_of_work (o.others k hk) hp
    have h2 := State.projShare_ordered hi hp hord
    omega
  have hgain : ∀ k, s.ShedCandidate b k → k ≠ i → s.gainBefore b k = u.gainBefore b k + s.shedGain i := by
    intro k hk hne
    have h1 := sum_change (f := s.gainAt b k) (g := u.gainAt b k) i fun c hc => by
      have h1 := hcand c hc
      have h2 := State.ranksBefore_of_work (o.others c hc) (o.others k hne)
      simp only [State.gainAt, h1, h2, State.shedGain_of_work (o.others c hc) hp]
    rw [State.gainAt_candidate hi (hfirst k hk hne), State.gainAt_none fun h => hnot h.1, Nat.add_zero] at h1
    exact h1.symm
  intro j
  by_cases hj : j = i
  · subst hj
    have hlast := (h j).2 fun hc => hnot hc.1
    refine ⟨fun _ => by rw [hlast]; exact hord, fun hn => absurd ⟨hi, ?_⟩ hn⟩
    have hzero : s.gainBefore b j = 0 := by
      refine Finset.sum_eq_zero fun c _ => State.gainAt_none ?_
      rintro ⟨hc, hbefore⟩
      have hne : c ≠ j := fun e => State.RanksBefore.irrefl j (e ▸ hbefore)
      exact State.RanksBefore.irrefl j ((hfirst c hc hne).trans hbefore)
    rw [s.shedReaches_iff, hzero]
    omega
  · have hiff : (u.ShedCandidate b j ∧ u.ShedReaches b (u.bank b).budget j)
        ↔ (s.ShedCandidate b j ∧ s.ShedReaches b (s.bank b).budget j) := by
      rw [hcand j hj, hbank]
      refine and_congr_right fun hc => ?_
      have hg := hgain j hc hj
      rw [u.shedReaches_iff, s.shedReaches_iff]
      omega
    have hj' := h j
    rw [hiff, o.others j hj, hp] at hj'
    exact hj'

/-- A shed gives exactly those candidates an order that it reaches (R48). -/
theorem State.shedRounds_shedTo (n : Nat) (hn : (s.candidates b).card ≤ n) : s.ShedTo b (State.shedRounds n b s) := by
  have hnone : (∀ k, ¬ s.ShedCandidate b k) → s.ShedTo b s := fun h j =>
    ⟨fun hc => absurd hc.1 (h j), fun _ => rfl⟩
  induction n generalizing s with
  | zero =>
    refine hnone fun k hk => ?_
    have := State.mem_candidates.mpr hk
    rw [Finset.card_eq_zero.mp (Nat.le_zero.mp hn)] at this
    exact absurd this (Finset.notMem_empty k)
  | succ n ih =>
    unfold State.shedRounds
    split
    · next hover =>
      rw [gt_iff_lt, State.projected_eq] at hover
      split
      · next hc => exact hnone (State.shedChoice_none hc)
      · next i hc =>
        obtain ⟨hi, hfirst⟩ := State.shedChoice_first hc
        have o : s.OnlyAt i (s.orderDown i) := State.OnlyAt.rfl.orderDown
        have hord := State.orderDown_ordered hi
        have hnot : ¬ (s.orderDown i).ShedCandidate b i := fun hc =>
          hc.2.1.elim hord.not_candidate.1 hord.not_candidate.2
        have hsub : (s.orderDown i).candidates b ⊂ s.candidates b := by
          refine Finset.ssubset_iff_subset_ne.mpr ⟨fun k hk => ?_, fun e => ?_⟩
          · rw [State.mem_candidates] at hk ⊢
            have hki : k ≠ i := fun e => hnot (e ▸ hk)
            exact (State.shedCandidate_of_work (o.others k hki)).mp hk
          · have hmem := State.mem_candidates.mpr hi
            rw [← e, State.mem_candidates] at hmem
            exact hnot hmem
        have hlt := Finset.card_lt_card hsub
        exact State.shedTo_cons hi hfirst hover rfl
          (ih (by omega) fun h j => ⟨fun hc => absurd hc.1 (h j), fun _ => rfl⟩)
    · next hover =>
      rw [gt_iff_lt, State.projected_eq] at hover
      refine fun j => ⟨fun hc => absurd hc.2 ?_, fun _ => rfl⟩
      rw [s.shedReaches_iff]
      omega

theorem State.candidates_card (s : State) (b : BankId) : (s.candidates b).card ≤ 10 :=
  (Finset.card_le_univ _).trans (Fintype.card_fin 10).le

end rounds

end Sys2Proof.Machine
end

section
/-! PROOFS. A LINK_RESET: the commands emptied, and the sheds of banks in OVERDRAW whose slots have no work. -/

namespace Sys2Proof.Machine

/-! ## A state with no work -/

/-- A passage with no command, and no demand. -/
def Passage.Empty (a : Passage) : Prop := a.hold = [] ∧ a.flight = [] ∧ a.aborts = [] ∧ a.demand = none

theorem Passage.Empty.emptied {a : Passage} (h : a.Empty) : a.emptied = a := by
  obtain ⟨h1, h2, h3, h4⟩ := h
  unfold Passage.emptied
  rw [← h1, ← h2, ← h3, ← h4]

/-- No slot has work, and no entry waits for admission. -/
structure State.Workless (s : State) : Prop where
  queue : s.admission.queue = []
  pass : ∀ i, (s.slot i).pass.Empty

/-- From s to t, nothing was done but that slots without work changed their states. -/
structure State.Stilled (s t : State) : Prop where
  alike : s.UpAlike t
  keeps : s.Keeps t
  queue : t.admission.queue = []
  pass : ∀ i, (t.slot i).pass = (s.slot i).pass
  record : ∀ i, (t.slot i).record = (s.slot i).record
  bank : ∀ b, (t.bank b).budget = (s.bank b).budget ∧ (t.bank b).stagger = (s.bank b).stagger
    ∧ ((t.bank b).overdraw = true → (s.bank b).overdraw = true)

section workless

variable {s t u : State} {i : SlotId} {b : BankId}

theorem State.Workless.stilled (h : s.Workless) : s.Stilled s :=
  ⟨State.UpAlike.rfl, State.Keeps.rfl s, h.queue, fun _ => rfl, fun _ => rfl, fun _ => ⟨rfl, rfl, id⟩⟩

theorem State.Stilled.trans (h : s.Stilled t) (k : t.Stilled u) : s.Stilled u where
  alike := h.alike.trans k.alike
  keeps := h.keeps.trans k.keeps
  queue := k.queue
  pass i := (k.pass i).trans (h.pass i)
  record i := (k.record i).trans (h.record i)
  bank b := by
    obtain ⟨h1, h2, h3⟩ := h.bank b
    obtain ⟨k1, k2, k3⟩ := k.bank b
    exact ⟨k1.trans h1, k2.trans h2, h3 ∘ k3⟩

theorem State.Stilled.workless (hs : s.Workless) (h : s.Stilled t) : t.Workless :=
  ⟨h.queue, fun i => by rw [h.pass]; exact hs.pass i⟩

theorem State.scan_of_empty (h : s.admission.queue = []) : s.scan = s := by
  unfold State.scan
  rw [h]
  split <;> rfl

theorem State.OnlyAt.queue_of_empty (o : s.OnlyAt i t) (hq : s.admission.queue = []) (hn : t.NoEntry i) :
    t.admission.queue = [] := by
  rw [← hn.filter_eq, o.entries, hq]
  rfl

/-- An operation on one slot that leaves its commands and its record. -/
theorem State.Stilled.of_onlyAt (o : s.OnlyAt i t) (ha : s.UpAlike t) (hk : s.Keeps t)
    (hq : t.admission.queue = []) (hp : (t.slot i).pass = (s.slot i).pass)
    (hr : (t.slot i).record = (s.slot i).record) : s.Stilled t := by
  have hother : ∀ j, j ≠ i → (t.slot j).pass = (s.slot j).pass ∧ (t.slot j).record = (s.slot j).record :=
    fun j hj => by
      rw [State.slot_pass, State.slot_record, o.others j hj]
      exact ⟨rfl, rfl⟩
  refine ⟨ha, hk, hq, fun j => ?_, fun j => ?_, fun b => by rw [o.bank]; exact ⟨rfl, rfl, id⟩⟩
  · by_cases hj : j = i
    · rw [hj, hp]
    · exact (hother j hj).1
  · by_cases hj : j = i
    · rw [hj, hr]
    · exact (hother j hj).2

/-- A lowering order for a slot without work hands nothing up and takes nothing of it (R7). -/
theorem State.Workless.orderDown (h : s.Workless) (i : SlotId) : s.Stilled (s.orderDown i) := by
  have o : s.OnlyAt i (s.orderDown i) := State.OnlyAt.rfl.orderDown
  have hk := (State.Keeps.rfl s).orderDown i
  rcases s.orderDown_cases i with ⟨hst, e⟩ | ⟨st, -, e⟩ | ⟨e, -, -⟩
  · obtain ⟨hhold, hflight, haborts, hdemand⟩ := h.pass i
    have hw := State.work_orderDown_idle hst hflight
    have hframes : s.offFrames i = [] := by
      rw [State.offFrames, haborts, hhold]
      split <;> rfl
    have hup := (State.UpAlike.rfl (s := s)).enterOff (i := i)
      (fun c hc => by simp [Passage.commands, hhold, hflight, haborts, flightByAge] at hc) hflight
    rw [hframes] at hup
    refine .of_onlyAt o ?_ hk (o.queue_of_empty h.queue (State.orderDown_idle_noEntry hst)) ?_ hw.record
    · rw [e]
      exact State.UpAlike.active hup i
    · refine hw.pass.trans ?_
      split
      · have ha : (s.work i).pass.aborts = [] := haborts
        rw [← ha]
        rfl
      · exact Passage.Empty.emptied (h.pass i)
  · have hw : (s.orderDown i).work i = (s.work i).enter s.profile s.now st false false := by
      rw [e, State.work_enter]
    refine .of_onlyAt o (by rw [e]; exact State.UpAlike.rfl.enter i st false false) hk
      (o.queue_of_empty h.queue (by rw [e]; exact s.enter_noEntry i st false false)) ?_ ?_
    · rw [State.slot_pass, hw]; rfl
    · rw [State.slot_record, hw]; rfl
  · rw [e]
    exact h.stilled

theorem State.Workless.clearMark (h : s.Workless) (b : BankId) :
    s.Stilled (s.modBank b fun k => { k with overdraw := false }) where
  alike := ⟨rfl, fun _ => rfl, fun _ => rfl, rfl, rfl, rfl, rfl⟩
  keeps := (State.Keeps.rfl s).modBank b _
  queue := h.queue
  pass _ := rfl
  record _ := rfl
  bank d := by
    by_cases hd : d = b
    · subst hd
      rw [State.bank_modBank_self]
      exact ⟨rfl, rfl, fun e => by cases e⟩
    · rw [State.bank_modBank_ne _ _ hd]
      exact ⟨rfl, rfl, id⟩

/-- A report of a slot without work changes nothing of it (R29, R108). -/
theorem State.Workless.modPass (h : s.Workless) (i : SlotId) {f : Passage → Passage}
    (hf : f (s.slot i).pass = (s.slot i).pass) : s.Stilled (s.modPass i f) := by
  have hw := State.slot_modSlot_self s i (fun x => { x with pass := f x.pass })
  refine .of_onlyAt (State.OnlyAt.rfl.modPass f) (State.UpAlike.rfl.modPass i f) ((State.Keeps.rfl s).modPass i f)
    h.queue ?_ ?_
  · rw [State.modPass, hw]; exact hf
  · rw [State.modPass, hw]

theorem State.Workless.compare (h : s.Workless) (i : SlotId) : s.Stilled (s.compare i) := by
  have hw : s.compare i = s.withdraw i := by
    obtain ⟨-, -, -, hdemand⟩ := h.pass i
    unfold State.compare
    split
    · rfl
    · rw [hdemand]
      exact if_neg (Nat.not_lt_zero _)
  rw [hw]
  exact ⟨State.UpAlike.rfl.withdraw i, (State.Keeps.rfl s).withdraw i,
    by
      change s.admission.queue.filter _ = []
      rw [h.queue]
      rfl,
    fun _ => rfl, fun _ => rfl, fun _ => ⟨rfl, rfl, id⟩⟩

/-- In a state without work the reactions do no more than give orders. -/
theorem State.Workless.closed (hs : s.Workless) : State.Closed (State.Stilled s) where
  scan {t} h := by
    rw [State.scan_of_empty h.queue]
    exact h
  orderDown i h := h.trans ((h.workless hs).orderDown i)
  clearMark b h := h.trans ((h.workless hs).clearMark b)
  compare i h := h.trans ((h.workless hs).compare i)
  reportDemand {t} i h := by
    obtain ⟨hhold, -, -, hdemand⟩ := (h.workless hs).pass i
    have hnone : demandOf (t.slot i).pass.hold = (t.slot i).pass.demand := by rw [hhold, hdemand]; rfl
    refine h.trans ((h.workless hs).modPass i ?_)
    rw [hnone]
  forwardHeld {t} i e hne h := absurd ((h.workless hs).pass i).1 hne
  finishHeld {t} i e hne h := absurd ((h.workless hs).pass i).1 hne
  beginHead {t} i h := by
    have hhold := ((h.workless hs).pass i).1
    refine h.trans ((h.workless hs).modPass i ?_)
    simp only [hhold]
    rw [← hhold]

end workless

/-! ## A shed where no slot has work -/

section sheds

variable {s t u : State} {i j : SlotId} {b d : BankId}

/-- From s to t, bank b shed, a mark that its sum then no longer asks for cleared, and nothing else. -/
structure State.ShedOf (s : State) (b : BankId) (t : State) : Prop where
  stilled : s.Stilled t
  ordered : (s.bank b).overdraw = true → s.ShedTo b t
  clear : (s.bank b).overdraw = false → t = s
  mark : (t.bank b).overdraw = ((s.bank b).overdraw && decide ((s.bank b).budget < t.bankSum b))
  other : ∀ d, d ≠ b → t.bank d = s.bank d

theorem State.shedRounds_bank (n : Nat) (b d : BankId) (s : State) : (State.shedRounds n b s).bank d = s.bank d := by
  induction n generalizing s with
  | zero => rfl
  | succ n ih =>
    unfold State.shedRounds
    split
    · split
      · rfl
      · exact (ih _).trans (State.OnlyAt.bank State.OnlyAt.rfl.orderDown d)
    · rfl

/-- Where no entry waits, the clearing of a mark is all that a fall of the sum brings (R45). -/
theorem State.clearIfFits_of_empty (hq : s.admission.queue = []) :
    (∀ j, (s.clearIfFits b).work j = s.work j)
      ∧ ((s.clearIfFits b).bank b).overdraw = ((s.bank b).overdraw && decide ((s.bank b).budget < s.bankSum b))
      ∧ ((s.clearIfFits b).bankSum b = s.bankSum b)
      ∧ ∀ d, d ≠ b → (s.clearIfFits b).bank d = s.bank d := by
  unfold State.clearIfFits
  split
  · next h =>
    rw [Bool.and_eq_true, decide_eq_true_iff] at h
    rw [State.scan_of_empty (s := s.modBank b _) hq]
    refine ⟨fun _ => rfl, ?_, rfl, fun d hd => State.bank_modBank_ne _ _ hd⟩
    rw [State.bank_modBank_self, decide_eq_false (by omega), Bool.and_false]
  · next h =>
    refine ⟨fun _ => rfl, ?_, rfl, fun _ _ => rfl⟩
    cases ho : (s.bank b).overdraw with
    | false => rfl
    | true =>
      rw [ho, Bool.true_and, decide_eq_true_iff] at h
      rw [decide_eq_true (by omega)]
      rfl

theorem State.Workless.shedOf (h : s.Workless) (b : BankId) : s.ShedOf b (s.shed b) := by
  have hstill := h.closed.shed b h.stilled
  cases ho : (s.bank b).overdraw with
  | false =>
    have he := State.shed_of_clear (s := s) ho
    refine ⟨hstill, fun e => ?_, fun _ => he, ?_, fun d _ => by rw [he]⟩
    · rw [ho] at e; cases e
    · rw [he, ho]; rfl
  | true =>
    have he : s.shed b = (State.shedRounds 10 b s).clearIfFits b := by
      rw [State.shed, ho, if_pos rfl]
    have hrounds := (h.closed.shedRounds 10 b h.stilled).queue
    obtain ⟨hw, hm, hsum, hd⟩ := State.clearIfFits_of_empty (b := b) hrounds
    have hbank := State.shedRounds_bank 10 b b s
    rw [← he] at hw hm hsum hd
    rw [hbank] at hm
    refine ⟨hstill, fun _ j => ?_, fun e => ?_, ?_, fun d hne => ?_⟩
    · rw [hw]
      exact State.shedRounds_shedTo 10 (s.candidates_card b) j
    · rw [ho] at e; cases e
    · rw [hm, hsum]
    · exact (hd d hne).trans (State.shedRounds_bank 10 b d s)

/-- An ordered slot counts for no bank but its own. -/
theorem Slot.Ordered.other {p : Profile} {m : SlotMap} {x y : Slot} (h : x.Ordered p m y)
    (hst : x.ctx.state = .spun ∨ x.ctx.state = .idle) (hd : x.ctx.map.bank ≠ d) :
    (y.ctx.map.bank = d → y.charge = 0) := by
  rcases hst with hst | hst
  · intro e
    rw [(h.spun hst).1] at e
    exact absurd e hd
  · exact fun _ => h.idle (by rw [hst]; exact SlotSt.noConfusion)

/-- A slot that stands as it did, or went down from one bank, is the same to the sums and the candidates of the
other. -/
theorem State.otherBank_of_cases (hd : d ≠ b) (hp : t.profile = s.profile)
    (h : t.work j = s.work j
      ∨ (s.ShedCandidate b j ∧ (s.work j).Ordered s.profile (s.profile.slots[j]) (t.work j))) :
    t.projShare d j = s.projShare d j ∧ t.share d j = s.share d j
      ∧ (t.ShedCandidate d j ↔ s.ShedCandidate d j) ∧ (s.ShedCandidate d j → t.work j = s.work j) := by
  rcases h with hw | ⟨hc, hord⟩
  · refine ⟨State.projShare_of_work hw hp, ?_, State.shedCandidate_of_work hw, fun _ => hw⟩
    change (if (t.work j).ctx.map.bank = d then (t.work j).charge else 0) = _
    rw [hw]
    rfl
  · have hne : (s.work j).ctx.map.bank ≠ d := fun e => hd (e.symm.trans hc.1)
    have hzero := hord.other (d := d) hc.2.1 hne
    have hnot : ¬ s.ShedCandidate d j := fun hcd => hd (hcd.1.symm.trans hc.1)
    refine ⟨?_, ?_, ⟨fun hct => ?_, fun hcs => absurd hcs hnot⟩, fun hcs => absurd hcs hnot⟩
    · unfold State.projShare Slot.projShare
      rw [if_neg hne]
      split
      · next e => rw [hzero e]; split <;> simp
      · rfl
    · change (if (t.work j).ctx.map.bank = d then (t.work j).charge else 0)
        = (if (s.work j).ctx.map.bank = d then (s.work j).charge else 0)
      rw [if_neg hne]
      split
      · next e => exact hzero e
      · rfl
    · exact absurd hct.2.1 (by
        rw [not_or]
        exact hord.not_candidate)

theorem State.ShedTo.cases (h : s.ShedTo b t) (j : SlotId) :
    t.work j = s.work j ∨ (s.ShedCandidate b j ∧ (s.work j).Ordered s.profile (s.profile.slots[j]) (t.work j)) := by
  obtain ⟨h1, h2⟩ := h j
  by_cases hc : s.ShedCandidate b j ∧ s.ShedReaches b (s.bank b).budget j
  · exact .inr ⟨hc.1, h1 hc⟩
  · exact .inl (h2 hc)

/-- A slot stands as it did, or was a candidate of the bank that shed and was given its order. -/
theorem State.ShedOf.cases (h : s.ShedOf b t) (j : SlotId) :
    t.work j = s.work j ∨ (s.ShedCandidate b j ∧ (s.work j).Ordered s.profile (s.profile.slots[j]) (t.work j)) := by
  cases ho : (s.bank b).overdraw with
  | false => rw [h.clear ho]; exact .inl rfl
  | true => exact (h.ordered ho).cases j

/-- A shed of one bank is nothing to the sums and the candidates of the other. -/
theorem State.ShedOf.otherBank (h : s.ShedOf b t) (hd : d ≠ b) (j : SlotId) :
    t.projShare d j = s.projShare d j ∧ t.share d j = s.share d j
      ∧ (t.ShedCandidate d j ↔ s.ShedCandidate d j) ∧ (s.ShedCandidate d j → t.work j = s.work j) :=
  State.otherBank_of_cases hd h.stilled.keeps.profile (h.cases j)

/-! ## What a shed reads -/

/-- What a shed reads of a slot. -/
def Slot.shedView (x : Slot) : SlotSt × SlotMap × Nat × Nat :=
  (x.ctx.state, x.ctx.map, x.ctx.lastActivity, x.charge)

theorem State.shedReaches_congr {n : Nat} (hc : ∀ k, t.ShedCandidate b k ↔ s.ShedCandidate b k)
    (hv : ∀ k, s.ShedCandidate b k → (t.slot k).shedView = (s.slot k).shedView) (hp : t.profile = s.profile)
    (hs : ∀ k, t.projShare b k = s.projShare b k) (hj : s.ShedCandidate b j) :
    t.ShedReaches b n j ↔ s.ShedReaches b n j := by
  have hgain : ∀ k, t.gainAt b j k = s.gainAt b j k := fun k => by
    by_cases hk : s.ShedCandidate b k
    · have hvk := hv k hk
      have hvj := hv j hj
      simp only [Slot.shedView, Prod.mk.injEq] at hvk hvj
      obtain ⟨k1, k2, k3, k4⟩ := hvk
      obtain ⟨j1, -, j3, -⟩ := hvj
      have hgain : t.shedGain k = s.shedGain k := by
        have hclass : (t.slot k).classIn t.profile = (s.slot k).classIn s.profile := by
          rw [hp]
          exact Slot.classIn_congr _ k2
        simp only [State.shedGain, hclass, k1, k4]
      simp only [State.gainAt, hc k, hgain, State.RanksBefore, k1, k3, j1, j3]
    · rw [State.gainAt_none fun h => hk ((hc k).mp h.1), State.gainAt_none fun h => hk h.1]
  rw [t.shedReaches_iff, s.shedReaches_iff]
  simp only [State.gainBefore, hgain, hs]

end sheds

end Sys2Proof.Machine
end

section
/-! PROOFS. The statement of a LINK_RESET. -/

namespace Sys2Proof.Machine

section linkReset

variable {s t u : State} {i j : SlotId} {b d : BankId}

/-! ## The emptied slots -/

theorem Slot.linkReset_ctx (p : Profile) (n : Nat) (x : Slot) :
    (x.linkReset p n).ctx
      = { x.ctx with
          faultAck := x.ctx.faultAck || x.ctx.state == .fault
          idleTimer := (x.linkReset p n).idleFrom p n x.ctx.state } := by
  unfold Slot.linkReset
  rw [Slot.touchIdle_ctx]
  rfl

theorem Port.linkReset_cancelPending (p : Port) : p.linkReset.cancelPending = true := by
  unfold Port.linkReset
  split
  · next h => exact h
  · rw [Port.handControl_cancelPending]

theorem Slot.linkReset_fence (p : Profile) (n : Nat) (x : Slot) :
    (x.linkReset p n).fence = x.ctx.state.powered := by
  change (x.ctx.state.powered && (if x.ctx.state.powered then x.port.linkReset else x.port).cancelPending) = _
  cases h : x.ctx.state.powered with
  | false => rfl
  | true =>
    rw [if_pos rfl, Port.linkReset_cancelPending]
    rfl

theorem Slot.linkReset_port (p : Profile) (n : Nat) (x : Slot) :
    (x.linkReset p n).port
      = if !x.ctx.state.powered then x.port
        else if x.port.cancelPending then { x.port with command := [], data := [] }
        else Port.handControl .cancelAll
          { x.port with command := [], data := [], cancelPending := true, cancelMiss := 0 } := by
  change (if x.ctx.state.powered then x.port.linkReset else x.port) = _
  cases x.ctx.state.powered <;> rfl

theorem State.linkEmptied_workless (s : State) : s.linkEmptied.Workless :=
  ⟨rfl, fun i => by
    rw [State.linkEmptied_slot]
    exact ⟨rfl, rfl, rfl, rfl⟩⟩

/-- What a shed reads of a slot, a LINK_RESET leaves. -/
theorem State.linkEmptied_view (s : State) (i : SlotId) :
    (s.linkEmptied.slot i).shedView = (s.slot i).shedView := by
  rw [State.linkEmptied_slot]
  rfl

/-- The state of which the claims ask what a shed reaches: every passage emptied. -/
def State.unworked (s : State) : State :=
  { s with slots := s.slots.map (fun x => { x with pass := x.pass.emptied }) }

theorem State.unworked_slot (s : State) (i : SlotId) :
    s.unworked.slot i = { s.slot i with pass := (s.slot i).pass.emptied } := by
  simp [State.unworked, State.slot]

theorem State.linkEmptied_candidate (s : State) (b : BankId) (j : SlotId) :
    s.linkEmptied.ShedCandidate b j ↔ s.unworked.ShedCandidate b j := by
  unfold State.ShedCandidate
  rw [State.linkEmptied_slot, State.unworked_slot]
  exact Iff.rfl

theorem State.linkEmptied_reaches {n : Nat} (hj : s.unworked.ShedCandidate b j) :
    s.linkEmptied.ShedReaches b n j ↔ s.unworked.ShedReaches b n j := by
  refine State.shedReaches_congr (fun k => s.linkEmptied_candidate b k) (fun k _ => ?_) rfl (fun k => ?_) hj
  · rw [State.linkEmptied_view, State.unworked_slot]
    rfl
  · change (s.linkEmptied.slot k).projShare _ b = (s.unworked.slot k).projShare _ b
    rw [State.linkEmptied_slot, State.unworked_slot]
    rfl

/-! ## Both banks -/

/-- The sheds of both banks of a state without work: each gives its own candidates their orders (R48, R51). -/
theorem State.Workless.shed_both (h : s.Workless) (b : BankId) :
    (((s.shed 0).shed 1).bank b).overdraw
        = ((s.bank b).overdraw && decide ((s.bank b).budget < ((s.shed 0).shed 1).bankSum b))
      ∧ ∀ j, (s.slot j).ctx.map.bank = b →
        ((s.bank b).overdraw = true ∧ s.ShedCandidate b j ∧ s.ShedReaches b (s.bank b).budget j →
          (s.work j).Ordered s.profile (s.profile.slots[j]) (((s.shed 0).shed 1).work j))
        ∧ (¬ ((s.bank b).overdraw = true ∧ s.ShedCandidate b j ∧ s.ShedReaches b (s.bank b).budget j) →
          ((s.shed 0).shed 1).work j = s.work j) := by
  have h0 := h.shedOf 0
  have h1 := (h0.stilled.workless h).shedOf 1
  generalize s.shed 0 = u at *
  generalize u.shed 1 = t at *
  have hprof := h0.stilled.keeps.profile
  have hown : ∀ {v w : State} {c : BankId}, v.ShedOf c w → ∀ j,
      ((v.bank c).overdraw = true ∧ v.ShedCandidate c j ∧ v.ShedReaches c (v.bank c).budget j →
        (v.work j).Ordered v.profile (v.profile.slots[j]) (w.work j))
      ∧ (¬ ((v.bank c).overdraw = true ∧ v.ShedCandidate c j ∧ v.ShedReaches c (v.bank c).budget j) →
        w.work j = v.work j) := fun {v w c} hv j => by
    cases ho : (v.bank c).overdraw with
    | false =>
      refine ⟨fun hc => absurd hc.1 Bool.false_ne_true, fun _ => ?_⟩
      rw [hv.clear ho]
    | true => exact ⟨fun hc => (hv.ordered ho j).1 hc.2, fun hn => (hv.ordered ho j).2 fun hc => hn ⟨rfl, hc⟩⟩
  have hsum : ∀ {v w : State} {c e : BankId}, v.ShedOf c w → e ≠ c → w.bankSum e = v.bankSum e :=
    fun {v w c e} hv he => by
      rw [State.bankSum_eq, State.bankSum_eq]
      exact Finset.sum_congr rfl fun k _ => (hv.otherBank he k).2.1
  have hcase : b = 0 ∨ b = 1 := by fin_cases b <;> simp
  rcases hcase with rfl | rfl
  · refine ⟨?_, fun j hj => ?_⟩
    · rw [h1.other 0 (by decide), h0.mark, hsum h1 (by decide)]
    · have hstay : t.work j = u.work j := by
        rcases h1.cases j with hw | ⟨hc, -⟩
        · exact hw
        · have hbank := ((h0.otherBank (d := 1) (by decide) j).2.2.1.mp hc).1
          rw [hj] at hbank
          exact absurd hbank (by decide)
      rw [hstay]
      exact hown h0 j
  · have hbank : u.bank 1 = s.bank 1 := h0.other 1 (by decide)
    refine ⟨by rw [h1.mark, hbank], fun j hj => ?_⟩
    have hstay : u.work j = s.work j := by
      rcases h0.cases j with hw | ⟨hc, -⟩
      · exact hw
      · exact absurd (hj.symm.trans hc.1) (by decide)
    have hiff : u.ShedCandidate 1 j ∧ u.ShedReaches 1 (u.bank 1).budget j
        ↔ s.ShedCandidate 1 j ∧ s.ShedReaches 1 (s.bank 1).budget j := by
      rw [(h0.otherBank (d := 1) (by decide) j).2.2.1, hbank]
      refine and_congr_right fun hc => State.shedReaches_congr
        (fun k => (h0.otherBank (d := 1) (by decide) k).2.2.1) (fun k hk => ?_) hprof
        (fun k => (h0.otherBank (d := 1) (by decide) k).1) hc
      change (u.work k).shedView = (s.work k).shedView
      rw [(h0.otherBank (d := 1) (by decide) k).2.2.2 hk]
    have hj1 := hown h1 j
    rw [hiff, hstay, hbank, hprof] at hj1
    exact hj1

/-! ## The whole -/

theorem State.testAll_of_no_phase (h : s.park.lowering = false) : s.testAll = s := by
  refine State.Closed.foldl (P := fun t => t = s) (fun {t} i e => ?_) allSlots rfl
  rw [e, State.testSlot, h]
  rfl

theorem State.linkResetTaken_stilled (s : State) : s.linkEmptied.Stilled s.linkResetTaken := by
  have hw := s.linkEmptied_workless
  rw [State.linkResetTaken_eq]
  exact hw.closed.shed 1 (hw.closed.shed 0 (hw.closed.testAll hw.stilled))

theorem exec_linkReset (h : s.CtrlReady) : exec .linkReset s = .next s.linkResetTaken :=
  congrArg Host.Outcome.next (State.arriveLinkReset_ready h)

end linkReset

/-- Settles O6: the emptied state has no work, so that the tests and the sheds do no more than give orders. -/
theorem linkResetEmptiesTheCommands : Obligations.LinkResetEmptiesTheCommands := by
  unfold Obligations.LinkResetEmptiesTheCommands
  intro s hr
  have hs := s.linkResetTaken_stilled
  have hslot : ∀ i, s.linkEmptied.slot i = (s.slot i).linkReset s.profile s.now := s.linkEmptied_slot
  have hwork := s.linkEmptied_workless
  have htaken : s.park.lowering = false → s.linkResetTaken = (s.linkEmptied.shed 0).shed 1 := fun h => by
    rw [State.linkResetTaken_eq, State.testAll_of_no_phase (s := s.linkEmptied) h]
  have hnotice : ∀ i, (s.linkResetTaken.slot i).notice = false := fun i => by
    rw [hs.alike.notice, hslot]; rfl
  refine ⟨s.linkResetTaken, exec_linkReset hr, fun i => ⟨?_, ?_, ?_, hnotice i⟩, hs.alike.ctrl, hs.queue, ?_,
    hs.keeps.rest, hs.keeps.now, hs.keeps.dock, hs.keeps.dockDebounce, hs.bank, fun hp => ?_, fun ho hp => ?_⟩
  · have hup : (s.linkResetTaken.slot i).upstream = (s.linkEmptied.slot i).upstream := hs.alike.up i
    rw [hup, hslot, Slot.linkReset_upstream]
  · rw [hs.pass, hslot]; rfl
  · rw [hs.record, hslot]; rfl
  · rw [State.noticeLine, State.anySlotNotice, hs.alike.ctrl]
    change (_ || false) = false
    rw [Bool.or_false, List.any_eq_false]
    intro x hx
    obtain ⟨n, hn, rfl⟩ := List.getElem_of_mem hx
    have hn' : n < 10 := by simpa using hn
    simpa [State.slot] using hnotice ⟨n, hn'⟩
  · rw [htaken hp]
    intro w b
    have hboth := hwork.shed_both b
    have hbudget := ((hwork.closed.shed 1 (hwork.closed.shed 0 hwork.stilled)).bank b).1
    generalize (s.linkEmptied.shed 0).shed 1 = t at *
    obtain ⟨hmark, hslots⟩ := hboth
    refine ⟨by rw [hbudget]; exact hmark, fun j hj => ?_⟩
    intro shed
    have hbank : (s.linkEmptied.slot j).ctx.map.bank = b := by rw [hslot]; exact hj
    have hstate : (s.linkEmptied.slot j).ctx.state = (s.slot j).ctx.state := by rw [hslot]; rfl
    have hiff : shed ↔ ((s.linkEmptied.bank b).overdraw = true ∧ s.linkEmptied.ShedCandidate b j
        ∧ s.linkEmptied.ShedReaches b (s.linkEmptied.bank b).budget j) := by
      change ((s.bank b).overdraw = true ∧ s.unworked.ShedCandidate b j ∧ (s.bank b).budget < s.bankSum b
          ∧ s.unworked.ShedReaches b (s.bank b).budget j)
        ↔ ((s.bank b).overdraw = true ∧ s.linkEmptied.ShedCandidate b j
          ∧ s.linkEmptied.ShedReaches b (s.bank b).budget j)
      rw [s.linkEmptied_candidate]
      refine and_congr_right fun _ => and_congr_right fun hc => ?_
      rw [State.linkEmptied_reaches hc]
      refine ⟨And.right, fun hreach => ⟨?_, hreach⟩⟩
      have hle : s.projectedSum b ≤ s.bankSum b := by rw [State.projectedSum]; exact Nat.sub_le _ _
      have hproj : s.unworked.projectedSum b = s.projectedSum b := by
        rw [State.projectedSum_eq, State.projectedSum_eq]
        refine Finset.sum_congr rfl fun k _ => ?_
        change (s.unworked.slot k).projShare _ b = (s.slot k).projShare _ b
        rw [State.unworked_slot]
        rfl
      rw [State.shedReaches_iff, ← State.projectedSum_eq, hproj] at hreach
      omega
    obtain ⟨h1, h2⟩ := hslots j hbank
    rw [hiff]
    refine ⟨fun hshed => ?_, fun hshed => ?_⟩
    · have hord := (h1 hshed).state
      change (t.slot j).ctx.state = if (s.linkEmptied.slot j).ctx.state = .spun then _ else _ at hord
      rwa [hstate] at hord
    · have hw := h2 hshed
      rw [State.slot_ctx, State.slot_charge, hw]
      change (s.linkEmptied.slot j).ctx.state = _ ∧ (s.linkEmptied.slot j).charge = _
      rw [hslot]
      exact ⟨rfl, rfl⟩
  · have hclear : s.linkResetTaken = s.linkEmptied := by
      rw [htaken hp, State.shed_of_clear (s := s.linkEmptied) (ho 0), State.shed_of_clear (s := s.linkEmptied) (ho 1)]
    rw [hclear]
    refine ⟨rfl, fun i => ?_⟩
    rw [hslot]
    exact ⟨Slot.linkReset_ctx _ _ _, rfl, rfl, Slot.linkReset_fence _ _ _, Slot.linkReset_port _ _ _⟩

end Sys2Proof.Machine
end

section
/-! PROOFS. What is kept while a profile takes effect at park control and the admission unit. -/

namespace Sys2Proof.Machine

/-! ## Properties that a profile's taking effect keeps -/

/-- A profile in force takes effect at park control and the admission unit, once it was offered to the slots (R93,
R169 steps 3 and 4). -/
def State.enforced (s : State) : State := (s.parkProfile.modLoader Loader.ended).selectBudgets

theorem State.takeEffect_eq (s : State) : s.takeEffect = (allSlots.foldl State.offerMap s).enforced := rfl

/-- A property of the state that the sweep, the end of the read and the selection of a budget keep too. -/
structure State.Enforcing (P : State → Prop) : Prop extends State.Closed P where
  sweepAll : ∀ {s} i, (s.slot i).pass.hold ≠ [] → P s → P (State.sweepAll i (s.swept i) s)
  ended : ∀ {s}, P s → P (s.modLoader Loader.ended)
  selectBudget : ∀ {s} b, P s → P (s.selectBudget b)

section enforcing

variable {P : State → Prop} {s : State}

theorem State.swept_hold {i : SlotId} (h : ¬ (s.swept i).isEmpty = true) : (s.slot i).pass.hold ≠ [] := by
  intro hnil
  refine h ?_
  rw [State.swept, hnil]
  rfl

theorem State.Enforcing.sweepSlot (c : State.Enforcing P) (i : SlotId) (h : P s) : P (s.sweepSlot i) := by
  unfold State.sweepSlot
  split
  · exact h
  · next hs => exact c.settleEnd i (c.reportAndServe i (c.sweepAll i (State.swept_hold hs) h))

theorem State.Enforcing.parkProfile (c : State.Enforcing P) (h : P s) : P s.parkProfile := by
  unfold State.parkProfile
  split
  · exact c.testAll (State.Closed.foldl (fun i => c.sweepSlot i) allSlots h)
  · exact h

theorem State.Enforcing.selectBudgets (c : State.Enforcing P) (h : P s) : P s.selectBudgets :=
  c.scan (c.shed 1 (c.shed 0 (c.selectBudget 1 (c.selectBudget 0 h))))

theorem State.Enforcing.enforced (c : State.Enforcing P) (h : P s) : P s.enforced :=
  c.selectBudgets (c.ended (c.parkProfile h))

end enforcing

/-- A property that each sweep of an entry keeps, the sweep of all of a slot's keeps (R88). -/
theorem State.sweepAll_keeps {P : State → Prop} {i : SlotId} (h : ∀ {s} e, P s → P (s.sweepEntry i e))
    (l : List HoldEntry) {s : State} (hs : P s) : P (State.sweepAll i l s) := by
  induction l generalizing s with
  | nil => exact hs
  | cons e rest ih => exact ih (h e hs)

/-- The induction along a scan: an entry is passed over, or granted where it is permitted, out of OVERDRAW and
fits (R39). -/
theorem State.scanOver_induct {P : List AdmEntry → State → Prop}
    (hskip : ∀ {e rest s}, P (e :: rest) s → P rest s)
    (hgrant : ∀ {e rest s}, P (e :: rest) s → s.permits e.kind = true → (s.bank e.bank).overdraw = false →
      s.fits e = true → P rest (s.grant e))
    (q : List AdmEntry) (m : Marks) {s : State} (h : P q s) : P [] (State.scanOver q m s) := by
  induction q generalizing m s with
  | nil => exact h
  | cons e rest ih =>
    unfold State.scanOver
    split
    · exact ih _ (hskip h)
    next hp =>
    split
    · exact ih _ (hskip h)
    split
    · exact ih _ (hskip h)
    next ho =>
    split
    · exact ih _ (hskip h)
    next hf =>
    split
    · exact ih _ (hskip h)
    · exact ih _ (hgrant h (by simpa using hp) (by simpa using ho) (by simpa using hf))

/-! ## Properties of the state and the map of a slot -/

section stateMap

variable {i j : SlotId} {p : Profile} {Q : SlotSt → SlotMap → Prop} {s t : State}

/-- A profile is in force, and the state and the map of slot i are as asked. -/
def State.HasAt (i : SlotId) (p : Profile) (Q : SlotSt → SlotMap → Prop) (s : State) : Prop :=
  s.profile = p ∧ Q (s.work i).ctx.state (s.work i).ctx.map

/-- A property of state and map that grants and lowering orders keep, under a slot map entry (R5 to R7). -/
structure MapMoves (m : SlotMap) (Q : SlotSt → SlotMap → Prop) : Prop where
  raised : ∀ {st n} k, Q st n → Q (Kind.target k) n
  lowered : ∀ {st n}, Q st n → Q .unloading n ∧ Q .stopping n
  off : ∀ {n}, Q .idle n → Q (if m.enabled then .off else .empty) m

theorem State.HasAt.of_work (h : s.HasAt i p Q) (hp : t.profile = s.profile)
    (hs : (t.work i).ctx.state = (s.work i).ctx.state) (hm : (t.work i).ctx.map = (s.work i).ctx.map) :
    t.HasAt i p Q := ⟨hp.trans h.1, by rw [hs, hm]; exact h.2⟩

/-- An operation that leaves the state and the map of its slot. -/
theorem State.HasAt.of_onlyAt (h : s.HasAt i p Q) (o : s.OnlyAt j t)
    (hs : (t.work j).ctx.state = (s.work j).ctx.state) (hm : (t.work j).ctx.map = (s.work j).ctx.map) :
    t.HasAt i p Q := by
  by_cases hj : i = j
  · subst hj
    exact h.of_work o.profile hs hm
  · exact h.of_work o.profile (by rw [o.others i hj]) (by rw [o.others i hj])

theorem State.HasAt.scan (hq : MapMoves (p.slots[i]) Q) (h : s.HasAt i p Q) : s.scan.HasAt i p Q := by
  unfold State.scan
  split
  · exact h
  · refine State.scanOver_induct (P := fun _ t => t.HasAt i p Q) id (fun {e _ t} h _ _ _ => ?_) _ _ h
    have hk := (State.Keeps.rfl t).grant e
    by_cases he : i = e.slot
    · subst he
      refine ⟨hk.profile.trans h.1, ?_⟩
      rw [State.grant_work_self]
      exact hq.raised e.kind h.2
    · have hw := State.grant_work_ne t e he
      exact h.of_work hk.profile (by rw [hw]) (by rw [hw])

theorem State.HasAt.orderDown (hq : MapMoves (p.slots[i]) Q) (h : s.HasAt i p Q) (j : SlotId) :
    (s.orderDown j).HasAt i p Q := by
  have o : s.OnlyAt j (s.orderDown j) := State.OnlyAt.rfl.orderDown
  by_cases hj : i = j
  · subst hj
    obtain ⟨hp, h⟩ := h
    refine ⟨o.profile.trans hp, ?_⟩
    rcases s.orderDown_cases i with ⟨hst, e⟩ | ⟨st, hst, e⟩ | ⟨e, -, -⟩
    · have hst' : (s.work i).ctx.state = .idle := hst
      rw [hst'] at h
      have hoff := hq.off h
      rw [← hp] at hoff
      rw [e]
      cases he : (s.profile.slots[i]).enabled with
      | true =>
        rw [he] at hoff
        rw [State.work_active, State.work_enterOff_enabled he]
        exact hoff
      | false =>
        obtain ⟨a, hw⟩ := State.work_enterOff_disabled (s := s) (i := i) he
        rw [he] at hoff
        rw [State.work_active, hw]
        exact hoff
    · rw [e, State.work_enter]
      rcases hst with rfl | rfl
      · exact (hq.lowered h).1
      · exact (hq.lowered h).2
    · rw [e]
      exact h
  · exact h.of_work o.profile (by rw [o.others i hj]) (by rw [o.others i hj])

theorem State.sweepEntry_onlyAt (s : State) (i : SlotId) (e : HoldEntry) : s.OnlyAt i (s.sweepEntry i e) :=
  State.OnlyAt.rfl.sweepEntry e

theorem State.enforcing_hasAt (hq : MapMoves (p.slots[i]) Q) : State.Enforcing (State.HasAt i p Q) where
  scan h := h.scan hq
  orderDown j h := h.orderDown hq j
  clearMark _ h := h
  compare {s} j h := by
    rcases s.compare_cases j with e | e | ⟨k, -, e⟩ <;> rw [e]
    · exact h
    · exact h
    · exact State.HasAt.scan (s := s.setQueue _) hq h
  reportDemand {s} j h := h.of_onlyAt (State.OnlyAt.rfl (i := j)).reportDemand
    (by rw [State.work_report_demand]; rfl) (by rw [State.work_report_demand]; rfl)
  forwardHeld {s} j e _ h := by
    have hp := Slot.Passed.rfl.forwardedHeld (n := s.now) (x := s.work j) s.profile e
    exact h.of_onlyAt (State.OnlyAt.rfl (i := j).forwardHeld e)
      (by rw [State.work_forwardHeld]; exact hp.state) (by rw [State.work_forwardHeld]; exact hp.map)
  finishHeld {s} j e _ h := h.of_onlyAt (State.OnlyAt.rfl (i := j).finishHeld e)
    (by rw [State.work_finishHeld]; rfl) (by rw [State.work_finishHeld]; rfl)
  beginHead {s} j h := h.of_onlyAt (State.OnlyAt.rfl (i := j)).beginHead
    (by rw [State.work_beginHead]; rfl) (by rw [State.work_beginHead]; rfl)
  sweepAll {s} j _ h := State.sweepAll_keeps (P := State.HasAt i p Q) (fun {t} e h =>
    h.of_onlyAt (t.sweepEntry_onlyAt j e)
      (by rw [State.sweepEntry, State.work_completeSensed, State.work_modPass]; rfl)
      (by rw [State.sweepEntry, State.work_completeSensed, State.work_modPass]; rfl)) _ h
  ended h := h
  selectBudget _ h := h

/-- A slot under its entry of the profile stays under it (R5). -/
theorem MapMoves.taken (m : SlotMap) : MapMoves m fun _ n => n = m :=
  ⟨fun _ h => h, fun h => ⟨h, h⟩, fun _ => rfl⟩

/-- A slot that is powered and not IDLE takes no entry (R5). -/
theorem MapMoves.own (m n : SlotMap) :
    MapMoves m fun st k => k = n ∧ st ≠ .off ∧ st ≠ .empty ∧ st ≠ .fault ∧ st ≠ .idle where
  raised k h := ⟨h.1, by cases k <;> decide⟩
  lowered h := ⟨⟨h.1, by decide⟩, ⟨h.1, by decide⟩⟩
  off h := absurd rfl h.2.2.2.2

end stateMap

/-! ## Slots in FAULT and EMPTY -/

section down

variable {i j : SlotId} {st : SlotSt} {d : Option Nat} {s t : State}

/-- Slot i is in a state with a PRESENT debounce, and has no entry. -/
def State.DownAt (i : SlotId) (st : SlotSt) (d : Option Nat) (s : State) : Prop :=
  ((s.work i).ctx.state = st ∧ (s.work i).ctx.presentDebounce = d) ∧ s.NoEntry i

theorem State.DownAt.of_work (h : s.DownAt i st d) (hs : (t.work i).ctx.state = (s.work i).ctx.state)
    (hd : (t.work i).ctx.presentDebounce = (s.work i).ctx.presentDebounce)
    (hq : ∀ e ∈ t.admission.queue, e.slot = i → e ∈ s.admission.queue) : t.DownAt i st d :=
  ⟨⟨hs.trans h.1.1, hd.trans h.1.2⟩, fun e he hi => h.2 e (hq e he hi) hi⟩

theorem State.DownAt.of_onlyAt (h : s.DownAt i st d) (o : s.OnlyAt j t)
    (hs : (t.work j).ctx.state = (s.work j).ctx.state)
    (hd : (t.work j).ctx.presentDebounce = (s.work j).ctx.presentDebounce)
    (hq : t.admission.queue = s.admission.queue) : t.DownAt i st d := by
  by_cases hj : i = j
  · subst hj
    exact h.of_work hs hd fun e he _ => by rwa [hq] at he
  · exact h.of_work (by rw [o.others i hj]) (by rw [o.others i hj]) fun e he _ => by rwa [hq] at he

/-- The entries of slot i after an operation on another slot. -/
theorem State.OnlyAt.mem_queue (o : s.OnlyAt j t) (hj : i ≠ j) {e : AdmEntry} (he : e ∈ t.admission.queue)
    (hi : e.slot = i) : e ∈ s.admission.queue := by
  have hmem : e ∈ t.admission.queue.filter (fun e => e.slot != j) := List.mem_filter.mpr ⟨he, by simp [hi, hj]⟩
  rw [o.entries] at hmem
  exact (List.mem_filter.mp hmem).1

theorem State.DownAt.of_other (h : s.DownAt i st d) (o : s.OnlyAt j t) (hj : i ≠ j) : t.DownAt i st d :=
  h.of_work (by rw [o.others i hj]) (by rw [o.others i hj]) fun _ he hi => o.mem_queue hj he hi

theorem State.DownAt.scan (h : s.DownAt i st d) : s.scan.DownAt i st d := by
  unfold State.scan
  split
  · exact h
  · have hind := State.scanOver_induct (P := fun q t => (∀ e ∈ q, e.slot ≠ i) ∧ t.DownAt i st d)
      (fun h => ⟨fun e he => h.1 e (List.mem_cons_of_mem _ he), h.2⟩)
      (fun {e rest t} h _ _ _ => by
        have hne : i ≠ e.slot := fun he => h.1 e List.mem_cons_self he.symm
        refine ⟨fun f hf => h.1 f (List.mem_cons_of_mem _ hf), h.2.of_work ?_ ?_ fun f hf _ => ?_⟩
        · rw [State.grant_work_ne t e hne]
        · rw [State.grant_work_ne t e hne]
        · rw [State.grant_queue] at hf
          exact (List.mem_filter.mp hf).1) s.admission.queue Marks.start (s := s) ⟨h.2, h⟩
    exact hind.2

theorem State.enforcing_downAt (i : SlotId) (hst : st = .fault ∨ st = .empty) (d : Option Nat) :
    State.Enforcing (State.DownAt i st d) where
  scan h := h.scan
  orderDown {s} j h := by
    by_cases hj : i = j
    · subst hj
      have he : s.orderDown i = s := by
        have hs : (s.slot i).ctx.state = st := h.1.1
        unfold State.orderDown
        rw [hs]
        rcases hst with rfl | rfl <;> rfl
      rw [he]
      exact h
    · exact h.of_other State.OnlyAt.rfl.orderDown hj
  clearMark _ h := h
  compare {s} j h := by
    rcases s.compare_cases j with e | e | ⟨k, hk, e⟩ <;> rw [e]
    · exact h.of_work rfl rfl fun _ he _ => (List.mem_filter.mp he).1
    · exact h
    · refine State.DownAt.scan (s := s.setQueue _) (h.of_work rfl rfl fun f hf hi => ?_)
      rcases List.mem_append.mp hf with hf | hf
      · exact hf
      · rw [List.mem_singleton] at hf
        subst hf
        have hs : (s.slot j).ctx.state = st := by
          have : j = i := hi
          rw [this]
          exact h.1.1
        rw [hs] at hk
        rcases hst with rfl | rfl <;> cases hk
  reportDemand {s} j h := h.of_onlyAt (State.OnlyAt.rfl (i := j)).reportDemand
    (by rw [State.work_report_demand]; rfl) (by rw [State.work_report_demand]; rfl) rfl
  forwardHeld {s} j e _ h := by
    obtain ⟨f, g, m, hx⟩ := Slot.forwardedHeld_eq s.profile s.now e (s.work j)
    exact h.of_onlyAt (State.OnlyAt.rfl (i := j).forwardHeld e)
      (by rw [State.work_forwardHeld, hx]; rfl) (by rw [State.work_forwardHeld, hx]; rfl) (by simp)
  finishHeld {s} j e _ h := h.of_onlyAt (State.OnlyAt.rfl (i := j).finishHeld e)
    (by rw [State.work_finishHeld]; rfl) (by rw [State.work_finishHeld]; rfl) (by simp)
  beginHead {s} j h := h.of_onlyAt (State.OnlyAt.rfl (i := j)).beginHead
    (by rw [State.work_beginHead]; rfl) (by rw [State.work_beginHead]; rfl) rfl
  sweepAll {s} j _ h := State.sweepAll_keeps (P := State.DownAt i st d) (fun {t} e h =>
    h.of_onlyAt (t.sweepEntry_onlyAt j e)
      (by rw [State.sweepEntry, State.work_completeSensed, State.work_modPass]; rfl)
      (by rw [State.sweepEntry, State.work_completeSensed, State.work_modPass]; rfl)
      (by simp [State.sweepEntry])) _ h
  ended h := h
  selectBudget _ h := h

end down

end Sys2Proof.Machine
end

section
/-! PROOFS. The admission queue in order, and the marks of OVERDRAW where a budget is selected. -/

namespace Sys2Proof.Machine

/-! ## The admission queue -/

section queue

variable {i j : SlotId} {s t : State}

theorem State.EntryOk.of_work {e : AdmEntry} (h : s.EntryOk e)
    (hs : (t.work e.slot).ctx.state = (s.work e.slot).ctx.state)
    (hm : (t.work e.slot).ctx.map = (s.work e.slot).ctx.map) : t.EntryOk e :=
  ⟨hs.trans h.1, h.2.trans (congrArg SlotMap.bank hm.symm)⟩

/-- An operation on one slot leaves its entries out, and those of the others stand. -/
theorem State.QueueOk.of_noEntry (h : s.QueueOk) (o : s.OnlyAt i t) (hn : t.NoEntry i) : t.QueueOk := by
  refine ⟨fun e he => ?_, ?_⟩
  · have hne : e.slot ≠ i := hn e he
    refine (h.1 e (o.mem_queue hne he rfl)).of_work ?_ ?_ <;> rw [o.others _ hne]
  · rw [← hn.filter_eq, o.entries]
    exact h.2.sublist (List.filter_sublist.map _)

/-- An operation on one slot that leaves its state, its map and the queue. -/
theorem State.QueueOk.of_onlyAt (h : s.QueueOk) (o : s.OnlyAt i t)
    (hs : (t.work i).ctx.state = (s.work i).ctx.state) (hm : (t.work i).ctx.map = (s.work i).ctx.map)
    (hq : t.admission.queue = s.admission.queue) : t.QueueOk := by
  refine ⟨fun e he => ?_, by rw [hq]; exact h.2⟩
  rw [hq] at he
  by_cases hi : e.slot = i
  · exact (h.1 e he).of_work (by rw [hi]; exact hs) (by rw [hi]; exact hm)
  · refine (h.1 e he).of_work ?_ ?_ <;> rw [o.others _ hi]

/-- The queue is in order, and so is what a scan has still to look at. -/
def State.ScanOk (q : List AdmEntry) (s : State) : Prop :=
  s.QueueOk ∧ (∀ e ∈ q, s.EntryOk e) ∧ (q.map (·.slot)).Nodup

theorem State.QueueOk.scanOk (h : s.QueueOk) : s.ScanOk s.admission.queue := ⟨h, h⟩

theorem State.ScanOk.skip {e : AdmEntry} {rest : List AdmEntry} (h : s.ScanOk (e :: rest)) : s.ScanOk rest :=
  ⟨h.1, fun f hf => h.2.1 f (List.mem_cons_of_mem _ hf), (List.nodup_cons.mp h.2.2).2⟩

theorem State.EntryOk.grant {e f : AdmEntry} (h : s.EntryOk f) (hne : f.slot ≠ e.slot) : (s.grant e).EntryOk f := by
  refine h.of_work ?_ ?_ <;> rw [State.grant_work_ne s e hne]

/-- A grant takes its own entry out (R6). -/
theorem State.ScanOk.grant {e : AdmEntry} {rest : List AdmEntry} (h : s.ScanOk (e :: rest)) :
    (s.grant e).ScanOk rest := by
  obtain ⟨hq, hl, hn⟩ := h
  rw [List.map_cons, List.nodup_cons] at hn
  refine ⟨⟨fun f hf => ?_, ?_⟩, fun f hf => ?_, hn.2⟩
  · rw [State.grant_queue] at hf
    obtain ⟨hf, hne⟩ := List.mem_filter.mp hf
    exact (hq.1 f hf).grant (by simpa using hne)
  · rw [State.grant_queue]
    exact hq.2.sublist (List.filter_sublist.map _)
  · refine (hl f (List.mem_cons_of_mem _ hf)).grant fun e => hn.1 ?_
    exact e ▸ List.mem_map_of_mem hf

theorem State.QueueOk.scan (h : s.QueueOk) : s.scan.QueueOk := by
  unfold State.scan
  split
  · exact h
  · exact (State.scanOver_induct (P := State.ScanOk) (fun h => h.skip) (fun h _ _ _ => h.grant) _ _ h.scanOk).1

theorem State.QueueOk.withdraw (h : s.QueueOk) (i : SlotId) : (s.withdraw i).QueueOk :=
  ⟨fun e he => (h.1 e (List.mem_filter.mp he).1).of_work rfl rfl, h.2.sublist (List.filter_sublist.map _)⟩

theorem State.QueueOk.orderDown (h : s.QueueOk) (i : SlotId) : (s.orderDown i).QueueOk := by
  have o : s.OnlyAt i (s.orderDown i) := State.OnlyAt.rfl.orderDown
  rcases s.orderDown_cases i with ⟨hst, -⟩ | ⟨st, -, e⟩ | ⟨e, -, -⟩
  · exact h.of_noEntry o (State.orderDown_idle_noEntry hst)
  · exact h.of_noEntry o (by rw [e]; exact s.enter_noEntry i st false false)
  · rw [e]
    exact h

theorem SlotSt.nextKind_source {st : SlotSt} {k : Kind} (h : st.nextKind = some k) : st = k.source := by
  cases st <;> cases h <;> rfl

theorem State.QueueOk.place {k : Kind} (h : s.QueueOk) (hk : (s.slot i).ctx.state.nextKind = some k) (r : Bool) :
    (s.place i k r).QueueOk := by
  unfold State.place
  split
  · exact h
  · next hany =>
    have hnone : ∀ e ∈ s.admission.queue, e.slot ≠ i := by simpa using hany
    refine State.QueueOk.scan ⟨fun e he => ?_, ?_⟩
    · rcases List.mem_append.mp he with he | he
      · exact (h.1 e he).of_work rfl rfl
      · rw [List.mem_singleton] at he
        subst he
        exact ⟨SlotSt.nextKind_source hk, rfl⟩
    · change ((s.admission.queue ++ [_]).map AdmEntry.slot).Nodup
      rw [List.map_append, List.nodup_append]
      refine ⟨h.2, by simp, fun a ha b hb => ?_⟩
      obtain ⟨e, he, rfl⟩ := List.mem_map.mp ha
      have hb' : b = i := by simpa using hb
      rw [hb']
      exact hnone e he

theorem State.QueueOk.compare (h : s.QueueOk) (i : SlotId) : (s.compare i).QueueOk := by
  unfold State.compare
  split
  · exact h.withdraw i
  · next k hk =>
    split
    · exact h.place hk false
    · exact h.withdraw i

theorem State.enforcing_queueOk : State.Enforcing State.QueueOk where
  scan h := h.scan
  orderDown i h := h.orderDown i
  clearMark _ h := h
  compare i h := h.compare i
  reportDemand {s} j h := h.of_onlyAt (State.OnlyAt.rfl (i := j)).reportDemand
    (by rw [State.work_report_demand]; rfl) (by rw [State.work_report_demand]; rfl) rfl
  forwardHeld {s} j e _ h := by
    have hp := Slot.Passed.rfl.forwardedHeld (n := s.now) (x := s.work j) s.profile e
    exact h.of_onlyAt (State.OnlyAt.rfl (i := j).forwardHeld e)
      (by rw [State.work_forwardHeld]; exact hp.state) (by rw [State.work_forwardHeld]; exact hp.map) (by simp)
  finishHeld {s} j e _ h := h.of_onlyAt (State.OnlyAt.rfl (i := j).finishHeld e)
    (by rw [State.work_finishHeld]; rfl) (by rw [State.work_finishHeld]; rfl) (by simp)
  beginHead {s} j h := h.of_onlyAt (State.OnlyAt.rfl (i := j)).beginHead
    (by rw [State.work_beginHead]; rfl) (by rw [State.work_beginHead]; rfl) rfl
  sweepAll {s} j _ h := State.sweepAll_keeps (P := State.QueueOk) (fun {t} e h =>
    h.of_onlyAt (t.sweepEntry_onlyAt j e)
      (by rw [State.sweepEntry, State.work_completeSensed, State.work_modPass]; rfl)
      (by rw [State.sweepEntry, State.work_completeSensed, State.work_modPass]; rfl)
      (by simp [State.sweepEntry])) _ h
  ended h := h
  selectBudget _ h := h

/-- A slot's slot map entry goes into its admission entry too (R37). -/
theorem State.QueueOk.takeMap (h : s.QueueOk) (i : SlotId) : (s.takeMap i).QueueOk := by
  have o : s.OnlyAt i (s.takeMap i) := State.OnlyAt.rfl.takeMap
  by_cases hc : (s.profile.slots[i]).enabled = true ∨ (s.slot i).ctx.state = .empty
  · have hw : ((s.takeMap i).work i).ctx.state = (s.work i).ctx.state
        ∧ ((s.takeMap i).work i).ctx.map = s.profile.slots[i] := by
      rcases hc with he | hst
      · rw [State.work_takeMap_enabled he]
        exact ⟨rfl, rfl⟩
      · obtain ⟨d, hd⟩ := State.work_takeMap_atEmpty hst
        rw [hd]
        exact ⟨rfl, rfl⟩
    have hq := State.takeMap_queue_kept hc
    refine ⟨fun e he => ?_, ?_⟩
    · rw [hq] at he
      obtain ⟨f, hf, rfl⟩ := List.mem_map.mp he
      by_cases hi : f.slot = i
      · rw [if_pos hi]
        subst hi
        exact ⟨hw.1.trans (h.1 f hf).1, congrArg SlotMap.bank hw.2.symm⟩
      · rw [if_neg hi]
        refine (h.1 f hf).of_work ?_ ?_ <;> rw [o.others _ hi]
    · have hmap : (s.takeMap i).admission.queue.map (·.slot) = s.admission.queue.map (·.slot) := by
        rw [hq, List.map_map]
        refine List.map_congr_left fun e _ => ?_
        change (if e.slot = i then _ else e).slot = e.slot
        split <;> rfl
      rw [hmap]
      exact h.2
  · rw [not_or] at hc
    refine h.of_noEntry o ?_
    obtain ⟨he, hst⟩ := hc
    unfold State.takeMap
    rw [if_neg he, if_neg hst]
    exact State.enterDown_noEntry _ i .empty codeSlotEmpty

theorem State.offerMap_cases (s : State) (i : SlotId) :
    (s.offerMap i = s.takeMap i
        ∧ ((s.slot i).ctx.state = .off ∨ (s.slot i).ctx.state = .empty ∨ (s.slot i).ctx.state = .fault))
      ∨ (s.offerMap i = s ∧ (s.slot i).ctx.state.powered = true) := by
  unfold State.offerMap
  cases hst : (s.slot i).ctx.state <;> simp [SlotSt.powered]

theorem State.QueueOk.offerMap (h : s.QueueOk) (i : SlotId) : (s.offerMap i).QueueOk := by
  rcases s.offerMap_cases i with ⟨e, -⟩ | ⟨e, -⟩ <;> rw [e]
  · exact h.takeMap i
  · exact h

end queue

/-! ## What flows through a reaction -/

section flows

variable {s t u : State} {i : SlotId}

theorem State.Flows.onlyAt (h : s.Flows t) (o : t.OnlyAt i u) (k : t.Keeps u) : s.Flows u := h.trans (o.flows k)

theorem State.Flows.scan (h : s.Flows t) : s.Flows t.scan := by
  unfold State.scan
  split
  · exact h
  · exact State.scanOver_induct (P := fun _ u => s.Flows u) id
      (fun {e _ u} h _ _ _ => h.trans (State.Leaves.grant (i := e.slot) u e).toFlows) _ _ h

theorem State.clearMark_flows (s : State) (b : BankId) : s.Flows (s.modBank b fun k => { k with overdraw := false }) :=
  (State.Leaves.of_ctrl (i := 0) ((State.Keeps.rfl s).modBank b _) rfl (fun _ => rfl) fun d => by
    by_cases hd : d = b
    · subst hd; simp
    · simp [hd]).toFlows

theorem State.setQueue_flows (s : State) (q : List AdmEntry) : s.Flows (s.setQueue q) :=
  (State.Leaves.of_ctrl (i := 0) ((State.Keeps.rfl s).setQueue q) rfl (fun _ => rfl) fun _ => ⟨rfl, id⟩).toFlows

/-- Whatever the reactions and servings do flows (R33, R45). -/
theorem State.closed_flows (s : State) : State.Closed s.Flows where
  scan h := h.scan
  orderDown {t} i h := h.onlyAt (i := i) State.OnlyAt.rfl.orderDown ((State.Keeps.rfl t).orderDown i)
  clearMark {t} b h := h.trans (t.clearMark_flows b)
  compare {t} i h := by
    rcases t.compare_cases i with e | e | ⟨k, -, e⟩ <;> rw [e]
    · exact h.onlyAt (i := i) State.OnlyAt.rfl.withdraw ((State.Keeps.rfl t).withdraw i)
    · exact h
    · exact State.Flows.scan (h.trans (t.setQueue_flows _))
  reportDemand {t} i h := h.onlyAt (i := i) State.OnlyAt.rfl.reportDemand ((State.Keeps.rfl t).reportDemand i)
  forwardHeld {t} i e _ h :=
    h.onlyAt (i := i) (State.OnlyAt.rfl.forwardHeld e) ((State.Keeps.rfl t).forwardHeld i e)
  finishHeld {t} i e _ h := h.onlyAt (i := i) (State.OnlyAt.rfl.finishHeld e) ((State.Keeps.rfl t).finishHeld i e)
  beginHead {t} i h := h.onlyAt (i := i) State.OnlyAt.rfl.beginHead ((State.Keeps.rfl t).beginHead i)

end flows

/-! ## Marks -/

section marks

variable {i j : SlotId} {b d : BankId} {s t : State}

/-- A bank is in OVERDRAW exactly where its sum exceeds its budget (R44, R45). -/
def State.Marked (s : State) (b : BankId) : Prop := (s.bank b).overdraw = true ↔ (s.bank b).budget < s.bankSum b

theorem State.share_eq (s : State) (b : BankId) (i : SlotId) :
    s.share b i = if (s.work i).ctx.map.bank = b then (s.work i).charge else 0 := rfl

theorem State.bankSum_congr (h : ∀ i, t.share b i = s.share b i) : t.bankSum b = s.bankSum b := by
  rw [State.bankSum_eq, State.bankSum_eq]
  exact Finset.sum_congr rfl fun i _ => h i

/-- The grant of an entry in order adds its increment to the sum of its bank, and nothing to the other's (R34). -/
theorem State.grant_bankSum {e : AdmEntry} (h : s.EntryOk e) (b : BankId) :
    (s.grant e).bankSum b = s.bankSum b + if b = e.bank then s.increment e else 0 := by
  have hw := s.grant_work_self e
  have hbank : (s.work e.slot).ctx.map.bank = e.bank := h.2.symm
  have hsum := sum_change (f := s.share b) (g := (s.grant e).share b) e.slot fun k hk => by
    rw [State.share_eq, State.share_eq, State.grant_work_ne s e hk]
  rw [State.bankSum_eq, State.bankSum_eq]
  have hold : s.share b e.slot = if e.bank = b then (s.work e.slot).charge else 0 := by
    rw [State.share_eq, hbank]
  have hnew : (s.grant e).share b e.slot
      = if e.bank = b then (s.work e.slot).chargeOn s.profile e.kind.target true else 0 := by
    rw [State.share_eq, hw]
    change (if (s.work e.slot).ctx.map.bank = b then _ else 0) = _
    rw [hbank]
    rfl
  have hinc : s.increment e = (s.work e.slot).chargeOn s.profile e.kind.target true - (s.work e.slot).charge := rfl
  have hle : (s.work e.slot).charge ≤ (s.work e.slot).chargeOn s.profile e.kind.target true := by
    rw [Slot.chargeOn_target]
    exact Nat.le_max_left _ _
  by_cases hb : e.bank = b
  · rw [if_pos hb] at hold hnew
    rw [if_pos hb.symm]
    omega
  · rw [if_neg hb] at hold hnew
    rw [if_neg (Ne.symm hb)]
    omega

/-- A scan with the queue in order keeps the marks where they belong. -/
theorem State.scan_marked (hq : s.QueueOk) (h : ∀ b, s.Marked b) : ∀ b, s.scan.Marked b := by
  unfold State.scan
  split
  · exact h
  · refine (State.scanOver_induct (P := fun q t => t.ScanOk q ∧ ∀ b, t.Marked b) (fun h => ⟨h.1.skip, h.2⟩)
      (fun {e rest t} h _ ho hf => ⟨h.1.grant, fun b => ?_⟩) _ _ ⟨hq.scanOk, h⟩).2
    have hsum := State.grant_bankSum (h.1.2.1 e List.mem_cons_self) b
    have hb := h.2 b
    unfold State.Marked at hb ⊢
    rw [(t.grant_account e b).1, (t.grant_account e b).2, hsum]
    by_cases he : b = e.bank
    · subst he
      rw [State.fits, decide_eq_true_iff] at hf
      rw [ho, if_pos rfl]
      exact ⟨fun e => (by cases e), fun hlt => (by omega)⟩
    · rw [if_neg he, Nat.add_zero]
      exact hb

theorem State.clearIfFits_marked (hq : s.QueueOk) (ho : (s.bank b).overdraw = true)
    (h : ∀ d, d ≠ b → s.Marked d) : ∀ d, (s.clearIfFits b).Marked d := by
  unfold State.clearIfFits
  split
  · next hfit =>
    rw [Bool.and_eq_true, decide_eq_true_iff] at hfit
    refine State.scan_marked (s := s.modBank b _) hq fun d => ?_
    by_cases hd : d = b
    · subst hd
      unfold State.Marked
      rw [State.bank_modBank_self]
      change (false = true) ↔ (s.bank d).budget < s.bankSum d
      exact ⟨fun e => (by cases e), fun hlt => (by omega)⟩
    · unfold State.Marked
      rw [State.bank_modBank_ne _ _ hd]
      exact h d hd
  · next hfit =>
    intro d
    by_cases hd : d = b
    · subst hd
      rw [ho, Bool.true_and, decide_eq_true_iff] at hfit
      exact ⟨fun _ => by omega, fun _ => ho⟩
    · exact h d hd

/-- A shed keeps the marks where they belong (R45, R48). -/
theorem State.shed_marked (hq : s.QueueOk) (h : ∀ d, s.Marked d) (b : BankId) : ∀ d, (s.shed b).Marked d := by
  unfold State.shed
  split
  · next ho =>
    have hto := State.shedRounds_shedTo (s := s) (b := b) 10 (s.candidates_card b)
    have hp := ((State.Keeps.rfl s).shedRounds 10 b).profile
    have hbank := fun d => State.shedRounds_bank 10 b d s
    refine State.clearIfFits_marked (State.enforcing_queueOk.shedRounds 10 b hq) (by rw [hbank]; exact ho)
      fun d hd => ?_
    unfold State.Marked
    rw [hbank, State.bankSum_congr fun k => (State.otherBank_of_cases hd hp (hto.cases k)).2.1]
    exact h d
  · exact h

/-- The selection of budgets: each as the profile and the recognized DOCK value have it, and the marks where they
belong (R31, R44, R45). -/
theorem State.selectBudget_budget (s : State) (b d : BankId) :
    ((s.selectBudget b).bank d).budget = if d = b then s.budgetFor b else (s.bank d).budget := by
  unfold State.selectBudget
  by_cases hd : d = b
  · subst hd
    rw [State.bank_modBank_self, if_pos rfl]
  · rw [State.bank_modBank_ne _ _ hd, if_neg hd]

theorem State.selectBudget_marked (s : State) (b d : BankId) (h : d ≠ b → s.Marked d) : (s.selectBudget b).Marked d := by
  by_cases hd : d = b
  · subst hd
    unfold State.Marked State.selectBudget
    rw [State.bank_modBank_self]
    exact decide_eq_true_iff
  · have hb : (s.selectBudget b).bank d = s.bank d := State.bank_modBank_ne _ _ hd
    unfold State.Marked
    rw [hb]
    exact h hd

theorem BankId.cases (b : BankId) : b = 0 ∨ b = 1 := by
  fin_cases b <;> simp

theorem State.selected_marked (s : State) (d : BankId) : ((s.selectBudget 0).selectBudget 1).Marked d :=
  State.selectBudget_marked _ 1 d fun h1 => State.selectBudget_marked _ 0 d fun h0 => by
    rcases BankId.cases d with h | h
    · exact absurd h h0
    · exact absurd h h1

theorem State.selected_budget (s : State) (d : BankId) :
    (((s.selectBudget 0).selectBudget 1).bank d).budget = s.budgetFor d := by
  rw [State.selectBudget_budget, State.selectBudget_budget]
  rcases BankId.cases d with rfl | rfl <;> rfl

theorem State.selectBudgets_flows (s : State) : ((s.selectBudget 0).selectBudget 1).Flows s.selectBudgets := by
  have hc := State.closed_flows ((s.selectBudget 0).selectBudget 1)
  exact hc.scan (hc.shed 1 (hc.shed 0 State.Flows.rfl))

theorem State.selectBudgets_budget (s : State) (d : BankId) : (s.selectBudgets.bank d).budget = s.budgetFor d :=
  (s.selectBudgets_flows.budget d).trans (s.selected_budget d)

theorem State.selectBudgets_marked (hq : s.QueueOk) (d : BankId) : s.selectBudgets.Marked d := by
  have hc := State.enforcing_queueOk
  have h0 : ((s.selectBudget 0).selectBudget 1).QueueOk := hq
  have hm := State.shed_marked h0 (fun d => s.selected_marked d) 0
  have hm' := State.shed_marked (hc.shed 0 h0) hm 1
  exact State.scan_marked (hc.shed 1 (hc.shed 0 h0)) hm' d

end marks

end Sys2Proof.Machine
end

section
/-! PROOFS. The profile that an image yields, by its words (R163, R165, R166, R177). -/

namespace Sys2Proof.Machine

section image

variable (image : List Byte)

theorem imageWord_lt (n : Nat) : imageWord image n < 65536 := by
  have h0 := (image.getD (2 * n) 0).isLt
  have h1 := (image.getD (2 * n + 1) 0).isLt
  unfold imageWord
  omega

theorem wordBit_eq_testBit (w n : Nat) : wordBit w n = w.testBit n := by
  rw [wordBit, Nat.testBit_eq_decide_div_mod_eq]
  rfl

theorem clamp_zero (hi v : Nat) : clamp 0 hi v = min hi v := Nat.max_eq_right (Nat.zero_le _)

theorem signedWord_eq {w : Nat} (h : w < 65536) :
    signedWord w = if w < 32768 then (w : Int) else w - 65536 := by
  rw [signedWord, BitVec.toInt_eq_toNat_cond, BitVec.toNat_ofNat, Nat.mod_eq_of_lt h]
  split <;> split <;> omega

theorem edgeOfCode_named (w n : Nat) : edgeNamed (edgeOfCode (w / n)) (w / n % 4) := by
  have h : w / n % 4 < 4 := Nat.mod_lt _ (by decide)
  unfold edgeOfCode
  generalize w / n % 4 = k at h
  interval_cases k
  · exact ⟨fun _ => rfl, fun h => (by omega), fun h => (by omega)⟩
  · exact ⟨fun h => (by omega), fun _ => rfl, fun h => (by omega)⟩
  · exact ⟨fun h => (by omega), fun h => (by omega), fun _ => rfl⟩
  · exact ⟨fun h => (by omega), fun h => (by omega), fun _ => rfl⟩

theorem permitRowOfWord_ofBits (w n : Nat) : (permitRowOfWord w n).OfBits w n :=
  ⟨wordBit_eq_testBit w n, wordBit_eq_testBit w (n + 1), wordBit_eq_testBit w (n + 2)⟩

theorem parkLevelOfWord_named (w : Nat) :
    (w = 0 → parkLevelOfWord w = .off) ∧ (w = 1 → parkLevelOfWord w = .idle)
      ∧ (2 ≤ w → parkLevelOfWord w = .spun) := by
  refine ⟨fun h => by rw [h]; rfl, fun h => by rw [h]; rfl, fun h => ?_⟩
  match w, h with
  | _ + 2, _ => rfl

theorem classOfImage_ofWords (n : Nat) : (classOfImage image n).OfWords (imageWord image) n := by
  have h := fun k => imageWord_lt image k
  have hidle (k : Nat) : clamp 0 65535 (imageWord image k) = imageWord image k := by
    rw [clamp_zero]
    exact Nat.min_eq_right (Nat.le_of_lt_succ (h k))
  refine ⟨?_, ?_, ?_, ?_, rfl, rfl, rfl, rfl, rfl, ?_, ?_, ?_⟩ <;>
    simp only [classOfImage, clamp_zero, hidle, Nat.add_zero]

theorem motionOfImage_ofWords : (motionOfImage image).OfWords (imageWord image) := by
  refine ⟨rfl, rfl, rfl, rfl, rfl, rfl, rfl, rfl, ?_, clamp_zero _ _⟩
  change clampInt (-2048) 2047 (signedWord _) = _
  rw [signedWord_eq (imageWord_lt image 30)]
  rfl

theorem slotMapOfWord_ofWord (w : Nat) :
    (slotMapOfWord w).enabled = w.testBit 0 ∧ (slotMapOfWord w).bank.val = w / 2 % 2
      ∧ (slotMapOfWord w).cls.val = w / 4 % 4 :=
  ⟨wordBit_eq_testBit w 0, rfl, rfl⟩

/-- Every field of the profile is its words', in its range. -/
theorem profileOfImage_ofWords : (profileOfImage image).OfWords (imageWord image) := by
  have hp := parkLevelOfWord_named (imageWord image 21)
  refine ⟨fun i => ?_, fun b => ?_, ?_, rfl, rfl, ?_, rfl, hp.1, hp.2.1, hp.2.2, motionOfImage_ofWords image,
    permitRowOfWord_ofBits _ 0, permitRowOfWord_ofBits _ 3, permitRowOfWord_ofBits _ 6,
    permitRowOfWord_ofBits _ 9, permitRowOfWord_ofBits _ 12, ?_, edgeOfCode_named _ 4, edgeOfCode_named _ 16,
    edgeOfCode_named _ 64, edgeOfCode_named _ 256, edgeOfCode_named _ 1024, wordBit_eq_testBit _ 12, fun k => ?_⟩
  · fin_cases i <;> exact slotMapOfWord_ofWord _
  · have h15 : imageWord image 15 / 256 ^ 0 % 256 = lowByte (imageWord image 15) := by simp [lowByte]
    fin_cases b
    · exact ⟨clamp_zero _ _, clamp_zero _ _, congrArg (clamp 1 4) h15.symm⟩
    · exact ⟨clamp_zero _ _, clamp_zero _ _, rfl⟩
  · exact congrArg (10 * ·) (clamp_zero _ _)
  · exact clamp_zero _ _
  · have h := edgeOfCode_named (imageWord image 33) 1
    rw [Nat.div_one] at h
    have he : (profileOfImage image).edges.settling = edgeOfCode (imageWord image 33) :=
      congrArg edgeOfCode (Nat.div_one _)
    rw [he]
    exact h
  · fin_cases k <;> exact classOfImage_ofWords image _

end image

end Sys2Proof.Machine
end

section
/-! PROOFS. What a profile brings to the device notice: its taking effect raises nothing (R148). -/

namespace Sys2Proof.Machine

/-! ## The device notice -/

section notice

variable {s t : State}

/-- From s to t, neither the device notice nor its cause PROFILE was raised. -/
def State.Quieter (s t : State) : Prop :=
  (t.ctrl.deviceNotice = true → s.ctrl.deviceNotice = true)
    ∧ (t.ctrl.causeProfile = true → s.ctrl.causeProfile = true)

theorem State.Quieter.rfl : s.Quieter s := ⟨id, id⟩

theorem State.Quieter.trans {u : State} (h : s.Quieter t) (k : t.Quieter u) : s.Quieter u :=
  ⟨fun e => h.1 (k.1 e), fun e => h.2 (k.2 e)⟩

theorem State.Quieter.of_ctrl (h : s.Quieter t) {u : State} (hc : u.ctrl = t.ctrl) : s.Quieter u := by
  unfold State.Quieter
  rw [hc]
  exact h

theorem State.beginUpstream_quieter (s : State) (f : UpFrame) : s.Quieter (s.beginUpstream f) := by
  cases f with
  | completion _ => exact ⟨fun e => (by cases e), fun e => (Bool.and_eq_true _ _ ▸ e).1⟩
  | data _ _ => exact State.Quieter.rfl
  | dataRequest _ _ => exact State.Quieter.rfl

theorem State.setUpstreamAt_quieter (s : State) (p : Fin 11) (q : List UpFrame) : s.Quieter (s.setUpstreamAt p q) := by
  unfold State.setUpstreamAt
  split <;> exact State.Quieter.rfl

theorem State.Quieter.handUp (h : s.Quieter t) (i : SlotId) (f : UpFrame) : s.Quieter (t.handUp i f) := by
  unfold State.handUp State.pickUpstream
  split
  · exact h
  · split
    · exact h
    · split
      · exact h
      · refine State.Quieter.trans ?_ (State.beginUpstream_quieter _ _)
        exact State.Quieter.trans h (State.setUpstreamAt_quieter (t.modSlot i _) _ _)

theorem State.Quieter.complete (h : s.Quieter t) (i : SlotId) (c : Cmd) (code : Byte) :
    s.Quieter (t.complete i c code) := h.handUp i _

theorem State.Quieter.completeAll (i : SlotId) (code : Byte) (l : List Cmd) (h : s.Quieter t) :
    s.Quieter (State.completeAll i code l t) := by
  induction l generalizing t with
  | nil => exact h
  | cons c rest ih => exact ih (h.complete i c code)

theorem State.Quieter.enterDown (h : s.Quieter t) (i : SlotId) (st : SlotSt) (code : Byte) :
    s.Quieter (t.enterDown i st code) := by
  have hc := State.Quieter.completeAll i code (t.slot i).pass.commands
    (t := ((t.enter i st false false).modPass i Passage.emptied).modCtx i
      (fun c => { c with spinMark := false, emergency := false })) h
  unfold State.enterDown State.leavingFault
  split <;> exact hc

theorem State.Quieter.takeMap (h : s.Quieter t) (i : SlotId) : s.Quieter (t.takeMap i) := by
  unfold State.takeMap
  simp only
  split
  · split <;> exact h
  · split
    · exact h
    · refine State.Quieter.enterDown ?_ i .empty codeSlotEmpty
      exact h

theorem State.Quieter.offerMap (h : s.Quieter t) (i : SlotId) : s.Quieter (t.offerMap i) := by
  rcases t.offerMap_cases i with ⟨e, -⟩ | ⟨e, -⟩ <;> rw [e]
  · exact h.takeMap i
  · exact h

theorem State.Quieter.orderDown (h : s.Quieter t) (i : SlotId) : s.Quieter (t.orderDown i) := by
  unfold State.orderDown
  split
  case h_4 =>
    refine (State.Quieter.takeMap (State.Quieter.completeAll i codeOk _ ?_) i).of_ctrl (Eq.refl _)
    exact h
  all_goals exact h

theorem State.enforcing_quieter (s : State) : State.Enforcing s.Quieter where
  scan {t} h := h.of_ctrl t.scan_ctrl
  orderDown i h := h.orderDown i
  clearMark _ h := h
  compare {t} i h := by
    rcases t.compare_cases i with e | e | ⟨k, -, e⟩ <;> rw [e]
    · exact h
    · exact h
    · exact h.of_ctrl (State.scan_ctrl _)
  reportDemand _ h := h
  forwardHeld {t} i e _ h := by
    refine h.of_ctrl ?_
    unfold State.forwardHeld
    simp only
    split <;> exact Eq.refl _
  finishHeld {t} i e _ h := State.Quieter.complete (t := t.modPass i _) h i e.cmd codeOk
  beginHead _ h := h
  sweepAll i _ h := State.sweepAll_keeps (P := s.Quieter) (fun {t} e h =>
    State.Quieter.complete (t := t.modPass i _) h i e.cmd _) _ h
  ended h := h
  selectBudget _ h := h

theorem State.takeEffect_quieter (s : State) : s.Quieter s.takeEffect :=
  (State.enforcing_quieter s).enforced
    (List.foldlRecOn allSlots State.offerMap State.Quieter.rfl fun _ h i _ => h.offerMap i)

end notice

end Sys2Proof.Machine
end

section
/-! PROOFS. What a profile brings to the slots: the offering of its slot map to all of them, and the slots that it takes
into EMPTY (R5). -/

namespace Sys2Proof.Machine

/-! ## The offering -/

section offering

variable {i j : SlotId} {s t u : State}

/-- From s to t, other slots changed: slot i, its entries and its frames upstream stand. -/
structure State.Apart (i : SlotId) (s t : State) : Prop extends State.Leaves i s t where
  work : t.work i = s.work i
  entries : t.entriesOf i = s.entriesOf i

theorem State.Apart.rfl : s.Apart i s := ⟨State.Leaves.rfl, Eq.refl _, Eq.refl _⟩

theorem State.Apart.trans (h : s.Apart i t) (k : t.Apart i u) : s.Apart i u :=
  ⟨h.toLeaves.trans k.toLeaves, k.work.trans h.work, k.entries.trans h.entries⟩

theorem State.OnlyAt.apart (o : s.OnlyAt j t) (k : s.Keeps t) (hj : i ≠ j) : s.Apart i t :=
  ⟨o.leaves k hj, o.others i hj, o.entriesOf_eq hj⟩

theorem State.offerMap_onlyAt (s : State) (i : SlotId) : s.OnlyAt i (s.offerMap i) := by
  rcases s.offerMap_cases i with ⟨e, -⟩ | ⟨e, -⟩ <;> rw [e]
  · exact State.OnlyAt.rfl.takeMap
  · exact State.OnlyAt.rfl

/-- The profile offered to all slots (R169 step 2). -/
@[irreducible] def State.offered (s : State) : State := allSlots.foldl State.offerMap s

theorem State.offers_apart (l : List SlotId) (hi : i ∉ l) (s : State) : s.Apart i (l.foldl State.offerMap s) := by
  induction l generalizing s with
  | nil => exact State.Apart.rfl
  | cons j l ih =>
    rw [List.mem_cons, not_or] at hi
    exact ((s.offerMap_onlyAt j).apart ((State.Keeps.rfl s).offerMap j) hi.1).trans (ih hi.2 _)

/-- The offering of slot i is its own, between those of the others. -/
theorem State.offered_at (s : State) (i : SlotId) : ∃ u, s.Apart i u ∧ (u.offerMap i).Apart i s.offered := by
  obtain ⟨l, r, hl⟩ := List.append_of_mem (mem_allSlots i)
  have hn : (l ++ i :: r).Nodup := hl ▸ (by decide : allSlots.Nodup)
  rw [List.nodup_middle, List.nodup_cons, List.mem_append, not_or] at hn
  refine ⟨l.foldl State.offerMap s, State.offers_apart l hn.1.1 s, ?_⟩
  rw [State.offered, hl, List.foldl_append]
  exact State.offers_apart r hn.1.2 _

theorem State.offered_keeps (s : State) : s.Keeps s.offered := by
  unfold State.offered
  exact State.Closed.foldl (P := s.Keeps) (fun i h => h.offerMap i) allSlots (State.Keeps.rfl s)

theorem State.QueueOk.offered (h : s.QueueOk) : s.offered.QueueOk := by
  unfold State.offered
  generalize allSlots = l
  exact State.Closed.foldl (P := State.QueueOk) (fun i h => h.offerMap i) l h

theorem State.Apart.ctx (h : s.Apart i t) : (t.slot i).ctx = (s.slot i).ctx := by
  rw [State.slot_ctx, h.work]
  rfl
theorem State.Apart.pass (h : s.Apart i t) : (t.slot i).pass = (s.slot i).pass := by
  rw [State.slot_pass, h.work]
  rfl
theorem State.Apart.state (h : s.Apart i t) : (t.slot i).ctx.state = (s.slot i).ctx.state :=
  congrArg SlotContext.state h.ctx

theorem State.offerMap_unpowered (h : (s.slot i).ctx.state = .off ∨ (s.slot i).ctx.state = .empty
    ∨ (s.slot i).ctx.state = .fault) : s.offerMap i = s.takeMap i := by
  unfold State.offerMap
  rcases h with h | h | h <;> rw [h]

theorem State.offerMap_powered (h0 : (s.slot i).ctx.state ≠ .off) (h1 : (s.slot i).ctx.state ≠ .empty)
    (h2 : (s.slot i).ctx.state ≠ .fault) : s.offerMap i = s := by
  rcases s.offerMap_cases i with ⟨-, h | h | h⟩ | ⟨e, -⟩
  · exact absurd h h0
  · exact absurd h h1
  · exact absurd h h2
  · exact e

/-- A slot in OFF, EMPTY or FAULT takes its entry. -/
theorem State.offered_taken (s : State) (h : (s.slot i).ctx.state = .off ∨ (s.slot i).ctx.state = .empty
    ∨ (s.slot i).ctx.state = .fault) :
    ∃ u, s.Apart i u ∧ (u.takeMap i).Apart i s.offered := by
  obtain ⟨u, hu, hoff⟩ := s.offered_at i
  rw [State.offerMap_unpowered (by rw [hu.state]; exact h)] at hoff
  exact ⟨u, hu, hoff⟩

/-- Any other slot stands. -/
theorem State.offered_stands (s : State) (h0 : (s.slot i).ctx.state ≠ .off) (h1 : (s.slot i).ctx.state ≠ .empty)
    (h2 : (s.slot i).ctx.state ≠ .fault) : s.Apart i s.offered := by
  obtain ⟨u, hu, hoff⟩ := s.offered_at i
  rw [State.offerMap_powered (by rwa [hu.state]) (by rwa [hu.state]) (by rwa [hu.state])] at hoff
  exact hu.trans hoff

theorem State.work_takeMap_map (s : State) (i : SlotId) : ((s.takeMap i).work i).ctx.map = s.profile.slots[i] := by
  cases he : (s.profile.slots[i]).enabled with
  | true =>
    rw [State.work_takeMap_enabled he]
    rfl
  | false =>
    by_cases hst : (s.slot i).ctx.state = .empty
    · rw [State.work_takeMap_empty he hst]
      rfl
    · rw [State.work_takeMap_disabled he hst]
      rfl

theorem State.offered_map (s : State) (h : (s.slot i).ctx.state = .off ∨ (s.slot i).ctx.state = .empty
    ∨ (s.slot i).ctx.state = .fault) : (s.offered.work i).ctx.map = s.profile.slots[i] := by
  obtain ⟨u, hu, hoff⟩ := s.offered_taken h
  rw [hoff.work, State.work_takeMap_map, hu.keeps.profile]

end offering

/-! ## A slot gone to EMPTY -/

section gone

variable {i j : SlotId} {x : Slot} {c : Prop} {q : List UpFrame} {s t : State}

/-- Slot i is in EMPTY with nothing held and no entry; under a condition, the link is in transmission and these
frames wait upstream. -/
structure State.Gone (i : SlotId) (x : Slot) (c : Prop) (q : List UpFrame) (s : State) : Prop where
  work : s.work i = x
  state : x.ctx.state = .empty
  hold : x.pass.hold = [] ∧ x.pass.demand = none
  entry : s.NoEntry i
  up : c → s.ctrl.sending ≠ none ∧ s.up i = q

theorem State.Gone.of_onlyAt (h : s.Gone i x c q) (o : s.OnlyAt j t) (hj : i ≠ j) : t.Gone i x c q where
  work := (o.others i hj).trans h.work
  state := h.state
  hold := h.hold
  entry e he hi := h.entry e (o.mem_queue hj he hi) hi
  up hc := ⟨o.sending (h.up hc).1, ((o.upWorking (.of_busy (h.up hc).1)).2 i hj).trans (h.up hc).2⟩

/-- A change that leaves the slot and what waits upstream. -/
theorem State.Gone.of_eq (h : s.Gone i x c q) (hw : t.work i = s.work i) (hc : t.ctrl = s.ctrl)
    (hu : t.up i = s.up i) (hq : ∀ e ∈ t.admission.queue, e.slot = i → e ∈ s.admission.queue) :
    t.Gone i x c q where
  work := hw.trans h.work
  state := h.state
  hold := h.hold
  entry e he hi := h.entry e (hq e he hi) hi
  up hcond := ⟨by rw [hc]; exact (h.up hcond).1, hu.trans (h.up hcond).2⟩

theorem Slot.withPass_same {f : Passage → Passage} (h : f x.pass = x.pass) : x.withPass f = x :=
  congrArg (fun a => { x with pass := a }) h

theorem Passage.demand_of_nothing {a : Passage} (hh : a.hold = []) (hd : a.demand = none) :
    { a with demand := demandOf a.hold } = a := by
  rw [hh]
  exact (congrArg₂ (fun l d => { a with hold := l, demand := d }) hh hd).symm

theorem Passage.begun_of_nothing {a : Passage} (hh : a.hold = []) : a.begun = a := by
  rw [Passage.begun, hh]
  exact (congrArg (fun l => { a with hold := l }) hh).symm

theorem State.Gone.no_hold (h : s.Gone i x c q) : (s.slot i).pass.hold = [] := by
  rw [State.slot_pass, h.work]
  exact h.hold.1

theorem State.Gone.slot_state (h : s.Gone i x c q) : (s.slot i).ctx.state = .empty := by
  rw [State.slot_ctx, h.work]
  exact h.state

theorem State.Gone.scan (h : s.Gone i x c q) : s.scan.Gone i x c q := by
  have hb := State.Stands.scan (State.Stands.of_work h.work h.entry
    (.inl (.inr (.inr ⟨by rw [h.state]; exact SlotSt.noConfusion, by rw [h.state]; exact SlotSt.noConfusion⟩))))
  exact ⟨hb.2.work_eq, h.state, h.hold, hb.2.noEntry, fun hc => ⟨by rw [State.scan_ctrl]; exact (h.up hc).1,
    (State.scan_up s i).trans (h.up hc).2⟩⟩

/-- An operation that is made where something is held is made at another slot. -/
theorem State.Gone.ne_of_hold (h : s.Gone i x c q) (hj : (s.slot j).pass.hold ≠ []) : i ≠ j := by
  rintro rfl
  exact hj h.no_hold

theorem State.enforcing_gone (i : SlotId) (x : Slot) (c : Prop) (q : List UpFrame) :
    State.Enforcing (State.Gone i x c q) where
  scan h := h.scan
  orderDown {s} j h := by
    by_cases hj : i = j
    · subst hj
      have he : s.orderDown i = s := by
        unfold State.orderDown
        rw [h.slot_state]
      rw [he]
      exact h
    · exact h.of_onlyAt State.OnlyAt.rfl.orderDown hj
  clearMark _ h := h.of_eq rfl rfl rfl fun _ he _ => he
  compare {s} j h := by
    rcases s.compare_cases j with e | e | ⟨k, hk, e⟩ <;> rw [e]
    · exact h.of_eq rfl rfl rfl fun _ he _ => (List.mem_filter.mp he).1
    · exact h
    · refine State.Gone.scan (s := s.setQueue _) (h.of_eq rfl rfl rfl fun f hf hi => ?_)
      rcases List.mem_append.mp hf with hf | hf
      · exact hf
      · rw [List.mem_singleton] at hf
        have hj : j = i := by rw [hf] at hi; exact hi
        rw [hj, h.slot_state] at hk
        cases hk
  reportDemand {s} j h := by
    by_cases hj : i = j
    · subst hj
      refine h.of_eq ?_ rfl (State.up_modPass _ _ _ _) fun _ he _ => he
      rw [State.work_report_demand, h.work]
      exact Slot.withPass_same (Passage.demand_of_nothing h.hold.1 h.hold.2)
    · exact h.of_onlyAt State.OnlyAt.rfl.reportDemand hj
  forwardHeld j e hh h := h.of_onlyAt (State.OnlyAt.rfl.forwardHeld e) (h.ne_of_hold hh)
  finishHeld j e hh h := h.of_onlyAt (State.OnlyAt.rfl.finishHeld e) (h.ne_of_hold hh)
  beginHead {s} j h := by
    by_cases hj : i = j
    · subst hj
      refine h.of_eq ?_ rfl (State.up_modPass _ _ _ _) fun _ he _ => he
      rw [State.work_beginHead, h.work]
      exact Slot.withPass_same (Passage.begun_of_nothing h.hold.1)
    · exact h.of_onlyAt State.OnlyAt.rfl.beginHead hj
  sweepAll {s} j hh h := by
    have hj := h.ne_of_hold hh
    exact State.sweepAll_keeps (P := State.Gone i x c q)
      (fun {t} e h => h.of_onlyAt (t.sweepEntry_onlyAt j e) hj) _ h
  ended h := h.of_eq rfl rfl rfl fun _ he _ => he
  selectBudget _ h := h.of_eq rfl rfl rfl fun _ he _ => he

/-- A disabled slot in OFF or FAULT is taken into EMPTY, its commands answered (R5, R117). -/
theorem State.offered_gone (s : State) (hst : (s.slot i).ctx.state = .off ∨ (s.slot i).ctx.state = .fault)
    (he : (s.profile.slots[i]).enabled = false) :
    ∃ x a, s.offered.Gone i x (s.ctrl.sending ≠ none ∧ (s.slot i).Own i)
        (s.up i ++ (s.slot i).answers codeSlotEmpty .empty)
      ∧ x = (((s.work i).mapped (s.profile.slots[i]) (s.slot i).ctx.presentDebounce).down s.profile s.now
          .empty).actedAt a
      ∧ ((s.slot i).ctx.state = .fault → a = s.now) := by
  obtain ⟨u, hu, hoff⟩ := s.offered_taken (i := i) (hst.imp id .inr)
  have hne : (u.slot i).ctx.state ≠ .empty := by
    rw [hu.state]
    rcases hst with h | h <;> rw [h] <;> exact SlotSt.noConfusion
  have hen : (u.profile.slots[i]).enabled = false := by rw [hu.keeps.profile]; exact he
  have hw := State.work_takeMap_disabled hen hne
  have hnone : (u.takeMap i).NoEntry i := by
    unfold State.takeMap
    simp only [hen, Bool.false_eq_true, if_false, hne]
    exact State.enterDown_noEntry _ i .empty codeSlotEmpty
  have hpass := hu.pass
  rw [hu.work, hu.keeps.profile, hu.keeps.now, hu.ctx, hpass] at hw
  refine ⟨_, _, ⟨hoff.work.trans hw, rfl, ⟨rfl, rfl⟩, ?_, fun ⟨hbusy, hown⟩ => ?_⟩, rfl, fun hf => ?_⟩
  · rw [← State.entriesOf_eq_nil, hoff.entries, State.entriesOf_eq_nil]
    exact hnone
  · have hown' : (u.slot i).Own i := fun c hc => hown c (by rwa [hpass] at hc)
    have halike := State.UpAlike.rfl.takeMap_disabled hen hne hown'
    obtain ⟨hup, hsend⟩ := State.handedUp_busy (i := i) (hu.sending hbusy) ((u.slot i).answers codeSlotEmpty .empty)
    have hbusy' : (u.takeMap i).ctrl.sending ≠ none := by
      rw [halike.ctrl]
      exact hsend
    refine ⟨hoff.sending hbusy', ?_⟩
    rw [hoff.up_busy hbusy', halike.up i]
    refine hup.trans ?_
    rw [hu.up_busy hbusy, Slot.answers, hpass]
    rfl
  · exact if_neg fun hn => hn.2 hf

end gone

end Sys2Proof.Machine
end

section
/-! PROOFS. What stands of the slots once a profile has taken effect (R5, R25, R117). -/

namespace Sys2Proof.Machine

section mapsTaken

variable {i : SlotId} {s : State}

theorem State.takeEffect_offered (s : State) : s.takeEffect = s.offered.enforced := by
  rw [State.offered, State.takeEffect_eq]

theorem State.takeEffect_now (s : State) : s.takeEffect.now = s.now := (State.Keeps.rfl s).takeEffect.now

theorem State.takeEffect_taken (s : State) (h : (s.slot i).ctx.state = .off ∨ (s.slot i).ctx.state = .empty
    ∨ (s.slot i).ctx.state = .fault) : (s.takeEffect.slot i).ctx.map = s.profile.slots[i] := by
  have hat : s.offered.HasAt i s.profile fun _ n => n = s.profile.slots[i] :=
    ⟨s.offered_keeps.profile, s.offered_map h⟩
  have hend := (State.enforcing_hasAt (MapMoves.taken _)).enforced hat
  rw [State.takeEffect_offered]
  exact hend.2

theorem State.takeEffect_own (h0 : (s.slot i).ctx.state ≠ .off) (h1 : (s.slot i).ctx.state ≠ .empty)
    (h2 : (s.slot i).ctx.state ≠ .fault) (h3 : (s.slot i).ctx.state ≠ .idle) :
    (s.takeEffect.slot i).ctx.map = (s.slot i).ctx.map := by
  have h := s.offered_stands h0 h1 h2
  have hat : s.offered.HasAt i s.profile fun st k =>
      k = (s.slot i).ctx.map ∧ st ≠ .off ∧ st ≠ .empty ∧ st ≠ .fault ∧ st ≠ .idle := by
    refine ⟨s.offered_keeps.profile, ?_⟩
    rw [h.work]
    exact ⟨rfl, h0, h1, h2, h3⟩
  obtain ⟨-, hmap, -⟩ := (State.enforcing_hasAt (MapMoves.own _ _)).enforced hat
  rw [State.takeEffect_offered]
  exact hmap

/-- A disabled slot in OFF or FAULT is in EMPTY, its commands answered. -/
theorem State.takeEffect_gone (hst : (s.slot i).ctx.state = .off ∨ (s.slot i).ctx.state = .fault)
    (he : (s.profile.slots[i]).enabled = false) :
    (s.takeEffect.slot i).ctx.state = .empty ∧ s.takeEffect.powerEnable i = false
      ∧ (s.takeEffect.slot i).charge = 0 ∧ (s.takeEffect.slot i).port = Port.reset
      ∧ (s.takeEffect.slot i).pass = (s.slot i).pass.emptied
      ∧ (s.takeEffect.slot i).record = (s.slot i).record ∧ (s.takeEffect.slot i).notice = (s.slot i).notice
      ∧ s.AllAnswered s.takeEffect i 0x41 .empty
      ∧ ((s.slot i).ctx.state = .fault → (s.takeEffect.slot i).ctx.lastActivity = s.takeEffect.now) := by
  obtain ⟨x, a, hgone, rfl, ha⟩ := s.offered_gone hst he
  have hg := (State.enforcing_gone i _ _ _).enforced hgone
  have hnow := s.takeEffect_now
  rw [← State.takeEffect_offered] at hg
  have hrest := (Slot.down_atRest s.profile s.now (st := .empty)
    ((s.work i).mapped (s.profile.slots[i]) (s.slot i).ctx.presentDebounce) rfl).actedAt a
  have hw := hg.work
  refine ⟨hg.slot_state, State.powerEnable_unpowered (by rw [hg.slot_state]; rfl), ?_, ?_, ?_, ?_, ?_,
    State.allAnswered_of_up fun hs hown => (hg.up ⟨hs, hown⟩).2, fun hf => ?_⟩
  · rw [State.slot_charge, hw]; exact hrest.charge
  · rw [State.slot_port, hw]; exact hrest.port
  · rw [State.slot_pass, hw]; rfl
  · rw [State.slot_record, hw]; rfl
  · rw [State.slot_notice, hw]; rfl
  · rw [State.slot_ctx, hw, hnow]; exact ha hf

/-- With the queue in order, a slot in FAULT or EMPTY has no entry (R36). -/
theorem State.QueueOk.noEntry_down (h : s.QueueOk)
    (hst : (s.slot i).ctx.state = .fault ∨ (s.slot i).ctx.state = .empty) : s.NoEntry i := by
  rintro e he rfl
  have hsrc := (h.1 e he).1
  generalize e.kind = k at hsrc
  rcases hst with hs | hs <;> rw [hs] at hsrc <;> cases k <;> cases hsrc

theorem State.QueueOk.takeEffect_fault (h : s.QueueOk) (hst : (s.slot i).ctx.state = .fault)
    (he : (s.profile.slots[i]).enabled = true) : (s.takeEffect.slot i).ctx.state = .fault := by
  obtain ⟨u, hu, hoff⟩ := s.offered_taken (i := i) (.inr (.inr hst))
  have hw := State.work_takeMap_enabled (s := u) (i := i) (by rw [hu.keeps.profile]; exact he)
  have hstate : (s.offered.slot i).ctx.state = .fault := by
    rw [State.slot_ctx, hoff.work, hw]
    exact hu.state.trans hst
  have hat : s.offered.DownAt i .fault (s.offered.work i).ctx.presentDebounce :=
    ⟨⟨hstate, rfl⟩, h.offered.noEntry_down (.inl hstate)⟩
  have hend := (State.enforcing_downAt i (.inl rfl) _).enforced hat
  rw [State.takeEffect_offered]
  exact hend.1.1

theorem State.QueueOk.takeEffect_empty (h : s.QueueOk) (hst : (s.slot i).ctx.state = .empty) :
    (s.takeEffect.slot i).ctx.state = .empty
      ∧ (s.takeEffect.slot i).ctx.presentDebounce
        = (if (s.profile.slots[i]).enabled = false then none
           else if (s.slot i).ctx.map.enabled = false ∧ (s.slot i).presentLine = true then some s.takeEffect.now
           else (s.slot i).ctx.presentDebounce) := by
  obtain ⟨u, hu, hoff⟩ := s.offered_taken (i := i) (.inr (.inl hst))
  have hprof := hu.keeps.profile
  have hstu : (u.slot i).ctx.state = .empty := hu.state.trans hst
  have hd : (s.offered.work i).ctx.state = .empty ∧ (s.offered.work i).ctx.presentDebounce
      = (if (s.profile.slots[i]).enabled = false then none
         else if (s.slot i).ctx.map.enabled = false ∧ (s.slot i).presentLine = true then some s.now
         else (s.slot i).ctx.presentDebounce) := by
    rw [hoff.work]
    cases he : (s.profile.slots[i]).enabled with
    | false =>
      rw [State.work_takeMap_empty (by rw [hprof]; exact he) hstu, if_pos rfl]
      exact ⟨hstu, rfl⟩
    | true =>
      rw [State.work_takeMap_enabled (by rw [hprof]; exact he), if_neg (by simp), hu.work, hu.keeps.now]
      refine ⟨hst, ?_⟩
      change Slot.debounceUnder _ _ = _
      rw [Slot.debounceUnder]
      refine if_congr ?_ rfl rfl
      simp [show (s.work i).ctx.state = .empty from hst]
      exact Iff.rfl
  have hat : s.offered.DownAt i .empty _ := ⟨hd, h.offered.noEntry_down (.inr hd.1)⟩
  have hend := (State.enforcing_downAt i (.inr rfl) _).enforced hat
  rw [State.takeEffect_now, State.takeEffect_offered]
  exact hend.1

/-- A profile taking effect is offered to every slot (R5). -/
theorem State.takeEffect_mapsTaken (s : State) : s.MapsTaken s.takeEffect s.profile := fun _ =>
  ⟨s.takeEffect_taken, State.takeEffect_own, State.takeEffect_gone,
    fun hq => ⟨hq.takeEffect_fault, hq.takeEffect_empty⟩⟩

end mapsTaken

end Sys2Proof.Machine
end

section
/-! PROOFS. What a profile brings to the banks and, under the lock, to park control (R31, R88, R93). -/

namespace Sys2Proof.Machine

/-! ## Budgets and marks -/

section budgets

variable {s : State}

/-- The state whose budgets a profile's taking effect selects. -/
def State.readied (s : State) : State := s.offered.parkProfile.modLoader Loader.ended

theorem State.takeEffect_readied (s : State) : s.takeEffect = s.readied.selectBudgets := s.takeEffect_offered

theorem State.readied_keeps (s : State) : (s.modLoader Loader.ended).Keeps s.readied :=
  s.offered_keeps.parkProfile.modLoader _

theorem State.takeEffect_budget (s : State) (b : BankId) :
    (s.takeEffect.bank b).budget = if s.admission.dock then s.profile.dock[b] else s.profile.battery[b] := by
  have hp : s.readied.profile = s.profile := s.readied_keeps.profile
  have hd : s.readied.admission.dock = s.admission.dock := s.readied_keeps.dock
  rw [State.takeEffect_readied, State.selectBudgets_budget, State.budgetFor, hp, hd]

theorem State.QueueOk.readied (h : s.QueueOk) : s.readied.QueueOk := State.enforcing_queueOk.parkProfile h.offered

theorem State.QueueOk.takeEffect_marked (h : s.QueueOk) (b : BankId) : s.takeEffect.Marked b := by
  rw [State.takeEffect_readied]
  exact State.selectBudgets_marked h.readied b

end budgets

/-! ## The sweep -/

section sweep

variable {i j : SlotId} {p : Profile} {s t : State}

/-- A profile is in force, and no held entry of slot i needs a level above its park level. -/
def State.HoldBelow (i : SlotId) (p : Profile) (s : State) : Prop :=
  s.profile = p ∧ ∀ e ∈ (s.work i).pass.hold, e.cmd.op.above p.parkLevel = false

theorem State.HoldBelow.hold (h : s.HoldBelow i p) :
    ∀ e ∈ (s.slot i).pass.hold, e.cmd.op.above p.parkLevel = false := h.2

/-- An operation that brings no command into the hold queue of its slot. -/
theorem State.HoldBelow.of_onlyAt (h : s.HoldBelow i p) (o : s.OnlyAt j t)
    (hsub : ∀ e ∈ (t.work j).pass.hold, ∃ f ∈ (s.work j).pass.hold, e.cmd = f.cmd) : t.HoldBelow i p := by
  refine ⟨o.profile.trans h.1, fun e he => ?_⟩
  by_cases hj : i = j
  · subst hj
    obtain ⟨f, hf, hcmd⟩ := hsub e he
    rw [hcmd]
    exact h.2 f hf
  · rw [o.others i hj] at he
    exact h.2 e he

theorem State.HoldBelow.scan (h : s.HoldBelow i p) : s.scan.HoldBelow i p := by
  unfold State.scan
  split
  · exact h
  · refine State.scanOver_induct (P := fun _ t => t.HoldBelow i p) id (fun {e _ t} h _ _ _ => ?_) _ _ h
    have hk := (State.Keeps.rfl t).grant e
    refine ⟨hk.profile.trans h.1, ?_⟩
    by_cases he : i = e.slot
    · subst he
      rw [State.grant_work_self]
      exact h.2
    · rw [State.grant_work_ne t e he]
      exact h.2

theorem State.orderDown_hold {e : HoldEntry} (he : e ∈ ((s.orderDown i).work i).pass.hold) :
    e ∈ (s.work i).pass.hold := by
  rcases s.orderDown_cases i with ⟨-, h⟩ | ⟨st, -, h⟩ | ⟨h, -, -⟩ <;> rw [h] at he
  · cases hen : (s.profile.slots[i]).enabled with
    | true =>
      rw [State.work_active, State.work_enterOff_enabled hen] at he
      exact he
    | false =>
      obtain ⟨a, hw⟩ := State.work_enterOff_disabled (s := s) (i := i) hen
      rw [State.work_active, hw] at he
      cases he
  · rw [State.work_enter] at he
    exact he
  · exact he

theorem Passage.mem_dropHeld {a : Passage} {g : Tag} {e : HoldEntry} (h : e ∈ (a.dropHeld g).hold) :
    e ∈ a.hold ∧ e.cmd.args.tag ≠ g := by
  obtain ⟨hmem, hne⟩ := List.mem_filter.mp h
  exact ⟨hmem, by simpa using hne⟩

theorem State.mem_sweepEntry_hold {e f : HoldEntry} (h : f ∈ ((s.sweepEntry i e).work i).pass.hold) :
    f ∈ (s.work i).pass.hold ∧ f.cmd.args.tag ≠ e.cmd.args.tag := by
  rw [State.sweepEntry, State.work_completeSensed, State.work_modPass] at h
  exact Passage.mem_dropHeld h

theorem Slot.forwardedHeld_hold (q : Profile) (n : Nat) (e : HoldEntry) (x : Slot) :
    (x.forwardedHeld q n e).pass.hold = (x.pass.dropHeld e.cmd.args.tag).hold := by
  unfold Slot.forwardedHeld
  cases e.seq <;> rfl

theorem State.enforcing_holdBelow (i : SlotId) (p : Profile) : State.Enforcing (State.HoldBelow i p) where
  scan h := h.scan
  orderDown j h := h.of_onlyAt State.OnlyAt.rfl.orderDown fun e he => ⟨e, State.orderDown_hold he, rfl⟩
  clearMark _ h := h
  compare {s} j h := by
    rcases s.compare_cases j with e | e | ⟨k, -, e⟩ <;> rw [e]
    · exact h
    · exact h
    · exact State.HoldBelow.scan (s := s.setQueue _) h
  reportDemand j h := h.of_onlyAt State.OnlyAt.rfl.reportDemand fun e he => ⟨e, by
    rw [State.work_report_demand] at he
    exact he, rfl⟩
  forwardHeld {s} j e _ h := h.of_onlyAt (State.OnlyAt.rfl.forwardHeld e) fun f hf => ⟨f, by
    rw [State.work_forwardHeld, Slot.forwardedHeld_hold] at hf
    exact (Passage.mem_dropHeld hf).1, rfl⟩
  finishHeld {s} j e _ h := h.of_onlyAt (State.OnlyAt.rfl.finishHeld e) fun f hf => ⟨f, by
    rw [State.work_finishHeld] at hf
    exact (Passage.mem_dropHeld (a := (s.work j).pass) hf).1, rfl⟩
  beginHead {s} j h := h.of_onlyAt State.OnlyAt.rfl.beginHead fun f hf => by
    rw [State.work_beginHead] at hf
    change f ∈ (s.work j).pass.begun.hold at hf
    rw [Passage.begun] at hf
    cases hh : (s.work j).pass.hold with
    | nil =>
      rw [hh] at hf
      cases hf
    | cons e rest =>
      rw [hh] at hf
      rcases List.mem_cons.mp hf with rfl | hf
      · exact ⟨e, List.mem_cons_self, rfl⟩
      · exact ⟨f, List.mem_cons_of_mem _ hf, rfl⟩
  sweepAll {s} j _ h := State.sweepAll_keeps (P := State.HoldBelow i p) (fun {t} e h =>
    h.of_onlyAt (t.sweepEntry_onlyAt j e) fun f hf => ⟨f, (State.mem_sweepEntry_hold hf).1, rfl⟩) _ h
  ended h := h
  selectBudget _ h := h

theorem State.mem_sweepAll_hold {f : HoldEntry} (l : List HoldEntry)
    (h : f ∈ ((State.sweepAll i l s).work i).pass.hold) :
    f ∈ (s.work i).pass.hold ∧ ∀ e ∈ l, f.cmd.args.tag ≠ e.cmd.args.tag := by
  induction l generalizing s with
  | nil => exact ⟨h, fun _ he => (by cases he)⟩
  | cons e rest ih =>
    obtain ⟨hmem, hrest⟩ := ih h
    obtain ⟨hmem, hne⟩ := State.mem_sweepEntry_hold hmem
    exact ⟨hmem, List.forall_mem_cons.mpr ⟨hne, hrest⟩⟩

/-- The sweep of a slot leaves no entry above the park level (R88). -/
theorem State.sweepSlot_below (s : State) (i : SlotId) : (s.sweepSlot i).HoldBelow i s.profile := by
  have hc := State.enforcing_holdBelow i s.profile
  have hmem {e : HoldEntry} (he : e ∈ (s.slot i).pass.hold) (hab : e.cmd.op.above s.profile.parkLevel = true) :
      e ∈ s.swept i := List.mem_filter.mpr ⟨he, hab⟩
  unfold State.sweepSlot
  split
  · next hnone =>
    refine ⟨rfl, fun e he => ?_⟩
    rw [← Bool.not_eq_true]
    intro hab
    have := hmem he hab
    rw [List.isEmpty_iff.mp hnone] at this
    cases this
  · refine hc.settleEnd i (hc.reportAndServe i ⟨?_, fun e he => ?_⟩)
    · exact State.sweepAll_keeps (P := fun t => t.profile = s.profile)
        (fun {t} e h => (t.sweepEntry_onlyAt i e).profile.trans h) _ rfl
    · obtain ⟨he, hne⟩ := State.mem_sweepAll_hold _ he
      rw [← Bool.not_eq_true]
      exact fun hab => hne e (hmem he hab) rfl

theorem State.sweep_below (s : State) (i : SlotId) : s.sweep.HoldBelow i s.profile :=
  State.foldl_each (P := fun t => t.profile = s.profile) (Q := fun i t => t.HoldBelow i s.profile)
    (f := State.sweepSlot)
    (fun {t} j h => ((State.Keeps.rfl t).sweepSlot j).profile.trans h)
    (fun {t} j h => by rw [← h]; exact t.sweepSlot_below j)
    (fun j k _ hq => (State.enforcing_holdBelow k s.profile).sweepSlot j hq)
    allSlots rfl i (.inl (mem_allSlots i))

theorem State.offered_lock (s : State) : s.offered.lock = s.lock := congrArg Park.handle s.offered_keeps.park

/-- Under the lock, a profile's taking effect leaves no held entry above its park level (R88, R93). -/
theorem State.takeEffect_holdBelow (hl : s.lock = true) (i : SlotId) : s.takeEffect.HoldBelow i s.profile := by
  have hc := State.enforcing_holdBelow i s.profile
  have hsweep := s.offered.sweep_below i
  rw [s.offered_keeps.profile] at hsweep
  have hpark : s.offered.parkProfile.HoldBelow i s.profile := by
    unfold State.parkProfile
    rw [if_pos (s.offered_lock.trans hl)]
    exact hc.testAll hsweep
  rw [State.takeEffect_readied]
  exact hc.selectBudgets (hc.ended hpark)

theorem State.parkProfile_below (hl : s.lock = true) (hlow : s.park.lowering = true) (i : SlotId) :
    s.parkProfile.abovePark i = false := by
  have hpark : s.sweep.park = s.park := (State.Keeps.rfl s).sweep.park
  unfold State.parkProfile
  rw [if_pos hl]
  generalize s.sweep = u at hpark
  exact State.testAll_below (by rw [hpark]; exact hlow) i

/-- In the lowering phase no slot is left above the park level (R91, R93). -/
theorem State.takeEffect_belowPark (hl : s.lock = true) (hlow : s.park.lowering = true) (i : SlotId) :
    s.takeEffect.BelowPark i s.profile := by
  have hc := State.closed_belowPark i s.profile
  have hready : s.readied.BelowPark i s.profile :=
    ⟨s.readied_keeps.profile, State.parkProfile_below (s.offered_lock.trans hl)
      ((congrArg Park.lowering s.offered_keeps.park).trans hlow) i⟩
  rw [State.takeEffect_readied]
  exact hc.scan (hc.shed 1 (hc.shed 0 hready))

/-- What a slot at or below the park level is not. -/
theorem State.BelowPark.states (h : s.BelowPark i p) :
    ((s.slot i).ctx.state = .spun → p.parkLevel = .spun ∨ p.parkLevel = .loaded)
      ∧ ((s.slot i).ctx.state = .idle → (s.slot i).pass.flight = [] → p.parkLevel ≠ .off) := by
  obtain ⟨hp, hb⟩ := h
  simp only [State.abovePark, hp] at hb
  refine ⟨fun hst => ?_, fun hst hf hoff => ?_⟩
  · rw [hst] at hb
    cases hl : p.parkLevel <;> rw [hl] at hb
    · cases hb
    · cases hb
    · exact .inl rfl
    · exact .inr rfl
  · rw [hst, hf, hoff] at hb
    cases hb

end sweep

end Sys2Proof.Machine
end

section
/-! PROOFS. The selection of budgets where entries wait: what becomes of the slots that a shed orders down, and of those
that it spares (R31, R39, R45 to R48). -/

namespace Sys2Proof.Machine

/-! ## A slot that is spared -/

section spared

variable {i j : SlotId} {b d : BankId} {x : Slot} {s t : State}

/-- A state is the same as before, or the one that a grant took it into (R6). -/
def SlotSt.RaisedFrom (st st' : SlotSt) : Prop := st' = st ∨ ∃ k : Kind, st = k.source ∧ st' = k.target

theorem SlotSt.RaisedFrom.step {st st' : SlotSt} {k : Kind} (h : st.RaisedFrom st') (hk : st' = k.source) :
    st.RaisedFrom k.target := by
  rcases h with rfl | ⟨c, -, rfl⟩
  · exact .inr ⟨k, hk, rfl⟩
  · cases c <;> cases k <;> cases hk

/-- The queue is in order, and slot j has the work and the map of x and its state, or was granted a step from it. -/
structure State.Spared (x : Slot) (j : SlotId) (s : State) : Prop where
  queue : s.QueueOk
  pass : (s.work j).pass = x.pass
  map : (s.work j).ctx.map = x.ctx.map
  state : x.ctx.state.RaisedFrom (s.work j).ctx.state

theorem State.QueueOk.spared (h : s.QueueOk) (j : SlotId) : s.Spared (s.work j) j := ⟨h, rfl, rfl, .inl rfl⟩

theorem State.Spared.grant {e : AdmEntry} (h : s.Spared x j) (hq : (s.grant e).QueueOk) (he : s.EntryOk e) :
    (s.grant e).Spared x j := by
  by_cases hj : j = e.slot
  · subst hj
    have hw := s.grant_work_self e
    exact ⟨hq, by rw [hw]; exact h.pass, by rw [hw]; exact h.map, by rw [hw]; exact h.state.step he.1⟩
  · have hw := s.grant_work_ne e hj
    exact ⟨hq, by rw [hw]; exact h.pass, by rw [hw]; exact h.map, by rw [hw]; exact h.state⟩

theorem State.Spared.scan (h : s.Spared x j) : s.scan.Spared x j := by
  unfold State.scan
  split
  · exact h
  · refine (State.scanOver_induct (P := fun q t => t.ScanOk q ∧ t.Spared x j) (fun h => ⟨h.1.skip, h.2⟩)
      (fun {e rest t} h _ _ _ => ?_) _ _ ⟨h.queue.scanOk, h⟩).2
    have hg := h.1.grant
    exact ⟨hg, h.2.grant hg.1 (h.1.2.1 e List.mem_cons_self)⟩

theorem State.Spared.orderDown (h : s.Spared x j) (hj : j ≠ i) : (s.orderDown i).Spared x j := by
  have hw := (State.OnlyAt.rfl (i := i) (s := s)).orderDown.others j hj
  exact ⟨h.queue.orderDown i, by rw [hw]; exact h.pass, by rw [hw]; exact h.map, by rw [hw]; exact h.state⟩

/-- A slot that is no candidate of a bank is none after its grant (R47). -/
def Slot.NoCandidate (b : BankId) (x : Slot) : Prop :=
  x.ctx.map.bank ≠ b ∨ (x.ctx.state ≠ .spun ∧ x.ctx.state ≠ .idle) ∨ x.pass.hold ≠ [] ∨ x.pass.flight ≠ []

theorem State.not_shedCandidate_iff : ¬ s.ShedCandidate b j ↔ (s.work j).NoCandidate b := by
  change ¬ ((s.work j).ctx.map.bank = b ∧ ((s.work j).ctx.state = .spun ∨ (s.work j).ctx.state = .idle)
    ∧ (s.work j).pass.hold = [] ∧ (s.work j).pass.flight = []) ↔ _
  rw [not_and_or, not_and_or, not_and_or, not_or]
  rfl

theorem State.Spared.not_candidate (h : s.Spared x j) (hx : x.NoCandidate b) : ¬ s.ShedCandidate b j := by
  rw [State.not_shedCandidate_iff]
  refine hx.imp (fun hb => by rw [h.map]; exact hb) (Or.imp (fun hst => ?_) fun hw => by rw [h.pass]; exact hw)
  rcases h.state with e | ⟨k, -, e⟩
  · rw [e]
    exact hst
  · rw [e]
    cases k <;> exact ⟨SlotSt.noConfusion, SlotSt.noConfusion⟩

/-- A shed spares what is no candidate of its bank. -/
theorem State.Spared.shedRounds (h : s.Spared x j) (hx : x.NoCandidate b) (n : Nat) :
    (State.shedRounds n b s).Spared x j := by
  induction n generalizing s with
  | zero => exact h
  | succ n ih =>
    unfold State.shedRounds
    split
    · split
      · exact h
      · next i hi =>
        refine ih (h.orderDown fun e => h.not_candidate hx ?_)
        rw [e]
        exact (State.shedChoice_first hi).1
    · exact h

theorem State.Spared.clearIfFits (h : s.Spared x j) (b : BankId) : (s.clearIfFits b).Spared x j := by
  unfold State.clearIfFits
  split
  · exact State.Spared.scan (s := s.modBank b _) ⟨h.queue, h.pass, h.map, h.state⟩
  · exact h

theorem State.Spared.shed (h : s.Spared x j) (hx : x.NoCandidate b) : (s.shed b).Spared x j := by
  unfold State.shed
  split
  · exact (h.shedRounds hx 10).clearIfFits b
  · exact h

end spared

/-! ## What a shed makes of a candidate -/

section outcome

variable {j : SlotId} {b : BankId} {x : Slot} {s t : State}

/-- Slot j was ordered down from x: a SPUN slot to STOPPING, an IDLE one to OFF or EMPTY, and stands so. -/
def State.Downed (x : Slot) (j : SlotId) (s : State) : Prop :=
  ∃ y, s.Stands j none y
    ∧ ((y.ctx.state = .stopping ∧ x.ctx.state = .spun) ∨ y.ctx.state = .off ∨ y.ctx.state = .empty)

theorem State.Downed.scan (h : s.Downed x j) : s.scan.Downed x j := by
  obtain ⟨y, hy, hst⟩ := h
  exact ⟨y, hy.scan.2, hst⟩

theorem State.Downed.shed (h : s.Downed x j) (b : BankId) : (s.shed b).Downed x j := by
  obtain ⟨y, hy, hst⟩ := h
  exact ⟨y, (hy.shed b).2, hst⟩

theorem State.Downed.state (h : s.Downed x j) :
    ((s.slot j).ctx.state = .stopping ∨ (s.slot j).ctx.state = .off ∨ (s.slot j).ctx.state = .empty)
      ∧ ((s.slot j).ctx.state = .stopping → x.ctx.state = .spun) := by
  obtain ⟨y, hy, hst⟩ := h
  have hw := hy.work_eq
  rw [State.slot_ctx, hw]
  refine ⟨hst.imp And.left id, fun hs => ?_⟩
  rcases hst with h | h | h
  · exact h.2
  · rw [hs] at h; cases h
  · rw [hs] at h; cases h

theorem State.Spared.state_of_candidate (h : s.Spared x j) (hx : x.ctx.state = .spun ∨ x.ctx.state = .idle) :
    (s.slot j).ctx.state ≠ .stopping ∧ (s.slot j).ctx.state ≠ .off ∧ (s.slot j).ctx.state ≠ .empty := by
  have hst := h.state
  rw [State.slot_ctx]
  rcases hst with e | ⟨k, -, e⟩
  · rw [e]
    rcases hx with hx | hx <;> rw [hx] <;>
      exact ⟨SlotSt.noConfusion, SlotSt.noConfusion, SlotSt.noConfusion⟩
  · rw [e]
    cases k <;> exact ⟨SlotSt.noConfusion, SlotSt.noConfusion, SlotSt.noConfusion⟩

/-- The slot that is given an order has no entry left. -/
theorem State.orderDown_noEntry (h : s.ShedCandidate b j) : (s.orderDown j).NoEntry j := by
  rcases h.2.1 with hst | hst
  · have hd : s.orderDown j = s.enter j .stopping false false := by
      unfold State.orderDown
      rw [hst]
    rw [hd]
    exact s.enter_noEntry j _ _ _
  · exact State.orderDown_idle_noEntry hst

/-- Along the rounds of a shed, a slot of the bank stands with its entries, or has none. -/
theorem State.shedRounds_entry (n : Nat) (b : BankId) (j : SlotId) (s : State) :
    (State.shedRounds n b s).work j = s.work j ∨ (State.shedRounds n b s).NoEntry j := by
  have hnone (n : Nat) : ∀ {t : State}, t.NoEntry j → (State.shedRounds n b t).NoEntry j := by
    induction n with
    | zero => exact id
    | succ n ih =>
      intro t h
      unfold State.shedRounds
      split
      · split
        · exact h
        · next i hi =>
          by_cases hj : j = i
          · subst hj
            exact ih (State.orderDown_noEntry (State.shedChoice_first hi).1)
          · exact ih fun e he hs => h e ((State.OnlyAt.rfl (i := i) (s := t)).orderDown.mem_queue hj he hs) hs
      · exact h
  induction n generalizing s with
  | zero => exact .inl rfl
  | succ n ih =>
    unfold State.shedRounds
    split
    · split
      · exact .inl rfl
      · next i hi =>
        by_cases hj : j = i
        · subst hj
          exact .inr (hnone n (State.orderDown_noEntry (State.shedChoice_first hi).1))
        · rw [← (State.OnlyAt.rfl (i := i) (s := s)).orderDown.others j hj]
          exact ih _
    · exact .inl rfl

/-- What a shed makes of a candidate: an order down where it reaches it (R48), at most a grant elsewhere. -/
theorem State.QueueOk.shed_candidate (hq : s.QueueOk) (ho : (s.bank b).overdraw = true) (hc : s.ShedCandidate b j) :
    (s.ShedReaches b (s.bank b).budget j → (s.shed b).Downed (s.work j) j)
      ∧ (¬ s.ShedReaches b (s.bank b).budget j → (s.shed b).Spared (s.work j) j) := by
  have hto := State.shedRounds_shedTo (s := s) (b := b) 10 (s.candidates_card b) j
  have he : s.shed b = (State.shedRounds 10 b s).clearIfFits b := by rw [State.shed, ho, if_pos rfl]
  have hentry := State.shedRounds_entry 10 b j s
  have hqr := State.enforcing_queueOk.shedRounds 10 b hq
  rw [he]
  generalize State.shedRounds 10 b s = u at *
  refine ⟨fun hr => ?_, fun hr => ?_⟩
  · have hord := hto.1 ⟨hc, hr⟩
    have hnot := hord.not_candidate
    have hbusy : (u.work j).Busy := .inr (.inr ⟨hnot.2, hnot.1⟩)
    have hnone : u.NoEntry j := by
      refine hentry.resolve_left fun e => ?_
      rw [e] at hnot
      exact hc.2.1.elim hnot.1 hnot.2
    refine ⟨u.work j, ((State.Stands.of_work rfl hnone (.inl hbusy)).clearIfFits b).2, ?_⟩
    rw [hord.state]
    by_cases hs : (s.work j).ctx.state = .spun
    · rw [if_pos hs]
      exact .inl ⟨rfl, hs⟩
    · rw [if_neg hs]
      split
      · exact .inr (.inl rfl)
      · exact .inr (.inr rfl)
  · have hw := hto.2 fun h => hr h.2
    have hsp := hqr.spared j
    rw [hw] at hsp
    exact hsp.clearIfFits b

end outcome

end Sys2Proof.Machine
end

section
/-! PROOFS. A selection of budgets by its claims: each bank sheds as the state before it has its sums, its candidates and
their ranking (R31, R46 to R48). -/

namespace Sys2Proof.Machine

/-! ## What a bank sees of the slots -/

section sameBank

variable {j k : SlotId} {b d : BankId} {s t u : State}

/-- Slot k adds the same to the sums of bank d, and is or is not its candidate as it was, unchanged where it is. -/
def State.SlotSame (d : BankId) (k : SlotId) (s t : State) : Prop :=
  t.projShare d k = s.projShare d k ∧ t.share d k = s.share d k
    ∧ (t.ShedCandidate d k ↔ s.ShedCandidate d k) ∧ (s.ShedCandidate d k → t.work k = s.work k)

/-- From s to t, bank d sees no change of a slot, of the profile or of its budget and mark. -/
structure State.SameBank (d : BankId) (s t : State) : Prop where
  profile : t.profile = s.profile
  budget : (t.bank d).budget = (s.bank d).budget
  overdraw : (t.bank d).overdraw = (s.bank d).overdraw
  slot : ∀ k, s.SlotSame d k t

theorem State.SlotSame.of_work (hw : t.work k = s.work k) (hp : t.profile = s.profile) : s.SlotSame d k t :=
  ⟨State.projShare_of_work hw hp, by rw [State.share_eq, State.share_eq, hw], State.shedCandidate_of_work hw,
    fun _ => hw⟩

/-- A slot of another bank, as before. -/
theorem State.SlotSame.of_bank (ht : (t.work k).ctx.map.bank ≠ d) (hs : (s.work k).ctx.map.bank ≠ d) :
    s.SlotSame d k t := by
  refine ⟨?_, ?_, ⟨fun h => absurd h.1 ht, fun h => absurd h.1 hs⟩, fun h => absurd h.1 hs⟩
  · rw [State.projShare, State.projShare, Slot.projShare, Slot.projShare, if_neg ht, if_neg hs]
  · rw [State.share_eq, State.share_eq, if_neg ht, if_neg hs]

/-- A slot that draws nothing and is no candidate, as before. -/
theorem State.SlotSame.of_unpowered (ht : (t.work k).ctx.state.powered = false) (hs : (s.work k).ctx.state.powered = false)
    (htc : (t.work k).charge = 0) (hsc : (s.work k).charge = 0) : s.SlotSame d k t := by
  have hnot {v : State} (h : (v.work k).ctx.state.powered = false) : ¬ v.ShedCandidate d k := by
    rintro ⟨-, hst | hst, -⟩ <;>
      · change (v.work k).ctx.state = _ at hst
        rw [hst] at h
        cases h
  refine ⟨?_, ?_, ⟨fun h => absurd h (hnot ht), fun h => absurd h (hnot hs)⟩, fun h => absurd h (hnot hs)⟩
  · simp only [State.projShare, Slot.projShare, htc, hsc, Nat.zero_min, ite_self]
  · simp only [State.share_eq, htc, hsc, ite_self]

theorem State.SlotSame.trans (h : s.SlotSame d k t) (h' : t.SlotSame d k u) : s.SlotSame d k u :=
  ⟨h'.1.trans h.1, h'.2.1.trans h.2.1, h'.2.2.1.trans h.2.2.1,
    fun hc => (h'.2.2.2 (h.2.2.1.mpr hc)).trans (h.2.2.2 hc)⟩

theorem State.SameBank.rfl : s.SameBank d s :=
  ⟨Eq.refl _, Eq.refl _, Eq.refl _, fun _ => .of_work (Eq.refl _) (Eq.refl _)⟩

theorem State.SameBank.trans (h : s.SameBank d t) (h' : t.SameBank d u) : s.SameBank d u :=
  ⟨h'.profile.trans h.profile, h'.budget.trans h.budget, h'.overdraw.trans h.overdraw,
    fun k => (h.slot k).trans (h'.slot k)⟩

theorem State.SameBank.grant {e : AdmEntry} (he : s.EntryOk e) (hb : e.bank ≠ d) : s.SameBank d (s.grant e) where
  profile := ((State.Keeps.rfl s).grant e).profile
  budget := (s.grant_account e d).1
  overdraw := (s.grant_account e d).2
  slot k := by
    by_cases hk : k = e.slot
    · subst hk
      have hmap : (s.work e.slot).ctx.map.bank ≠ d := fun h => hb (he.2.trans h)
      exact .of_bank (by rw [s.grant_work_self e]; exact hmap) hmap
    · exact .of_work (s.grant_work_ne e hk) ((State.Keeps.rfl s).grant e).profile

/-- A scan grants no entry of a bank in OVERDRAW (R45). -/
theorem State.SameBank.scan (hq : s.QueueOk) (ho : (s.bank d).overdraw = true) : s.SameBank d s.scan := by
  unfold State.scan
  split
  · exact .rfl
  · refine (State.scanOver_induct (P := fun q t => t.ScanOk q ∧ s.SameBank d t) (fun h => ⟨h.1.skip, h.2⟩)
      (fun {e rest t} h _ hclear _ => ?_) _ _ ⟨hq.scanOk, .rfl⟩).2
    refine ⟨h.1.grant, h.2.trans (.grant (h.1.2.1 e List.mem_cons_self) fun hb => ?_)⟩
    rw [hb, h.2.overdraw, ho] at hclear
    cases hclear

theorem State.SameBank.clearIfFits (hq : s.QueueOk) (hd : d ≠ b) (ho : (s.bank d).overdraw = true) :
    s.SameBank d (s.clearIfFits b) := by
  unfold State.clearIfFits
  split
  · have hbank : (s.modBank b fun k => { k with overdraw := false }).bank d = s.bank d :=
      State.bank_modBank_ne _ _ hd
    have hclear : s.SameBank d (s.modBank b fun k => { k with overdraw := false }) :=
      ⟨Eq.refl _, by rw [hbank], by rw [hbank], fun _ => .of_work (Eq.refl _) (Eq.refl _)⟩
    exact hclear.trans (.scan hq (by rw [hbank]; exact ho))
  · exact .rfl

/-- A shed of one bank is nothing to another in OVERDRAW. -/
theorem State.SameBank.shed (hq : s.QueueOk) (hd : d ≠ b) (ho : (s.bank d).overdraw = true) :
    s.SameBank d (s.shed b) := by
  unfold State.shed
  split
  · have hto := State.shedRounds_shedTo (s := s) (b := b) 10 (s.candidates_card b)
    have hp := ((State.Keeps.rfl s).shedRounds 10 b).profile
    have hbank := State.shedRounds_bank 10 b d s
    have hrounds : s.SameBank d (State.shedRounds 10 b s) :=
      ⟨hp, by rw [hbank], by rw [hbank], fun k => State.otherBank_of_cases hd hp (hto.cases k)⟩
    exact hrounds.trans (.clearIfFits (State.enforcing_queueOk.shedRounds 10 b hq) hd (by rw [hbank]; exact ho))
  · exact .rfl

/-- What a bank sees alike, it sheds alike. -/
theorem State.shedReaches_same (hp : t.profile = s.profile) (hs : ∀ k, s.SlotSame d k t) (n : Nat)
    (hc : s.ShedCandidate d j) : t.ShedReaches d n j ↔ s.ShedReaches d n j :=
  State.shedReaches_congr (fun k => (hs k).2.2.1)
    (fun k hk => by
      change (t.work k).shedView = (s.work k).shedView
      rw [(hs k).2.2.2 hk])
    hp (fun k => (hs k).1) hc

end sameBank

/-! ## The selection -/

section selection

variable {j : SlotId} {b d : BankId} {s t : State}

/-- The state in which both banks are marked, before they shed (R44). -/
def State.selected (s : State) : State := (s.selectBudget 0).selectBudget 1

theorem State.selectBudgets_eq (s : State) : s.selectBudgets = ((s.selected.shed 0).shed 1).scan := rfl

/-- A slot that is a candidate of neither bank is spared. -/
theorem State.QueueOk.selection_spared (hq : s.QueueOk) (hx : ∀ b, (s.work j).NoCandidate b) :
    (((s.shed 0).shed 1).scan).Spared (s.work j) j :=
  (((hq.spared j).shed (hx 0)).shed (hx 1)).scan

/-- What the sheds of both banks make of a candidate of one of them: an order down where its bank is in OVERDRAW and
its shed reaches it, at most a grant elsewhere. -/
theorem State.QueueOk.selection_candidate (hq : s.QueueOk) (hc : s.ShedCandidate b j) :
    ((s.bank b).overdraw = true ∧ s.ShedReaches b (s.bank b).budget j →
        (((s.shed 0).shed 1).scan).Downed (s.work j) j)
      ∧ (¬ ((s.bank b).overdraw = true ∧ s.ShedReaches b (s.bank b).budget j) →
        (((s.shed 0).shed 1).scan).Spared (s.work j) j) := by
  have hq0 := State.enforcing_queueOk.shed 0 hq
  have hown : (s.work j).ctx.map.bank = b := hc.1
  have hother : ∀ d, d ≠ b → (s.work j).NoCandidate d := fun d hd => .inl fun e => hd (e.symm.trans hown)
  cases ho : (s.bank b).overdraw with
  | false =>
    refine ⟨fun h => absurd h.1 (by simp), fun _ => State.Spared.scan ?_⟩
    rcases BankId.cases b with rfl | rfl
    · rw [State.shed_of_clear ho]
      exact (hq.spared j).shed (hother 1 (by decide))
    · have hf := (State.closed_flows s).shed 0 State.Flows.rfl
      rw [State.shed_of_clear (s := s.shed 0) (hf.clear ho)]
      exact (hq.spared j).shed (hother 0 (by decide))
  | true =>
    simp only [true_and]
    rcases BankId.cases b with rfl | rfl
    · obtain ⟨h1, h2⟩ := hq.shed_candidate ho hc
      exact ⟨fun hr => ((h1 hr).shed 1).scan, fun hr => ((h2 hr).shed (hother 1 (by decide))).scan⟩
    · have hsame := State.SameBank.shed (b := 0) hq (by decide : (1 : BankId) ≠ 0) ho
      have hw : (s.shed 0).work j = s.work j := (hsame.slot j).2.2.2 hc
      obtain ⟨h1, h2⟩ := hq0.shed_candidate (hsame.overdraw.trans ho) ((hsame.slot j).2.2.1.mpr hc)
      rw [hw, hsame.budget, State.shedReaches_same hsame.profile hsame.slot _ hc] at h1 h2
      exact ⟨fun hr => (h1 hr).scan, fun hr => (h2 hr).scan⟩

/-- The selection of budgets, by its claims. -/
theorem State.QueueOk.budgetsSelected (hq : s.QueueOk) : s.BudgetsSelected s.selectBudgets := by
  have hqs : s.selected.QueueOk := hq
  have hbudget (b : BankId) : (s.selectBudgets.bank b).budget = (s.selected.bank b).budget :=
    s.selectBudgets_flows.budget b
  refine ⟨fun b => ⟨State.selectBudgets_marked hq b, fun j hc => ?_⟩, fun j hp hno => ?_⟩
  · obtain ⟨h1, h2⟩ := hqs.selection_candidate (j := j) (b := b) hc
    have hmark : (s.selected.bank b).overdraw = true ↔ (s.selected.bank b).budget < s.bankSum b :=
      s.selected_marked b
    have hcand : (s.work j).ctx.state = .spun ∨ (s.work j).ctx.state = .idle := hc.2.1
    rw [hbudget, ← hmark, s.selectBudgets_eq]
    by_cases hr : (s.selected.bank b).overdraw = true ∧ s.ShedReaches b (s.selected.bank b).budget j
    · have hd := (h1 hr).state
      exact ⟨⟨fun _ => hr, fun _ => hd.1⟩, hd.2⟩
    · obtain ⟨n1, n2, n3⟩ := (h2 hr).state_of_candidate hcand
      refine ⟨⟨fun h => ?_, fun h => absurd h hr⟩, fun h => absurd h n1⟩
      rcases h with h | h | h
      · exact absurd h n1
      · exact absurd h n2
      · exact absurd h n3
  · have hsp := hqs.selection_spared (j := j) fun b => State.not_shedCandidate_iff.mp (hno b)
    rw [s.selectBudgets_eq, State.slot_ctx]
    have hp' : (s.work j).ctx.state.powered = true := hp
    rcases hsp.state with e | ⟨k, hk, e⟩
    · exact .inl e
    · have hk' : (s.work j).ctx.state = k.source := hk
      rw [e]
      cases k
      · rw [hk'] at hp'
        cases hp'
      · exact .inr (.inl ⟨hk', rfl⟩)
      · exact .inr (.inr ⟨hk', rfl⟩)

end selection

end Sys2Proof.Machine
end

section
/-! PROOFS. The selection of budgets where a profile takes effect, by the state before it (R5, R31, R169). -/

namespace Sys2Proof.Machine

section selected

variable {i j : SlotId} {s t r : State}

theorem SlotSt.powered_iff (st : SlotSt) : st.powered = false ↔ st = .off ∨ st = .empty ∨ st = .fault := by
  cases st <;> simp [SlotSt.powered]

/-- An unpowered slot that draws nothing still does under its entry of the profile. -/
theorem State.takeMap_unpowered (hst : (s.slot i).ctx.state.powered = false) (hc : (s.slot i).charge = 0) :
    ((s.takeMap i).work i).ctx.state.powered = false ∧ ((s.takeMap i).work i).charge = 0 := by
  cases he : (s.profile.slots[i]).enabled with
  | true =>
    rw [State.work_takeMap_enabled he]
    exact ⟨hst, hc⟩
  | false =>
    by_cases hem : (s.slot i).ctx.state = .empty
    · rw [State.work_takeMap_empty he hem]
      exact ⟨hst, hc⟩
    · rw [State.work_takeMap_disabled he hem]
      have hrest := Slot.down_atRest s.profile s.now (st := .empty)
        ((s.work i).mapped (s.profile.slots[i]) (s.slot i).ctx.presentDebounce) rfl
      exact ⟨hrest.powered, hrest.charge⟩

/-- Where an unpowered slot draws nothing, the offering is nothing to the banks. -/
theorem State.offered_slotSame (hq : (s.slot i).Quiet) (d : BankId) : s.SlotSame d i s.offered := by
  by_cases hp : (s.slot i).ctx.state.powered = false
  · obtain ⟨u, hu, hoff⟩ := s.offered_taken ((SlotSt.powered_iff _).mp hp)
    have hc : (s.work i).charge = 0 := (hq.1 hp).1
    obtain ⟨hst, hcharge⟩ := State.takeMap_unpowered (s := u) (i := i) (by rw [hu.state]; exact hp)
      (by rw [State.slot_charge, hu.work]; exact hc)
    refine .of_unpowered ?_ hp ?_ hc <;> rw [hoff.work]
    · exact hst
    · exact hcharge
  · rw [SlotSt.powered_iff, not_or, not_or] at hp
    exact .of_work (s.offered_stands hp.1 hp.2.1 hp.2.2).work s.offered_keeps.profile

theorem State.offered_powered (hp : (s.slot i).ctx.state.powered = true) : s.offered.work i = s.work i := by
  rw [← Bool.not_eq_false, SlotSt.powered_iff, not_or, not_or] at hp
  exact (s.offered_stands hp.1 hp.2.1 hp.2.2).work

/-- The claims of a selection speak of a state as they do of another that the banks see alike. -/
theorem State.BudgetsSelected.of_same (h : r.BudgetsSelected t) (hp : r.profile = s.profile)
    (hs : ∀ d k, s.SlotSame d k r) (hw : ∀ k, (s.slot k).ctx.state.powered = true → r.work k = s.work k) :
    s.BudgetsSelected t := by
  obtain ⟨hbank, hother⟩ := h
  refine ⟨fun b => ⟨(hbank b).1, fun j hc => ?_⟩, fun j hpow hno => ?_⟩
  · have hj := (hbank b).2 j ((hs b j).2.2.1.mpr hc)
    have hst : (r.slot j).ctx.state = (s.slot j).ctx.state := by
      rw [State.slot_ctx, (hs b j).2.2.2 hc]
      rfl
    have hsum : r.bankSum b = s.bankSum b := State.bankSum_congr fun k => (hs b k).2.1
    rw [hsum, hst, State.shedReaches_same hp (hs b) _ hc] at hj
    exact hj
  · have hst : (r.slot j).ctx.state = (s.slot j).ctx.state := by
      rw [State.slot_ctx, hw j hpow]
      rfl
    have hj := hother j (by rw [hst]; exact hpow) fun b hc => hno b ((hs b j).2.2.1.mp hc)
    rw [hst] at hj
    exact hj

/-- In an unlocked part, park control has no part in a profile's taking effect. -/
theorem State.takeEffect_unlocked (hl : s.lock = false) : s.takeEffect = (s.offered.modLoader Loader.ended).selectBudgets := by
  rw [State.takeEffect_readied, State.readied, State.parkProfile, s.offered_lock.trans hl]
  rfl

theorem State.Sound.takeEffect_selected (h : s.Sound) (hl : s.lock = false) : s.BudgetsSelected s.takeEffect := by
  obtain ⟨-, hq, hquiet, -⟩ := h
  rw [State.takeEffect_unlocked hl]
  have hqr := hq.offered
  have hprof := s.offered_keeps.profile
  have hsame := fun d k => State.offered_slotSame (hquiet k) d
  have hpow := fun k (hk : (s.slot k).ctx.state.powered = true) => State.offered_powered hk
  generalize s.offered = a at *
  have hq' : (a.modLoader Loader.ended).QueueOk := hqr
  exact hq'.budgetsSelected.of_same hprof hsame hpow

/-- A profile takes effect, by its claims. -/
theorem State.takeEffect_tookEffect (hp : s.profile.parkLevel ≠ .loaded) : s.TookEffect s.takeEffect s.profile := by
  refine ⟨s.takeEffect_mapsTaken, fun b => ⟨s.takeEffect_budget b, fun hq => hq.takeEffect_marked b⟩,
    State.Sound.takeEffect_selected, fun hl => ⟨fun i => (State.takeEffect_holdBelow hl i).hold, fun hlow i => ?_⟩⟩
  obtain ⟨hspun, hidle⟩ := (State.takeEffect_belowPark hl hlow i).states
  exact ⟨fun hst => (hspun hst).resolve_right hp, hidle⟩

end selected

end Sys2Proof.Machine
end

section
/-! PROOFS. The scan that follows a selection of budgets in a part without power (R31, R168, R169). -/

namespace Sys2Proof.Machine

section scanned

variable {i : SlotId} {e : AdmEntry} {s t v w : State}

/-! ## What stands as it is -/

theorem State.modSlot_same {f : Slot → Slot} (h : f (s.slot i) = s.slot i) : s.modSlot i f = s := by
  rw [State.modSlot, h]
  have hv : s.slots.set i (s.slot i) = s.slots := Vector.set_getElem_self _
  exact congrArg (fun l => { s with slots := l }) hv

/-- A slot that works under its enabling entry already takes nothing new from it. -/
theorem State.takeMap_same (he : (s.profile.slots[i]).enabled = true) (hm : (s.slot i).ctx.map = s.profile.slots[i])
    (hq : ∀ e ∈ s.admission.queue, e.slot = i → e.bank = (s.slot i).ctx.map.bank) : s.takeMap i = s := by
  have hqueue : s.admission.queue.map
      (fun e => if e.slot = i then { e with bank := (s.profile.slots[i]).bank } else e) = s.admission.queue := by
    refine (List.map_congr_left fun e he => ?_).trans (List.map_id _)
    split
    · next hi =>
      rw [← hm, ← hq e he hi]
      rfl
    · rfl
  unfold State.takeMap
  simp only [hqueue]
  rw [if_pos he, hm, he, Bool.not_true, Bool.and_false, Bool.false_and, if_neg (by decide)]
  refine State.modSlot_same (s := s.setQueue s.admission.queue) ?_
  change { s.slot i with ctx := { (s.slot i).ctx with map := s.profile.slots[i] } } = s.slot i
  rw [← hm]

/-- Where every slot works under its enabling entry, and so does every entry that waits, the offering brings
nothing. -/
theorem State.offered_same (hm : ∀ i, (s.slot i).ctx.map = s.profile.slots[i] ∧ (s.profile.slots[i]).enabled = true)
    (hq : ∀ e ∈ s.admission.queue, e.bank = (s.slot e.slot).ctx.map.bank) : s.offered = s := by
  have hone : ∀ i, s.offerMap i = s := fun i => by
    rcases s.offerMap_cases i with ⟨h, -⟩ | ⟨h, -⟩ <;> rw [h]
    exact State.takeMap_same (hm i).2 (hm i).1 fun e he hi => hi ▸ hq e he
  unfold State.offered
  refine State.Closed.foldl (P := fun t => t = s) (fun {t} i h => ?_) allSlots rfl
  rw [h, hone i]

/-- A bank's budget is selected where its sum is 0: it is out of OVERDRAW. -/
theorem State.selectBudget_of_zero {b : BankId} (h : s.bankSum b = 0) :
    s.selectBudget b = s.modBank b fun k => { k with budget := s.budgetFor b, overdraw := false } := by
  unfold State.selectBudget
  rw [h]
  simp

/-- Both budgets selected, with both banks out of OVERDRAW. -/
def State.granting (s : State) : State :=
  let select (b : BankId) (v : State) : State :=
    v.modBank b fun k => { k with budget := s.budgetFor b, overdraw := false }
  select 1 (select 0 s)

theorem State.granting_clear (s : State) (b : BankId) : (s.granting.bank b).overdraw = false := by
  unfold State.granting
  rcases BankId.cases b with rfl | rfl
  · rw [State.bank_modBank_ne _ _ (by decide), State.bank_modBank_self]
  · rw [State.bank_modBank_self]

/-- Without charges the selection makes one scan and no shed (R31). -/
theorem State.selectBudgets_of_zero (h : ∀ i, (s.slot i).charge = 0) : s.selectBudgets = s.granting.scan := by
  have hsum : ∀ b, s.bankSum b = 0 := fun b => by
    rw [State.bankSum_eq]
    refine Finset.sum_eq_zero fun i _ => ?_
    rw [State.share_eq, State.work, h i, ite_self]
  have hsel : s.selected = s.granting := by
    have h1 : (s.selectBudget 0).bankSum 1 = 0 := hsum 1
    rw [State.selected, State.selectBudget_of_zero h1, State.selectBudget_of_zero (hsum 0)]
    rfl
  rw [s.selectBudgets_eq, hsel, State.shed_of_clear (s.granting_clear 0), State.shed_of_clear (s.granting_clear 1)]

/-! ## The loader and the controller link port apart -/

variable {l : Loader} {c : CtrlPort}

theorem State.grantable_apart (hl : l.profile = v.loader.profile) :
    ({ v with loader := l, ctrl := c } : State).Grantable e ↔ v.Grantable e := by
  obtain ⟨q, _⟩ := l
  cases hl
  exact Iff.rfl

theorem State.GrantedTo.apart (hl : l.profile = v.loader.profile) (h : v.GrantedTo w e) :
    ({ v with loader := l, ctrl := c } : State).GrantedTo { w with loader := l, ctrl := c } e := by
  obtain ⟨h1, h2, h3, h4, h5, h6, h7, h8, h9, h10, ⟨hm, hk, -, hr, hd, hh, hp⟩, -, hn, hb⟩ := h
  obtain ⟨q, _⟩ := l
  cases hl
  exact ⟨h1, h2, h3, h4, h5, h6, h7, h8, h9, h10, ⟨hm, hk, rfl, hr, hd, hh, hp⟩, rfl, hn, hb⟩

/-- In an unlocked part without power the taking effect of a profile that the slots have already selects the budgets
and makes one scan. -/
theorem State.takeEffect_bare (hl : s.lock = false) (hc : ∀ i, (s.slot i).charge = 0)
    (hm : ∀ i, (s.slot i).ctx.map = s.profile.slots[i] ∧ (s.profile.slots[i]).enabled = true)
    (hq : ∀ e ∈ s.admission.queue, e.bank = (s.slot e.slot).ctx.map.bank) :
    s.takeEffect = (s.modLoader Loader.ended).granting.scan := by
  rw [State.takeEffect_unlocked hl, State.offered_same hm hq]
  exact State.selectBudgets_of_zero hc

end scanned

end Sys2Proof.Machine
end

section
/-! PROOFS. The statement of an image that passes its check. -/

namespace Sys2Proof.Machine

section passing

variable {s t a : State} {image : List Byte} {p : Profile} {l : Loader} {c : CtrlPort}

/-! ## The end of the read -/

/-- The loader after a read that passed: at rest, or in a reload read where one was marked (R168, R170). -/
def Loader.passed (p : Profile) (again : Bool) (now : Nat) : Loader :=
  { profile := p
    readState := if again then .reloadRead else .idle
    again := false, defaulted := false, rejected := false
    readLimit := if again then some (now + 100) else none }

theorem State.startAgain_eq (s : State) :
    s.startAgain = { s with loader := if s.loader.again then Loader.startReload s.now { s.loader with again := false }
                                      else s.loader } := by
  unfold State.startAgain
  split <;> rfl

theorem State.takeEffect_loader (s : State) : s.takeEffect.loader = s.loader.ended :=
  (State.Keeps.rfl s).takeEffect.loader

/-- A read that passed ends, and a marked reload starts (R168, R170, R171). -/
theorem Loader.passed_eq (s : State) (p : Profile) :
    (if (s.installProfile p).loader.ended.again then
        Loader.startReload s.now { (s.installProfile p).loader.ended with again := false }
      else (s.installProfile p).loader.ended) = Loader.passed p s.loader.again s.now := by
  have he : (s.installProfile p).loader.ended
      = { profile := p, readState := .idle, again := s.loader.again, defaulted := false, rejected := false,
          readLimit := none } := rfl
  rw [he]
  cases s.loader.again <;> rfl

/-- What follows the taking effect of a profile that passed reaches the loader and the device notice alone. -/
theorem State.startAgain_passed (hl : a.loader = (s.installProfile p).loader.ended) (hn : a.now = s.now) :
    a.startAgain = { a with loader := Loader.passed p s.loader.again s.now } := by
  rw [State.startAgain_eq]
  refine congrArg (fun l => { a with loader := l }) ?_
  rw [hl, hn]
  exact Loader.passed_eq s p

theorem State.readPassed_eq (hr : s.loader.readState ≠ .idle) (p : Profile) :
    ∃ c, s.readPassed p
        = { (s.installProfile p).takeEffect with loader := Loader.passed p s.loader.again s.now, ctrl := c }
      ∧ (s.loader.readState = .reloadRead → c.deviceNotice = true ∧ c.causeProfile = true)
      ∧ (s.loader.readState = .powerOnRead → c = (s.installProfile p).takeEffect.ctrl) := by
  have hl := (s.installProfile p).takeEffect_loader
  have hn := (s.installProfile p).takeEffect_now
  unfold State.readPassed
  generalize (s.installProfile p).takeEffect = a at *
  cases hst : s.loader.readState with
  | idle => exact absurd hst hr
  | powerOnRead =>
    refine ⟨a.ctrl, State.startAgain_passed hl hn, fun h => (by cases h), fun _ => rfl⟩
  | reloadRead =>
    refine ⟨a.raiseProfile.ctrl, State.startAgain_passed (a := a.raiseProfile) hl hn, fun _ => ⟨rfl, rfl⟩,
      fun h => (by cases h)⟩

/-- The check of an image, by its words (R164). -/
theorem imagePasses_of_words (h0 : imageWord image 0 % 256 = 1)
    (hs : ((List.range 96).map (imageWord image)).sum % 65536 = 0x4E50) : imagePasses image = true := by
  rw [imagePasses, lowByte, imageSum, h0, hs]
  rfl

theorem exec_profileReadComplete (hc : s.Calm) (hlen : image.length = 192) (hpass : imagePasses image = true) :
    exec (.profileReadComplete image) s = .next (s.readPassed (profileOfImage image)) := by
  change Host.Outcome.next (State.live (fun t => t.takeImage image) s) = _
  rw [State.live_calm hc, State.takeImage, if_neg (by omega), List.take_of_length_le (by omega), if_pos hpass]

theorem profileOfImage_parkLevel (image : List Byte) : (profileOfImage image).parkLevel ≠ .loaded := by
  obtain ⟨h0, h1, h2⟩ := parkLevelOfWord_named (imageWord image 21)
  change parkLevelOfWord (imageWord image 21) ≠ .loaded
  generalize imageWord image 21 = w at *
  match w with
  | 0 => rw [h0 rfl]; exact Level.noConfusion
  | 1 => rw [h1 rfl]; exact Level.noConfusion
  | w + 2 => rw [h2 (by omega)]; exact Level.noConfusion

/-! ## The claims -/

/-- The claims of a profile's taking effect do not speak of the loader or the controller link port. -/
theorem State.TookEffect.apart (h : (s.installProfile p).TookEffect a p) (l : Loader) (c : CtrlPort) :
    s.TookEffect { a with loader := l, ctrl := c } p := h

/-- The one scan of an unlocked part without power, by its claims. -/
theorem State.scannedAfter (hp : l.profile = p)
    (hn : (s.installProfile p).takeEffect.now = s.now) :
    s.ScannedAfter { (s.installProfile p).takeEffect with loader := l, ctrl := c } p := by
  intro hlock hbare
  have heff (hq : ∀ e ∈ s.admission.queue, e.bank = (s.slot e.slot).ctx.map.bank) :
      (s.installProfile p).takeEffect = ((s.installProfile p).modLoader Loader.ended).granting.scan :=
    State.takeEffect_bare (s := s.installProfile p) hlock (fun i => (hbare i).2.1) (fun i => (hbare i).2.2) hq
  generalize (s.installProfile p).takeEffect = a at *
  intro select u
  have hu : u = { ((s.installProfile p).modLoader Loader.ended).granting with loader := l, ctrl := c } := by
    simp only [u, select, hn]
    rfl
  have hidle : ((s.installProfile p).modLoader Loader.ended).granting.loader.readState ≠ .powerOnRead :=
    ReadState.noConfusion
  have hprof : l.profile = ((s.installProfile p).modLoader Loader.ended).granting.loader.profile := hp
  have hqueue : ((s.installProfile p).modLoader Loader.ended).granting.admission.queue = s.admission.queue := rfl
  rw [hu]
  generalize ((s.installProfile p).modLoader Loader.ended).granting = v at *
  refine ⟨fun hq => ?_, fun e hq hb => ?_⟩
  · rw [heff fun e he => (by rw [hq] at he; cases he), State.scan_of_empty (by rw [hqueue]; exact hq)]
  · have hscan := heff fun f hf => by
      rw [hq, List.mem_singleton] at hf
      rw [hf]
      exact hb
    obtain ⟨h1, h2⟩ := State.scan_one (u := v) (e := e) hidle (by rw [hqueue]; exact hq)
    rw [State.grantable_apart hprof, hscan]
    refine ⟨fun hg => ⟨(h1 hg).1.apart hprof, (h1 hg).2⟩, fun hg => ?_⟩
    rw [h2 hg]

end passing

/-- Settles O47: the end of the read, and what the taking effect of the profile brings to the slots, the banks, park
control and the device notice, each by its own lemma. -/
theorem passingImagesTakeEffect : Obligations.PassingImagesTakeEffect := by
  unfold Obligations.PassingImagesTakeEffect
  intro s image hc hr hlen h0 hsum
  refine ⟨profileOfImage_ofWords image, ?_⟩
  obtain ⟨c, heq, hreload, hpower⟩ := State.readPassed_eq hr (profileOfImage image)
  have hk := (State.Keeps.rfl (s.installProfile (profileOfImage image))).takeEffect
  have htook := State.takeEffect_tookEffect (s := s.installProfile (profileOfImage image))
    (profileOfImage_parkLevel image)
  have hquiet := (s.installProfile (profileOfImage image)).takeEffect_quieter
  have hscan := State.scannedAfter (s := s) (c := c)
    (l := Loader.passed (profileOfImage image) s.loader.again s.now) (p := profileOfImage image) rfl hk.now
  refine ⟨_, (exec_profileReadComplete hc hlen (imagePasses_of_words h0 hsum)).trans (congrArg _ heq), ?_⟩
  generalize (s.installProfile (profileOfImage image)).takeEffect = a at *
  refine ⟨rfl, State.TookEffect.apart htook _ c, hscan, hreload, fun hp => ?_, hk.motion, hk.park, hk.now⟩
  rw [hpower hp]
  exact hquiet

end Sys2Proof.Machine
end

section
/-! PROOFS. The DOCK line: its debounce, and the selection of budgets at the debounce's end (R30, R31). -/

namespace Sys2Proof.Machine

section dock

variable {s : State} {t0 : Nat} {level : Bool}

theorem exec_dockChange (level : Bool) (s : State) :
    exec (.dockChange level) s
      = .next (State.lineEvent (fun t => { t with dockLine := level }) State.dockMoves s) := rfl

theorem exec_dockDebounceComplete (s : State) :
    exec .dockDebounceComplete s = .next (State.live State.dockSettles s) := rfl

/-- The state at the end of a debounce of DOCK begun at t0, with the level recognized and the budgets not yet
selected (R30). -/
def State.dockRecognized (s : State) (t0 : Nat) : State :=
  { s.reach (t0 + Config.lineDebounceMs) with
    admission := { s.admission with dockDebounce := none, dock := s.dockLine } }

theorem State.dockSettles_of_none (h : s.admission.dockDebounce = none) : s.dockSettles = s := by
  unfold State.dockSettles
  rw [h]

theorem State.dockSettles_of_some (h : s.admission.dockDebounce = some t0) :
    s.dockSettles = (s.dockRecognized t0).selectBudgets := by
  unfold State.dockSettles
  rw [h]
  rfl

/-- Recognizing the level of DOCK is nothing to the admission queue. -/
theorem State.QueueOk.dockRecognized (h : s.QueueOk) (t0 : Nat) : (s.dockRecognized t0).QueueOk := h

/-- What the selection at the end of the debounce brings is told by the state before it: recognizing DOCK leaves
the slots and the profile. -/
theorem State.QueueOk.dockSettles_selected (h : s.QueueOk) (t0 : Nat) :
    s.BudgetsSelected (s.dockRecognized t0).selectBudgets := (h.dockRecognized t0).budgetsSelected

end dock

/-- Settles O33: a change of DOCK moves the debounce alone, and its end is a selection of budgets at the recognized
level. -/
theorem dockSelectsTheBudgets : Obligations.DockSelectsTheBudgets := by
  unfold Obligations.DockSelectsTheBudgets
  intro s hc
  refine ⟨fun level => ?_, fun t0 hd => ⟨_, exec_dockDebounceComplete s, ?_⟩⟩
  · rw [exec_dockChange, State.lineEvent_calm (s := s) _ State.dockMoves hc]
    rfl
  · have hkeeps := (State.Keeps.rfl (s.dockRecognized t0)).selectBudgets
    rw [State.live_calm hc, State.dockSettles_of_some hd]
    exact ⟨hkeeps.now, hkeeps.dock, hkeeps.dockDebounce, fun b => State.selectBudgets_budget _ b,
      fun hq => hq.dockSettles_selected t0⟩

end Sys2Proof.Machine
end

section
/-! PROOFS. The accounts of the banks: what a slot adds to a bank's sum, and the law of sums and budgets as the operations
keep it (R33, R44, R45). Between the fall of a slot's charge and the admission unit's reaction to it, a bank in OVERDRAW
may fit its budget: its mark is then due for an evaluation. -/

namespace Sys2Proof.Machine

/-! ## Shares and sums -/

section shares

variable {b d : BankId} {i : SlotId} {s t : State} {x y : Slot}

/-- What a slot adds to the sum of bank b (R33). -/
def Slot.share (b : BankId) (x : Slot) : Nat := if x.ctx.map.bank = b then x.charge else 0

theorem State.share_work (s : State) (b : BankId) (i : SlotId) : s.share b i = (s.work i).share b := rfl

theorem Slot.share_own (x : Slot) : x.share x.ctx.map.bank = x.charge := if_pos rfl

theorem Slot.share_other (h : b ≠ x.ctx.map.bank) : x.share b = 0 := if_neg (Ne.symm h)

theorem Slot.share_free (h : x.charge = 0) : x.share b = 0 := by simp [Slot.share, h]

/-- From x to y, a slot's charge did not rise; and it stayed with its bank, or draws nothing. -/
structure Slot.Relieved (x y : Slot) : Prop where
  charge : y.charge ≤ x.charge
  bank : y.ctx.map.bank = x.ctx.map.bank ∨ y.charge = 0

theorem Slot.Relieved.share_le (h : x.Relieved y) (b : BankId) : y.share b ≤ x.share b := by
  have hc := h.charge
  rcases h.bank with e | e
  · unfold Slot.share
    rw [e]
    split
    · exact hc
    · exact le_rfl
  · rw [Slot.share_free e]
    exact Nat.zero_le _

theorem Slot.Relieved.share_other (h : x.Relieved y) (hb : b ≠ x.ctx.map.bank) : y.share b = x.share b := by
  have := h.share_le b
  rw [Slot.share_other hb] at this ⊢
  omega

/-- A slot whose charge did not change adds to every bank what it did. -/
theorem Slot.Relieved.share_same (h : x.Relieved y) (hc : x.charge ≤ y.charge) (b : BankId) :
    y.share b = x.share b := by
  have hle := h.charge
  have he : y.charge = x.charge := by omega
  rcases h.bank with e | e
  · rw [Slot.share, Slot.share, e, he]
  · rw [Slot.share_free e, Slot.share_free (he ▸ e)]

/-- A change of slot i alone changes a sum by what it changes of the slot's share. -/
theorem State.OnlyAt.bankSum (o : s.OnlyAt i t) (b : BankId) :
    t.bankSum b + (s.work i).share b = s.bankSum b + (t.work i).share b := by
  have h := sum_change (f := s.share b) (g := t.share b) i fun k hk => by
    rw [State.share_work, State.share_work, o.others k hk]
  rw [State.bankSum_eq, State.bankSum_eq]
  exact h

end shares

/-! ## The law of sums and budgets -/

/-- Every bank but b, of those given. -/
def exceptBank (b : BankId) (m : BankId → Prop) (d : BankId) : Prop := d ≠ b ∧ m d

/-- The sum of a bank out of OVERDRAW is within its budget, and that of a bank in OVERDRAW within the cap given; and
a bank in OVERDRAW exceeds its budget, if it is one of those marked so. -/
structure State.Balanced (m : BankId → Prop) (cap : BankId → Nat) (s : State) : Prop where
  within : ∀ b, (s.bank b).overdraw = false → s.bankSum b ≤ (s.bank b).budget
  capped : ∀ b, (s.bank b).overdraw = true → s.bankSum b ≤ cap b
  exceeds : ∀ b, m b → (s.bank b).overdraw = true → (s.bank b).budget < s.bankSum b

section balanced

variable {m n : BankId → Prop} {cap : BankId → Nat} {b : BankId} {i : SlotId} {s t : State}

theorem State.Balanced.mono (h : s.Balanced m cap) (hn : ∀ b, n b → m b) : s.Balanced n cap :=
  ⟨h.within, h.capped, fun b hb => h.exceeds b (hn b hb)⟩

theorem State.Balanced.except (h : s.Balanced m cap) (b : BankId) : s.Balanced (exceptBank b m) cap :=
  h.mono fun _ => And.right

/-- Accounts that stand and sums that do not rise keep the law, for the banks whose sums stand. -/
theorem State.Balanced.of_falls (h : s.Balanced m cap)
    (hbank : ∀ b, (t.bank b).budget = (s.bank b).budget ∧ (t.bank b).overdraw = (s.bank b).overdraw)
    (hsum : ∀ b, t.bankSum b ≤ s.bankSum b) (hn : ∀ b, n b → m b ∧ t.bankSum b = s.bankSum b) :
    t.Balanced n cap where
  within b ho := by
    obtain ⟨e1, e2⟩ := hbank b
    rw [e2] at ho
    rw [e1]
    exact (hsum b).trans (h.within b ho)
  capped b ho := by
    rw [(hbank b).2] at ho
    exact (hsum b).trans (h.capped b ho)
  exceeds b hb ho := by
    obtain ⟨e1, e2⟩ := hbank b
    obtain ⟨hm, e⟩ := hn b hb
    rw [e2] at ho
    rw [e1, e]
    exact h.exceeds b hm ho

theorem State.Balanced.of_same (h : s.Balanced m cap)
    (hbank : ∀ b, (t.bank b).budget = (s.bank b).budget ∧ (t.bank b).overdraw = (s.bank b).overdraw)
    (hsum : ∀ b, t.bankSum b = s.bankSum b) : t.Balanced m cap :=
  h.of_falls hbank (fun b => (hsum b).le) fun b hb => ⟨hb, hsum b⟩

/-- A slot relieved leaves its bank alone due for an evaluation (R33, R45). -/
theorem State.Balanced.relieved (h : s.Balanced m cap) (o : s.OnlyAt i t)
    (hr : (s.work i).Relieved (t.work i)) : t.Balanced (exceptBank (s.work i).ctx.map.bank m) cap := by
  refine h.of_falls (fun b => ?_) (fun b => ?_) fun b hb => ⟨hb.2, ?_⟩
  · rw [o.bank b]
    exact ⟨rfl, rfl⟩
  · have hsum := o.bankSum b
    have hle := hr.share_le b
    omega
  · have hsum := o.bankSum b
    have he := hr.share_other hb.1
    omega

/-- A slot relieved of nothing leaves no bank due. -/
theorem State.Balanced.unrelieved (h : s.Balanced m cap) (o : s.OnlyAt i t)
    (hr : (s.work i).Relieved (t.work i)) (hc : (s.work i).charge ≤ (t.work i).charge) : t.Balanced m cap := by
  refine h.of_same (fun b => ?_) fun b => ?_
  · rw [o.bank b]
    exact ⟨rfl, rfl⟩
  · have hsum := o.bankSum b
    have he := hr.share_same hc b
    omega

/-- A bank that was due is evaluated: it is out of OVERDRAW, or exceeds its budget (R45). -/
theorem State.Balanced.evaluated (h : s.Balanced (exceptBank b m) cap)
    (hb : (s.bank b).overdraw = true → (s.bank b).budget < s.bankSum b) : s.Balanced m cap where
  within := h.within
  capped := h.capped
  exceeds d hd ho := by
    by_cases he : d = b
    · subst he
      exact hb ho
    · exact h.exceeds d ⟨he, hd⟩ ho

theorem State.Balanced.of_clear (h : s.Balanced (exceptBank b m) cap) (ho : (s.bank b).overdraw = false) :
    s.Balanced m cap := h.evaluated fun e => by rw [ho] at e; cases e

/-- The mark of a bank that fits its budget is cleared (R45). -/
theorem State.Balanced.clearMark (h : s.Balanced (exceptBank b m) cap) (hfit : s.bankSum b ≤ (s.bank b).budget) :
    (s.modBank b fun k => { k with overdraw := false }).Balanced m cap := by
  have hsum (d : BankId) : (s.modBank b fun k => { k with overdraw := false }).bankSum d = s.bankSum d := rfl
  have hself := State.bank_modBank_self s b fun k => { k with overdraw := false }
  refine State.Balanced.of_clear (b := b) ⟨fun d ho => ?_, fun d ho => ?_, fun d hd ho => ?_⟩ (by rw [hself])
  all_goals
    rw [hsum]
    by_cases he : d = b
  · subst he
    rw [hself]
    exact hfit
  · rw [State.bank_modBank_ne _ _ he] at ho ⊢
    exact h.within d ho
  · subst he
    rw [hself] at ho
    cases ho
  · rw [State.bank_modBank_ne _ _ he] at ho
    exact h.capped d ho
  · exact absurd he hd.1
  · rw [State.bank_modBank_ne _ _ he] at ho ⊢
    exact h.exceeds d hd ho

/-- The sum of one bank rises within its budget, out of OVERDRAW, and the others stand. -/
theorem State.Balanced.of_rise (h : s.Balanced m cap)
    (hbank : ∀ b, (t.bank b).budget = (s.bank b).budget ∧ (t.bank b).overdraw = (s.bank b).overdraw)
    (ho : (s.bank b).overdraw = false) (hfit : t.bankSum b ≤ (s.bank b).budget)
    (hsum : ∀ d, d ≠ b → t.bankSum d = s.bankSum d) : t.Balanced m cap := by
  have hne {d : BankId} (hd : (s.bank d).overdraw = true) : d ≠ b := fun e => by
    rw [e, ho] at hd
    cases hd
  refine ⟨fun d hd => ?_, fun d hd => ?_, fun d hm hd => ?_⟩ <;> rw [(hbank d).2] at hd
  · rw [(hbank d).1]
    by_cases he : d = b
    · subst he
      exact hfit
    · rw [hsum d he]
      exact h.within d hd
  · rw [hsum d (hne hd)]
    exact h.capped d hd
  · rw [hsum d (hne hd), (hbank d).1]
    exact h.exceeds d hm hd

/-- The grant of an entry that fits, to a bank out of OVERDRAW (R39, R40). -/
theorem State.Balanced.grant {e : AdmEntry} (h : s.Balanced m cap) (he : s.EntryOk e)
    (ho : (s.bank e.bank).overdraw = false) (hf : s.fits e = true) : (s.grant e).Balanced m cap := by
  have hsum := State.grant_bankSum he
  refine h.of_rise (s.grant_account e) ho ?_ fun d hd => ?_
  · rw [hsum, if_pos rfl]
    exact of_decide_eq_true hf
  · rw [hsum, if_neg hd, Nat.add_zero]

/-- A slot's charge rises within the budget of its bank, out of OVERDRAW (R11). -/
theorem State.Balanced.raised (h : s.Balanced m cap) (o : s.OnlyAt i t)
    (hmap : (t.work i).ctx.map.bank = (s.work i).ctx.map.bank)
    (ho : (s.bank (s.work i).ctx.map.bank).overdraw = false)
    (hfit : s.bankSum (s.work i).ctx.map.bank + ((t.work i).charge - (s.work i).charge)
      ≤ (s.bank (s.work i).ctx.map.bank).budget) : t.Balanced m cap := by
  refine h.of_rise (fun d => by rw [o.bank d]; exact ⟨rfl, rfl⟩) ho ?_ fun d hd => ?_
  · have hsum := o.bankSum (s.work i).ctx.map.bank
    have hown : (t.work i).share (s.work i).ctx.map.bank = (t.work i).charge := by rw [← hmap, Slot.share_own]
    rw [Slot.share_own, hown] at hsum
    omega
  · have hsum := o.bankSum d
    rw [Slot.share_other hd, Slot.share_other (x := t.work i) (by rw [hmap]; exact hd)] at hsum
    exact hsum

end balanced

end Sys2Proof.Machine
end

section
/-! PROOFS. The admission unit keeps the law of sums and budgets: its scans grant what fits, its sheds lower charges, and
the reaction to the fall of a slot's charge evaluates the slot's bank (R33, R39, R45, R48). -/

namespace Sys2Proof.Machine

/-! ## What an operation does to the charge of its slot -/

section charges

variable {i : SlotId} {s t : State} {x y z : Slot}

/-- From s to t, slot i alone changed, and neither its state, its map and its charge nor the queue did. -/
structure State.Aside (i : SlotId) (s t : State) : Prop where
  only : s.OnlyAt i t
  queue : t.admission.queue = s.admission.queue
  state : (t.slot i).ctx.state = (s.slot i).ctx.state
  map : (t.slot i).ctx.map = (s.slot i).ctx.map
  charge : (t.slot i).charge = (s.slot i).charge

theorem State.Aside.rfl : s.Aside i s :=
  ⟨State.OnlyAt.rfl, Eq.refl _, Eq.refl _, Eq.refl _, Eq.refl _⟩

/-- A further change of slot i that leaves its state, its map, its charge and its upstream queue. -/
theorem State.Aside.modSlot (h : s.Aside i t) (f : Slot → Slot)
    (hf : ∀ x : Slot, (f x).ctx.state = x.ctx.state ∧ (f x).ctx.map = x.ctx.map ∧ (f x).charge = x.charge
      ∧ (f x).upstream = x.upstream) : s.Aside i (t.modSlot i f) := by
  have hx := State.slot_modSlot_self t i f
  obtain ⟨h1, h2, h3, -⟩ := hf (t.slot i)
  exact ⟨h.only.modSlot f fun x => (hf x).2.2.2, h.queue, (congrArg (·.ctx.state) hx).trans (h1.trans h.state),
    (congrArg (·.ctx.map) hx).trans (h2.trans h.map), (congrArg (·.charge) hx).trans (h3.trans h.charge)⟩

theorem State.Aside.modCtx (h : s.Aside i t) (f : SlotContext → SlotContext)
    (hf : ∀ c, (f c).state = c.state ∧ (f c).map = c.map) : s.Aside i (t.modCtx i f) :=
  h.modSlot _ fun x => ⟨(hf x.ctx).1, (hf x.ctx).2, Eq.refl _, Eq.refl _⟩

theorem State.Aside.modPass (h : s.Aside i t) (f : Passage → Passage) : s.Aside i (t.modPass i f) :=
  h.modSlot _ fun _ => ⟨Eq.refl _, Eq.refl _, Eq.refl _, Eq.refl _⟩

theorem State.Aside.modPort (h : s.Aside i t) (f : Port → Port) : s.Aside i (t.modPort i f) :=
  h.modSlot _ fun _ => ⟨Eq.refl _, Eq.refl _, Eq.refl _, Eq.refl _⟩

theorem State.Aside.active (h : s.Aside i t) : s.Aside i (t.active i) :=
  h.modSlot _ fun _ => ⟨Eq.refl _, Eq.refl _, Eq.refl _, Eq.refl _⟩

theorem State.Aside.touchIdle (h : s.Aside i t) : s.Aside i (t.touchIdle i) :=
  h.modSlot _ fun _ => ⟨Eq.refl _, Eq.refl _, Eq.refl _, Eq.refl _⟩

theorem State.Aside.submit (h : s.Aside i t) (code : SenseCode) (tag : Option Tag) (n : Option Nat) (st : SlotSt)
    (held : Nat) : s.Aside i (t.submit i code tag n st held) :=
  h.modSlot _ fun _ => ⟨Eq.refl _, Eq.refl _, Eq.refl _, Eq.refl _⟩

theorem State.Aside.handUp (h : s.Aside i t) (f : UpFrame) : s.Aside i (t.handUp i f) := by
  have hw := State.work_handUp t i f i
  exact ⟨h.only.handUp f, (by simpa using h.queue), (congrArg (·.ctx.state) hw).trans h.state,
    (congrArg (·.ctx.map) hw).trans h.map, (congrArg (·.charge) hw).trans h.charge⟩

theorem State.Aside.complete (h : s.Aside i t) (c : Cmd) (code : Byte) : s.Aside i (t.complete i c code) :=
  (h.handUp _).active

theorem State.Aside.completeSensed (h : s.Aside i t) (c : Cmd) (code : Byte) (k : SenseCode) :
    s.Aside i (t.completeSensed i c code k) := (h.complete c code).submit _ _ _ _ _

theorem State.Aside.forward (h : s.Aside i t) (c : Cmd) (q : Seq) (n : Nat) : s.Aside i (t.forward i c q n) :=
  ((h.modPass _).modPort _).active

theorem State.Aside.forwardNew (h : s.Aside i t) (c : Cmd) : s.Aside i (t.forwardNew i c) :=
  (h.modPass _).forward c _ _

theorem State.Aside.forwardHeld (h : s.Aside i t) (e : HoldEntry) : s.Aside i (t.forwardHeld i e) := by
  unfold State.forwardHeld
  simp only
  split
  · exact (h.modPass _).forward _ _ _
  · exact (h.modPass _).forwardNew _

theorem State.Aside.finishHeld (h : s.Aside i t) (e : HoldEntry) : s.Aside i (t.finishHeld i e) :=
  (h.modPass _).complete _ _

theorem State.Aside.sweepEntry (h : s.Aside i t) (e : HoldEntry) : s.Aside i (t.sweepEntry i e) :=
  (h.modPass _).completeSensed _ _ _

theorem Slot.Relieved.rfl : x.Relieved x := ⟨le_rfl, .inl (Eq.refl _)⟩

/-- What draws nothing is relieved. -/
theorem Slot.Relieved.of_free (h : y.charge = 0) : x.Relieved y := ⟨by omega, .inr h⟩

/-- Entering a state on any other than a raising transition relieves a slot (R32). -/
theorem Slot.Relieved.of_enter (p : Profile) (n : Nat) (st : SlotSt) (k : Bool) (x : Slot) :
    x.Relieved (x.enter p n st false k) := ⟨Slot.chargeOn_lowering p x st, .inl (Eq.refl _)⟩

theorem State.Aside.relieved (h : t.Aside i s) (hr : x.Relieved (t.work i)) : x.Relieved (s.work i) :=
  ⟨h.charge.trans_le hr.charge,
    hr.bank.imp (congrArg SlotMap.bank h.map).trans h.charge.trans⟩

/-- A slot that draws nothing draws nothing under its entry of the profile. -/
theorem State.takeMap_free (h : (s.work i).charge = 0) : ((s.takeMap i).work i).charge = 0 := by
  by_cases he : (s.profile.slots[i]).enabled = true
  · rw [State.work_takeMap_enabled he]
    exact h
  rw [Bool.not_eq_true] at he
  by_cases hst : (s.slot i).ctx.state = .empty
  · rw [State.work_takeMap_empty he hst]
    exact h
  · rw [State.work_takeMap_disabled he hst]
    rfl

/-- A slot enters OFF drawing nothing (R32). -/
theorem State.enterOff_free (s : State) (i : SlotId) : ((s.enterOff i).work i).charge = 0 := by
  rw [State.enterOff_eq]
  refine State.takeMap_free ?_
  rw [State.work_offAnswered]
  rfl

/-- A slot enters FAULT or EMPTY drawing nothing (R32). -/
theorem State.enterDown_free (s : State) (i : SlotId) {st : SlotSt} (code : Byte) (h : st.powered = false) :
    ((s.enterDown i st code).work i).charge = 0 := by
  rw [State.work_enterDown s i code h]
  exact (Slot.enter_unpowered s.profile s.now st false false (s.work i) h).1

theorem State.orderDown_relieved (s : State) (i : SlotId) : (s.work i).Relieved ((s.orderDown i).work i) := by
  rcases s.orderDown_cases i with ⟨-, e⟩ | ⟨st, -, e⟩ | ⟨e, -, -⟩ <;> rw [e]
  · exact .of_free (by rw [State.work_active]; exact s.enterOff_free i)
  · rw [State.work_enter]
    exact .of_enter _ _ _ _ _
  · exact .rfl

end charges

/-! ## The ledger -/

/-- The queue is in order and the sums and the budgets keep their law, but for the marks of the banks that are due. -/
structure State.Ledger (m : BankId → Prop) (cap : BankId → Nat) (s : State) : Prop where
  queue : s.QueueOk
  balanced : s.Balanced m cap

section ledger

variable {m n : BankId → Prop} {cap : BankId → Nat} {b : BankId} {i : SlotId} {s t : State}

theorem State.Ledger.mono (h : s.Ledger m cap) (hn : ∀ b, n b → m b) : s.Ledger n cap :=
  ⟨h.queue, h.balanced.mono hn⟩

theorem State.Ledger.except (h : s.Ledger m cap) (b : BankId) : s.Ledger (exceptBank b m) cap :=
  ⟨h.queue, h.balanced.except b⟩

/-- A state with the same slots, queue, budgets and marks. -/
theorem State.Ledger.of_same (h : s.Ledger m cap) (hw : ∀ j, t.work j = s.work j)
    (hq : t.admission.queue = s.admission.queue)
    (hb : ∀ b, (t.bank b).budget = (s.bank b).budget ∧ (t.bank b).overdraw = (s.bank b).overdraw) :
    t.Ledger m cap := by
  obtain ⟨hentries, hnodup⟩ := h.queue
  refine ⟨⟨fun e he => ?_, by rw [hq]; exact hnodup⟩, h.balanced.of_same hb fun b => ?_⟩
  · rw [hq] at he
    exact (hentries e he).of_work (by rw [hw]) (by rw [hw])
  · exact State.bankSum_congr fun k => by rw [State.share_work, State.share_work, hw]

theorem State.Ledger.aside (h : s.Ledger m cap) (a : s.Aside i t) : t.Ledger m cap :=
  ⟨h.queue.of_onlyAt a.only a.state a.map a.queue,
    h.balanced.unrelieved a.only (a.relieved .rfl) a.charge.ge⟩

/-! ## The scan -/

theorem State.Ledger.scan (h : s.Ledger m cap) : s.scan.Ledger m cap := by
  refine ⟨h.queue.scan, ?_⟩
  unfold State.scan
  split
  · exact h.balanced
  · exact (State.scanOver_induct (P := fun q t => t.ScanOk q ∧ t.Balanced m cap) (fun h => ⟨h.1.skip, h.2⟩)
      (fun {e rest t} h _ ho hf => ⟨h.1.grant, h.2.grant (h.1.2.1 e List.mem_cons_self) ho hf⟩) _ _
      ⟨h.queue.scanOk, h.balanced⟩).2

/-- A scan does nothing to a slot whose bank is in OVERDRAW (R45). -/
theorem State.scan_overdrawn (hq : s.QueueOk) (ho : (s.bank (s.work i).ctx.map.bank).overdraw = true) :
    s.scan.work i = s.work i := by
  unfold State.scan
  split
  · rfl
  · refine (State.scanOver_induct (P := fun q t => t.ScanOk q ∧ t.work i = s.work i
      ∧ (t.bank (s.work i).ctx.map.bank).overdraw = true) (fun h => ⟨h.1.skip, h.2⟩)
      (fun {e rest t} h _ hclear _ => ?_) _ _ ⟨hq.scanOk, rfl, ho⟩).2.1
    obtain ⟨hok, hw, hd⟩ := h
    have he : t.EntryOk e := hok.2.1 e List.mem_cons_self
    have hne : i ≠ e.slot := fun hi => by
      have hbank : e.bank = (s.work i).ctx.map.bank := by
        rw [← hw, hi]
        exact he.2
      rw [hbank, hd] at hclear
      cases hclear
    exact ⟨hok.grant, (t.grant_work_ne e hne).trans hw, by rw [(t.grant_account e _).2]; exact hd⟩

/-! ## Shedding and evaluation -/

theorem State.Ledger.clearIfFits (h : s.Ledger (exceptBank b m) cap) : (s.clearIfFits b).Ledger m cap := by
  unfold State.clearIfFits
  split
  · next hfit =>
    rw [Bool.and_eq_true, decide_eq_true_iff] at hfit
    exact State.Ledger.scan ⟨h.queue, h.balanced.clearMark hfit.2⟩
  · next hfit =>
    rw [Bool.and_eq_true, decide_eq_true_iff, not_and, Nat.not_le] at hfit
    exact ⟨h.queue, h.balanced.evaluated hfit⟩

/-- A lowering order leaves the bank of its slot due (R7, R33). -/
theorem State.Ledger.orderDown (h : s.Ledger m cap) (i : SlotId) :
    (s.orderDown i).Ledger (exceptBank (s.slot i).ctx.map.bank m) cap :=
  ⟨h.queue.orderDown i, h.balanced.relieved State.OnlyAt.rfl.orderDown (s.orderDown_relieved i)⟩

theorem State.Ledger.shedRounds (h : s.Ledger (exceptBank b m) cap) (n : Nat) :
    (State.shedRounds n b s).Ledger (exceptBank b m) cap := by
  induction n generalizing s with
  | zero => exact h
  | succ n ih =>
    unfold State.shedRounds
    split
    · split
      · exact h
      · next i hi =>
        have hbank : (s.slot i).ctx.map.bank = b := (State.shedChoice_first hi).1.1
        have hdown := h.orderDown i
        rw [hbank] at hdown
        exact ih (hdown.mono fun d hd => ⟨hd.1, hd⟩)
    · exact h

/-- A shed evaluates its bank (R45, R48). -/
theorem State.Ledger.shed_due (h : s.Ledger (exceptBank b m) cap) : (s.shed b).Ledger m cap := by
  unfold State.shed
  split
  · exact (h.shedRounds 10).clearIfFits
  · next ho => exact ⟨h.queue, h.balanced.of_clear (by simpa using ho)⟩

theorem State.Ledger.shed (h : s.Ledger m cap) (b : BankId) : (s.shed b).Ledger m cap := (h.except b).shed_due

/-- The reaction to a fall of a bank's sum evaluates the bank (R33, R45). -/
theorem State.Ledger.sumFell (h : s.Ledger (exceptBank b m) cap) : (s.sumFell b).Ledger m cap := by
  unfold State.sumFell State.evaluate
  split
  · split
    · exact h.clearIfFits
    · exact h.shed_due
  · next ho => exact State.Ledger.scan ⟨h.queue, h.balanced.of_clear (by simpa using ho)⟩

/-! ## The reaction to a change of a slot -/

/-- Slot i is not what it was, and the reaction of the admission unit is still to come: the bank is due for an
evaluation where it is in OVERDRAW and the charge fell (R33). -/
structure State.Owing (m : BankId → Prop) (cap : BankId → Nat) (was : Slot) (i : SlotId) (s : State) : Prop where
  queue : s.QueueOk
  balanced : s.Balanced (exceptBank was.ctx.map.bank m) cap
  stands : (s.bank was.ctx.map.bank).overdraw = true → was.charge ≤ (s.slot i).charge → s.Balanced m cap

theorem State.Ledger.owing (h : s.Ledger m cap) (was : Slot) (i : SlotId) : s.Owing m cap was i :=
  ⟨h.queue, h.balanced.except _, fun _ _ => h.balanced⟩

/-- A slot relieved leaves a reaction owing (R33). -/
theorem State.Ledger.relieved (h : s.Ledger m cap) (o : s.OnlyAt i t) (hq : t.QueueOk)
    (hr : (s.work i).Relieved (t.work i)) : t.Owing m cap (s.slot i) i :=
  ⟨hq, h.balanced.relieved o hr, fun _ hc => h.balanced.unrelieved o hr hc⟩

theorem State.Owing.ledger {was : Slot} (h : s.Owing m cap was i) :
    s.Ledger (exceptBank was.ctx.map.bank m) cap := ⟨h.queue, h.balanced⟩

theorem State.Owing.aside {was : Slot} (h : s.Owing m cap was i) (a : s.Aside i t) : t.Owing m cap was i where
  queue := (h.ledger.aside a).queue
  balanced := (h.ledger.aside a).balanced
  stands ho hc := by
    rw [a.only.bank] at ho
    rw [a.charge] at hc
    exact (State.Ledger.aside ⟨h.queue, h.stands ho hc⟩ a).balanced

/-- The admission unit's reaction leaves no bank due (R33, R38). -/
theorem State.Owing.react {was : Slot} (h : s.Owing m cap was i) : (State.react was i s).Ledger m cap := by
  have h1 : (if (s.slot i).charge < was.charge then s.sumFell was.ctx.map.bank else s).Ledger m cap := by
    split
    · exact h.ledger.sumFell
    · next hc =>
      refine ⟨h.queue, ?_⟩
      by_cases ho : (s.bank was.ctx.map.bank).overdraw = true
      · exact h.stands ho (by omega)
      · exact h.balanced.of_clear (by simpa using ho)
  unfold State.react
  simp only
  split
  · exact h1.scan
  · exact h1

theorem State.Ledger.lower (h : s.Ledger m cap) (i : SlotId) : (s.lower i).Ledger m cap :=
  (h.relieved State.OnlyAt.rfl.orderDown (h.queue.orderDown i) (s.orderDown_relieved i)).react

/-- The reaction to an entry into FAULT or EMPTY evaluates the slot's bank in any case (R33, R49). -/
theorem State.Ledger.reactDown (h : s.Ledger (exceptBank (s.slot i).ctx.map.bank m) cap) (o : s.OnlyAt i t)
    (hq : t.QueueOk) (hr : (s.work i).Relieved (t.work i)) :
    (State.reactDown (s.slot i) i t).Ledger m cap :=
  (h.relieved o hq hr).react.shed_due

/-! ## Placement -/

theorem State.Balanced.setQueue (h : s.Balanced m cap) (q : List AdmEntry) : (s.setQueue q).Balanced m cap :=
  h.of_same (fun _ => ⟨rfl, rfl⟩) fun _ => rfl

theorem State.noEntry_of_any (h : ¬ s.admission.queue.any (fun e => e.slot == i) = true) : s.NoEntry i :=
  fun e he hs => h (List.any_eq_true.mpr ⟨e, he, by simpa using hs⟩)

/-- An entry of a slot that has none joins the queue (R36). -/
theorem State.QueueOk.append {k : Kind} (h : s.QueueOk) (hk : (s.slot i).ctx.state = k.source) (hn : s.NoEntry i)
    (r : Bool) :
    (s.setQueue (s.admission.queue ++
      [{ slot := i, kind := k, bank := (s.slot i).ctx.map.bank, retried := r }])).QueueOk := by
  obtain ⟨hentries, hnodup⟩ := h
  refine ⟨fun e he => ?_, ?_⟩
  · rcases List.mem_append.mp he with he | he
    · exact (hentries e he).of_work rfl rfl
    · rw [List.mem_singleton] at he
      subst he
      exact ⟨hk, rfl⟩
  · change ((s.admission.queue ++ [_]).map AdmEntry.slot).Nodup
    rw [List.map_append, List.nodup_append]
    refine ⟨hnodup, List.nodup_singleton _, fun a ha c hc => ?_⟩
    obtain ⟨e, he, rfl⟩ := List.mem_map.mp ha
    rw [List.map_singleton, List.mem_singleton] at hc
    exact hc ▸ hn e he

/-- A placement owes the reaction that was owing before it: in a bank in OVERDRAW its scan grants the slot nothing
(R36, R45). -/
theorem State.Owing.place {was : Slot} {k : Kind} (h : s.Owing m cap was i)
    (hb : (s.slot i).ctx.map.bank = was.ctx.map.bank) (hk : (s.slot i).ctx.state = k.source) (r : Bool) :
    (s.place i k r).Owing m cap was i := by
  unfold State.place
  split
  · exact h
  · next hany =>
    have hq := h.queue.append hk (State.noEntry_of_any hany) r
    generalize s.admission.queue ++ _ = q at hq ⊢
    have hplaced (n : BankId → Prop) (hs : s.Balanced n cap) : (s.setQueue q).scan.Ledger n cap :=
      State.Ledger.scan ⟨hq, hs.setQueue q⟩
    refine ⟨(hplaced _ h.balanced).queue, (hplaced _ h.balanced).balanced, fun ho hc => ?_⟩
    have ho' : (s.bank was.ctx.map.bank).overdraw = true := (s.setQueue_flows q).scan.overdraw _ ho
    have hw : (s.setQueue q).scan.work i = s.work i := State.scan_overdrawn hq (by
      change (s.bank (s.slot i).ctx.map.bank).overdraw = true
      rw [hb]
      exact ho')
    refine (hplaced m (h.stands ho' ?_)).balanced
    rw [State.slot_charge, hw] at hc
    exact hc

theorem State.Ledger.place {k : Kind} (h : s.Ledger m cap) (hk : (s.slot i).ctx.state = k.source) (r : Bool) :
    (s.place i k r).Ledger m cap := by
  unfold State.place
  split
  · exact h
  · next hany =>
    exact State.Ledger.scan ⟨h.queue.append hk (State.noEntry_of_any hany) r, h.balanced.setQueue _⟩

theorem State.Ledger.compare (h : s.Ledger m cap) (i : SlotId) : (s.compare i).Ledger m cap := by
  have hout : (s.withdraw i).Ledger m cap := ⟨h.queue.withdraw i, h.balanced.setQueue _⟩
  unfold State.compare
  split
  · exact hout
  · next k hk =>
    split
    · exact h.place (SlotSt.nextKind_source hk) false
    · exact hout

end ledger

end Sys2Proof.Machine
end

section
/-! PROOFS. The command passages, park control and the selection of budgets keep the law of sums and budgets. -/

namespace Sys2Proof.Machine

section passages

variable {m : BankId → Prop} {cap : BankId → Nat} {b : BankId} {i : SlotId} {s t : State}

/-! ## Serving -/

theorem State.Ledger.report (h : s.Ledger m cap) (i : SlotId) : (s.report i).Ledger m cap :=
  (h.aside (State.Aside.rfl.modPass _)).compare i

theorem State.Ledger.beginHead (h : s.Ledger m cap) (i : SlotId) : (s.beginHead i).Ledger m cap :=
  h.aside (State.Aside.rfl.modPass _)

theorem State.Ledger.forwardHeld (h : s.Ledger m cap) (i : SlotId) (e : HoldEntry) :
    (s.forwardHeld i e).Ledger m cap := h.aside (State.Aside.rfl.forwardHeld e)

theorem State.Ledger.finishHeld (h : s.Ledger m cap) (i : SlotId) (e : HoldEntry) :
    (s.finishHeld i e).Ledger m cap := h.aside (State.Aside.rfl.finishHeld e)

theorem State.Ledger.serveRounds (h : s.Ledger m cap) (n : Nat) (i : SlotId) :
    (State.serveRounds n i s).Ledger m cap := by
  induction n generalizing s with
  | zero => exact h
  | succ n ih =>
    unfold State.serveRounds
    split
    · exact h
    split
    · exact h
    next e rest hh =>
      split
      case h_1 | h_2 =>
        split
        · exact ih ((h.forwardHeld i e).report i)
        · exact h
      case h_3 =>
        split
        · exact ih ((h.finishHeld i e).report i)
        · exact h
      case h_4 =>
        split
        · exact h
        split
        · exact h.beginHead i
        split
        · exact ih (((h.beginHead i).finishHeld i e).report i)
        · exact (h.beginHead i).lower i
      all_goals exact h

theorem State.Ledger.reportAndServe (h : s.Ledger m cap) (i : SlotId) : (s.reportAndServe i).Ledger m cap :=
  (h.report i).serveRounds _ i

theorem State.Ledger.parkTest (h : s.Ledger m cap) (i : SlotId) : (s.parkTest i).Ledger m cap := by
  unfold State.parkTest
  split
  · exact h.lower i
  · exact h

theorem State.Ledger.settleEnd (h : s.Ledger m cap) (i : SlotId) : (State.settleEnd i s).Ledger m cap :=
  (h.reportAndServe i).shed _

theorem State.Ledger.settle (h : s.Ledger m cap) (i : SlotId) : (State.settle i s).Ledger m cap :=
  ((h.reportAndServe i).parkTest i).settleEnd i

/-- What follows a change of slot i once the admission unit has reacted to it. -/
theorem State.Owing.settle {was : Slot} (h : s.Owing m cap was i) :
    (State.settle i (State.react was i s)).Ledger m cap := h.react.settle i

/-! ## Park control -/

theorem State.Ledger.foldl {f : State → SlotId → State}
    (hf : ∀ {u : State} (i : SlotId), u.Ledger m cap → (f u i).Ledger m cap) (l : List SlotId)
    (h : s.Ledger m cap) : (l.foldl f s).Ledger m cap :=
  State.Closed.foldl (P := State.Ledger m cap) hf l h

theorem State.Ledger.unloadOrder (h : s.Ledger m cap) (e : Bool) (i : SlotId) :
    (State.unloadOrder e s i).Ledger m cap := by
  unfold State.unloadOrder
  split
  · refine State.Ledger.settle ?_ i
    split
    · exact (h.lower i).aside (State.Aside.rfl.modSlot _ fun _ => ⟨rfl, rfl, rfl, rfl⟩)
    · exact h.lower i
  · exact h

theorem State.Ledger.unloadAll (h : s.Ledger m cap) (e : Bool) : (s.unloadAll e).Ledger m cap :=
  State.Ledger.foldl (fun i hu => hu.unloadOrder e i) _ h

theorem State.Ledger.sweepAll (h : s.Ledger m cap) (i : SlotId) (l : List HoldEntry) :
    (State.sweepAll i l s).Ledger m cap :=
  State.sweepAll_keeps (P := State.Ledger m cap) (fun e hu => hu.aside (State.Aside.rfl.sweepEntry e)) l h

theorem State.Ledger.sweepSlot (h : s.Ledger m cap) (i : SlotId) : (s.sweepSlot i).Ledger m cap := by
  unfold State.sweepSlot
  split
  · exact h
  · exact ((h.sweepAll i _).reportAndServe i).settleEnd i

theorem State.Ledger.sweep (h : s.Ledger m cap) : s.sweep.Ledger m cap :=
  State.Ledger.foldl (fun i hu => hu.sweepSlot i) allSlots h

theorem State.Ledger.testSlot (h : s.Ledger m cap) (i : SlotId) : (s.testSlot i).Ledger m cap := by
  unfold State.testSlot
  split
  · exact (h.lower i).settle i
  · exact h

theorem State.Ledger.testAll (h : s.Ledger m cap) : s.testAll.Ledger m cap :=
  State.Ledger.foldl (fun i hu => hu.testSlot i) allSlots h

theorem State.Ledger.parkProfile (h : s.Ledger m cap) : s.parkProfile.Ledger m cap := by
  unfold State.parkProfile
  split
  · exact h.sweep.testAll
  · exact h

theorem State.Ledger.setPark (h : s.Ledger m cap) (p : Park) : State.Ledger m cap { s with park := p } :=
  h.of_same (fun _ => rfl) rfl fun _ => ⟨rfl, rfl⟩

theorem State.Ledger.setMonitor (h : s.Ledger m cap) (x : Motion) : State.Ledger m cap { s with motion := x } :=
  h.of_same (fun _ => rfl) rfl fun _ => ⟨rfl, rfl⟩

theorem State.Ledger.setCtrl (h : s.Ledger m cap) (c : CtrlPort) : State.Ledger m cap { s with ctrl := c } :=
  h.of_same (fun _ => rfl) rfl fun _ => ⟨rfl, rfl⟩

theorem State.Ledger.reach (h : s.Ledger m cap) (n : Nat) : (s.reach n).Ledger m cap :=
  h.of_same (fun _ => rfl) rfl fun _ => ⟨rfl, rfl⟩

theorem State.Ledger.modLoader (h : s.Ledger m cap) (f : Loader → Loader) : (s.modLoader f).Ledger m cap :=
  h.of_same (fun _ => rfl) rfl fun _ => ⟨rfl, rfl⟩

theorem State.Ledger.motionChanged (h : s.Ledger m cap) (former : MotionSt) :
    (State.motionChanged former s).Ledger m cap := by
  have h1 : (if (permitRow s.profile s.motion.state).unloadOnEntry
      then s.unloadAll (s.motion.state == .jolt) else s).Ledger m cap := by
    split
    · exact h.unloadAll _
    · exact h
  unfold State.motionChanged
  simp only
  split
  · exact h1.scan.setCtrl _
  · exact h1.scan

theorem State.Ledger.setMotion (h : s.Ledger m cap) (x : Motion) : (s.setMotion x).Ledger m cap := by
  unfold State.setMotion
  split
  · exact h.setMonitor x
  · exact (h.setMonitor x).motionChanged _

theorem State.Ledger.recognizeHandle (h : s.Ledger m cap) : s.recognizeHandle.Ledger m cap := by
  unfold State.recognizeHandle
  split
  · exact State.Ledger.scan ((((h.setPark _).unloadAll false).sweep).setPark _)
  · exact State.Ledger.scan (h.setPark _)

/-! ## The selection of budgets -/

/-- A selection of budgets sets every mark afresh; the sum of a bank that comes into OVERDRAW was within its former
budget (R31, R44, R45). -/
theorem State.Ledger.selectBudgets (h : s.Ledger m cap) (hcap : ∀ b, (s.bank b).budget ≤ cap b) :
    s.selectBudgets.Ledger m cap := by
  have hsum : ∀ b, s.bankSum b ≤ cap b := fun b => by
    cases ho : (s.bank b).overdraw with
    | false => exact (h.balanced.within b ho).trans (hcap b)
    | true => exact h.balanced.capped b ho
  have hmark : ∀ b, s.selected.Marked b := s.selected_marked
  have hwithin : ∀ b, (s.selected.bank b).overdraw = false → s.selected.bankSum b ≤ (s.selected.bank b).budget :=
    fun b ho => Nat.not_lt.mp fun hlt => by
      rw [(hmark b).mpr hlt] at ho
      exact Bool.noConfusion ho
  have hselected : s.selected.Ledger m cap :=
    ⟨h.queue, hwithin, fun b _ => hsum b, fun b _ => (hmark b).mp⟩
  rw [State.selectBudgets_eq]
  exact ((hselected.shed 0).shed 1).scan

end passages

end Sys2Proof.Machine
end

section
/-! PROOFS. The slot engine and the arrivals keep the law of sums and budgets: every step that relieves a slot is followed
by the reaction, a drive found turning is carried only where it fits (R11), and an unpowered slot takes its map drawing
nothing (R5). -/

namespace Sys2Proof.Machine

section engine

variable {m : BankId → Prop} {cap : BankId → Nat} {b : BankId} {i : SlotId} {s t u : State}

theorem State.Ledger.modCtx (h : s.Ledger m cap) (i : SlotId) (f : SlotContext → SlotContext)
    (hf : ∀ c, (f c).state = c.state ∧ (f c).map = c.map) : (s.modCtx i f).Ledger m cap :=
  h.aside (State.Aside.rfl.modCtx f hf)

theorem State.Ledger.active (h : s.Ledger m cap) (i : SlotId) : (s.active i).Ledger m cap :=
  h.aside State.Aside.rfl.active

theorem State.Owing.modCtx {was : Slot} (h : s.Owing m cap was i) (f : SlotContext → SlotContext)
    (hf : ∀ c, (f c).state = c.state ∧ (f c).map = c.map) : (s.modCtx i f).Owing m cap was i :=
  h.aside (State.Aside.rfl.modCtx f hf)

theorem State.Owing.active {was : Slot} (h : s.Owing m cap was i) : (s.active i).Owing m cap was i :=
  h.aside State.Aside.rfl.active

/-! ## FAULT and EMPTY -/

/-- The entry of a slot into FAULT or EMPTY evaluates its bank, were it due before (R25, R33, R49). -/
theorem State.Ledger.entersDown (h : s.Ledger (exceptBank (s.slot i).ctx.map.bank m) cap) (a : s.Aside i u)
    {st : SlotSt} (hst : st.powered = false) (code : Byte) (f : SlotContext → SlotContext) :
    (State.reactDown (s.slot i) i (((u.enterDown i st code).modCtx i f).takeMap i)).Ledger m cap := by
  have o : s.OnlyAt i ((u.enterDown i st code).modCtx i f) := (a.only.enterDown st code).modCtx f
  have hn : ((u.enterDown i st code).modCtx i f).NoEntry i :=
    (u.enterDown_noEntry i st code).of_queue_eq rfl
  refine h.reactDown o.takeMap ((h.queue.of_noEntry o hn).takeMap i) (.of_free (State.takeMap_free ?_))
  rw [State.work_modCtx]
  exact u.enterDown_free i code hst

theorem State.Ledger.enterFault_due (h : s.Ledger (exceptBank (s.slot i).ctx.map.bank m) cap) (cause : SenseCode) :
    (s.enterFault i cause).Ledger m cap := h.entersDown (State.Aside.rfl.submit _ _ _ _ _) rfl _ _

theorem State.Ledger.enterFault (h : s.Ledger m cap) (i : SlotId) (cause : SenseCode) :
    (s.enterFault i cause).Ledger m cap := (h.except _).enterFault_due cause

theorem State.Ledger.enterRemoved (h : s.Ledger m cap) (i : SlotId) : (s.enterRemoved i).Ledger m cap := by
  have hdown := (h.except (s.slot i).ctx.map.bank).entersDown (State.Aside.rfl.submit .slotRemoved none none
    (s.slot i).ctx.state (s.slot i).pass.hold.length) (st := .empty) rfl codeSlotEmpty fun c => c
  rw [State.modCtx_id] at hdown
  exact hdown

/-! ## Steps and failures -/

/-- Slot i enters a state on any other than a raising transition, and the reaction is owing (R32, R33). -/
theorem State.Ledger.entered (h : s.Ledger m cap) (a : s.Aside i u) (st : SlotSt) (k : Bool) :
    (u.enter i st false k).Owing m cap (s.slot i) i := by
  have o : s.OnlyAt i (u.enter i st false k) := a.only.enter st false k
  refine h.relieved o (h.queue.of_noEntry o (u.enter_noEntry i st false k)) ?_
  have hr : (u.work i).Relieved ((u.enter i st false k).work i) := by
    rw [State.work_enter]
    exact .of_enter _ _ _ _ _
  exact ⟨hr.charge.trans_eq a.charge, hr.bank.imp (fun e => e.trans (congrArg SlotMap.bank a.map)) id⟩

theorem State.Ledger.selfUnload (h : s.Ledger m cap) (i : SlotId) : (s.selfUnload i).Ledger m cap := by
  have key : (State.react (s.slot i) i
      (((s.submit i .selfUnload none none (s.slot i).ctx.state (s.slot i).pass.hold.length).enter i .spun
        false false).modCtx i (fun c => { c with emergency := false }))).Ledger m cap :=
    State.Owing.react ((h.entered (State.Aside.rfl.submit _ _ _ _ _) .spun false).modCtx _ fun _ => ⟨rfl, rfl⟩)
  unfold State.selfUnload
  split
  case h_1 e | h_2 e | h_3 e => simpa only [e] using key
  case h_4 => exact h

theorem State.Ledger.spinFails (h : s.Ledger m cap) (i : SlotId) (why : SpinFailure) :
    (s.spinFails i why).Ledger m cap :=
  State.Owing.settle ((h.entered .rfl .stopping true).modCtx _ fun _ => ⟨rfl, rfl⟩)

/-- The retry decision of a marked stop, the reaction to the stop still owing (R13). -/
theorem State.Owing.retrySpin {was : Slot} (h : s.Owing m cap was i)
    (hb : (s.slot i).ctx.map.bank = was.ctx.map.bank) (hst : (s.slot i).ctx.state = .idle) :
    (s.retrySpin i).Owing m cap was i := by
  unfold State.retrySpin
  simp only
  split
  · have a : s.Aside i (s.modCtx i fun c => { c with retry := c.retry + 1 }) :=
      State.Aside.rfl.modCtx _ fun _ => ⟨rfl, rfl⟩
    split
    · have hidle : _ = Kind.source .spin := a.state.trans hst
      exact (h.aside a).place ((congrArg SlotMap.bank a.map).trans hb) hidle true
    · exact h.modCtx _ fun _ => ⟨rfl, rfl⟩
  · refine (State.Ledger.enterFault_due ?_ _).owing was i
    rw [hb]
    exact h.ledger

theorem State.enter_slot (s : State) (i : SlotId) (st : SlotSt) (r k : Bool) :
    ((s.enter i st r k).slot i).ctx.state = st ∧ ((s.enter i st r k).slot i).ctx.map = (s.slot i).ctx.map := by
  rw [State.slot_ctx, State.work_enter]
  exact ⟨rfl, rfl⟩

theorem State.Ledger.stopped (h : s.Ledger m cap) (i : SlotId) : (s.stopped i).Ledger m cap := by
  unfold State.stopped
  simp only
  generalize hk : (s.slot i).ctx.spinMark = k
  obtain ⟨hst, hmap⟩ := s.enter_slot i .idle false k
  have howing := h.entered (i := i) .rfl .idle k
  split
  · have a := (State.Aside.rfl (i := i) (s := s.enter i .idle false k)).active.modCtx
      (fun c => { c with spinMark := false }) fun _ => ⟨rfl, rfl⟩
    exact ((howing.aside a).retrySpin (congrArg SlotMap.bank (a.map.trans hmap)) (a.state.trans hst)).settle
  · exact howing.active.settle

theorem State.Ledger.loadFails (h : s.Ledger m cap) (i : SlotId) : (s.loadFails i).Ledger m cap := by
  obtain ⟨hst, hmap⟩ := s.enter_slot i .spun false true
  have howing := h.entered (i := i) .rfl .spun true
  unfold State.loadFails
  simp only
  split
  · split
    · have a := (State.Aside.rfl (i := i) (s := s.enter i .spun false true)).modCtx
        (fun c => { c with retry := c.retry + 1 }) fun _ => ⟨rfl, rfl⟩
      have hspun : _ = Kind.source .load := a.state.trans hst
      exact ((howing.aside a).place (congrArg SlotMap.bank (a.map.trans hmap)) hspun true).settle
    · exact State.Owing.settle (howing.modCtx _ fun _ => ⟨rfl, rfl⟩)
  · exact h.enterFault i _

theorem State.Ledger.stepEnds (h : s.Ledger m cap) (i : SlotId) (st : SlotSt) : (s.stepEnds i st).Ledger m cap :=
  (h.entered .rfl st false).active.settle

theorem State.Ledger.unloadDone (h : s.Ledger m cap) (i : SlotId) : (s.unloadDone i).Ledger m cap := by
  have key {u : State} (a : s.Aside i u) :
      (State.settle i (State.react (s.slot i) i ((u.enter i .spun false false).active i))).Ledger m cap :=
    (h.entered a .spun false).active.settle
  unfold State.unloadDone
  simp only
  split
  · exact key ((State.Aside.rfl.submit _ _ _ _ _).modCtx _ fun _ => ⟨rfl, rfl⟩)
  · exact key .rfl

/-- A drive found turning that its bank can carry is stopped under its risen charge, within the budget (R11). -/
theorem State.Ledger.carried (h : s.Ledger m cap) (hc : s.carriesTurning i = true) :
    (s.enter i .stopping true false).Ledger m cap := by
  have o : s.OnlyAt i (s.enter i .stopping true false) := State.OnlyAt.rfl.enter _ _ _
  rw [State.carriesTurning, Bool.and_eq_true, decide_eq_true_iff, Bool.not_eq_true'] at hc
  obtain ⟨hclear, hfit⟩ := hc
  refine ⟨h.queue.of_noEntry o (s.enter_noEntry i _ _ _), h.balanced.raised o ?_ hclear ?_⟩ <;>
    rw [State.work_enter]
  · rfl
  · exact hfit

theorem State.Ledger.foundTurning (h : s.Ledger m cap) (i : SlotId) : (s.foundTurning i).Ledger m cap := by
  unfold State.foundTurning
  refine State.Owing.settle ?_
  split
  · next hc =>
    refine State.Ledger.owing (State.Ledger.active ?_ i) _ i
    exact (h.carried hc).modCtx i _ fun _ => ⟨rfl, rfl⟩
  · have o : s.OnlyAt i (s.enterOff i) := State.OnlyAt.rfl.enterOff
    exact (h.relieved o (h.queue.of_noEntry o (s.enterOff_noEntry i)) (.of_free (s.enterOff_free i))).active

/-! ## Replies -/

theorem State.Ledger.replyToStep (h : s.Ledger m cap) (i : SlotId) (op : ControlOp) (a : Answer) :
    (s.replyToStep i op a).Ledger m cap := by
  unfold State.replyToStep
  split
  · exact h.spinFails i _
  · exact h.stepEnds i _
  · exact h.loadFails i
  · exact h.unloadDone i
  · exact h.enterFault i _
  · exact h

theorem State.Ledger.cancelConfirmed (h : s.Ledger m cap) (i : SlotId) : (s.cancelConfirmed i).Ledger m cap := by
  unfold State.cancelConfirmed
  refine State.Ledger.settle ?_ i
  exact h.aside (State.Aside.rfl.modSlot _ fun _ => ⟨rfl, rfl, rfl, rfl⟩)

theorem State.Ledger.takeControlReply (h : s.Ledger m cap) (i : SlotId) (op answer : Byte) :
    (s.takeControlReply i op answer).Ledger m cap := by
  unfold State.takeControlReply
  split
  · exact h
  split
  · exact h
  · split
    · exact h.cancelConfirmed i
    · exact h
  · exact h
  · exact h.replyToStep i _ _
  · exact h

theorem State.Ledger.replyByState (h : s.Ledger m cap) (i : SlotId) (report : Byte) :
    (s.replyByState i report).Ledger m cap := by
  unfold State.replyByState
  split
  · split
    · exact h.stepEnds i _
    · exact h.foundTurning i
  · split
    · exact h.stepEnds i _
    · exact h
  · split
    · exact h.stopped i
    · exact h
  · split
    · exact (h.selfUnload i).settle i
    · exact h
  · exact h

theorem State.Ledger.takeStateReply (h : s.Ledger m cap) (i : SlotId) (report : Byte) :
    (s.takeStateReply i report).Ledger m cap := by
  have h1 : (s.modCtx i (fun c => { c with queryPending := false, missed := 0 })).Ledger m cap :=
    h.aside (State.Aside.rfl.modCtx _ fun _ => ⟨rfl, rfl⟩)
  unfold State.takeStateReply
  split
  · exact h
  simp only
  split
  · exact h1.replyByState i report
  · split
    · exact h1.spinFails i _
    · exact h1.enterFault i _
  · exact h1.enterFault i _

theorem State.Ledger.takeSelfUnload (h : s.Ledger m cap) (i : SlotId) : (s.takeSelfUnload i).Ledger m cap := by
  unfold State.takeSelfUnload
  split
  case h_4 => exact h
  all_goals exact (h.selfUnload i).settle i

theorem State.Ledger.takeFaultAlert (h : s.Ledger m cap) (i : SlotId) : (s.takeFaultAlert i).Ledger m cap := by
  unfold State.takeFaultAlert
  split
  · exact h.enterFault i _
  · exact h

/-! ## Completions and data -/

theorem State.Aside.removeFlight (a : s.Aside i t) (g : Tag) : s.Aside i (t.removeFlight i g) :=
  (a.modPass _).modPort _

theorem State.Aside.requeue (a : s.Aside i t) (f : InFlight) : s.Aside i (t.requeue i f) :=
  ((a.removeFlight _).modPass _).touchIdle

theorem State.Aside.countRequeue (a : s.Aside i t) : s.Aside i (t.modSlot i Slot.countRequeue) :=
  a.modSlot _ fun x => by
    unfold Slot.countRequeue
    split <;> exact ⟨Eq.refl _, Eq.refl _, Eq.refl _, Eq.refl _⟩

theorem State.Aside.sweepRequeued (a : s.Aside i t) (e : HoldEntry) : s.Aside i (t.sweepRequeued i e) := by
  unfold State.sweepRequeued
  split
  · exact a.sweepEntry e
  · exact a

theorem State.Aside.passUp (a : s.Aside i t) (r : DriveReport) : s.Aside i (t.passUp i r) := (a.handUp _).active

theorem State.Ledger.reportNotLoaded (h : s.Ledger m cap) (i : SlotId) (r : DriveReport) :
    (s.reportNotLoaded i r).Ledger m cap := by
  unfold State.reportNotLoaded
  split
  · exact h.selfUnload i
  · exact h

theorem State.Ledger.unloadAborted (h : s.Ledger m cap) (i : SlotId) (r : DriveReport) (f : InFlight) :
    (s.unloadAborted i r f).Ledger m cap := by
  unfold State.unloadAborted
  simp only
  refine State.Ledger.settle (State.Ledger.reportNotLoaded ?_ i r) i
  split
  · exact h.aside ((State.Aside.rfl.removeFlight _).completeSensed _ _ _)
  · split
    · exact h.aside ((State.Aside.rfl.requeue _).countRequeue.sweepRequeued _)
    · exact h.aside ((State.Aside.rfl.removeFlight _).completeSensed _ _ _)

theorem State.Ledger.takeCompletion (h : s.Ledger m cap) (i : SlotId) (r : DriveReport) :
    (s.takeCompletion i r).Ledger m cap := by
  unfold State.takeCompletion State.takeAbortAnswer
  split
  · exact h
  split
  · split
    · exact h.aside ((State.Aside.rfl.modPass _).passUp r)
    · exact h
  split
  · exact h
  · split
    · exact h.unloadAborted i r _
    · exact (h.aside ((State.Aside.rfl.removeFlight _).passUp r)).settle i

theorem State.Ledger.takeDriveData (h : s.Ledger m cap) (i : SlotId) (d : DataBody) :
    (s.takeDriveData i d).Ledger m cap := by
  unfold State.takeDriveData
  split
  · exact h.aside (State.Aside.rfl.handUp _)
  · exact h

theorem State.Ledger.takeDataRequest (h : s.Ledger m cap) (i : SlotId) (r : RequestBody) :
    (s.takeDataRequest i r).Ledger m cap := by
  unfold State.takeDataRequest
  split
  · exact h.aside ((State.Aside.rfl.modPass _).handUp _)
  · exact h

theorem State.Ledger.takeCtrlData (h : s.Ledger m cap) (slot : SlotField) (d : DataBody) :
    (s.takeCtrlData slot d).Ledger m cap := by
  unfold State.takeCtrlData
  split
  · exact h
  split
  · exact h
  split
  · exact h.aside ((State.Aside.rfl.modPass _).modPort _)
  · exact h

/-! ## Arrivals -/

theorem State.Ledger.refuse (h : s.Ledger m cap) (i : SlotId) (c : Cmd) (code : Byte) (k : SenseCode) :
    (s.refuse i c code k).Ledger m cap := h.aside (State.Aside.rfl.completeSensed c code k)

theorem State.Ledger.complete (h : s.Ledger m cap) (i : SlotId) (c : Cmd) (code : Byte) :
    (s.complete i c code).Ledger m cap := h.aside (State.Aside.rfl.complete c code)

theorem State.Ledger.admitCommand (h : s.Ledger m cap) (i : SlotId) (c : Cmd) :
    (s.admitCommand i c).Ledger m cap := by
  unfold State.admitCommand
  split
  · exact h.refuse i c _ _
  split
  · exact h.refuse i c _ _
  exact State.Ledger.settle (iteInduction (motive := State.Ledger m cap)
    (fun _ => h.aside (State.Aside.rfl.forwardNew c)) fun _ => h.aside (State.Aside.rfl.modPass _).touchIdle) i

/-- A slot that draws nothing before and after an operation of its own adds nothing to any sum. -/
theorem State.Ledger.free (h : s.Ledger m cap) (o : s.OnlyAt i t) (hq : t.QueueOk) (hs : (s.work i).charge = 0)
    (ht : (t.work i).charge = 0) : t.Ledger m cap :=
  ⟨hq, h.balanced.unrelieved o (.of_free ht) (hs.trans_le (Nat.zero_le _))⟩

/-- A slot in FAULT draws nothing, so leaving it for OFF owes no reaction (R26). -/
theorem State.Ledger.leaveFault (h : s.Ledger m cap) (hc : (s.slot i).charge = 0) : (s.leaveFault i).Ledger m cap := by
  have o : s.OnlyAt i (s.enterOff i) := State.OnlyAt.rfl.enterOff
  have hoff : (s.enterOff i).Ledger m cap :=
    h.free o (h.queue.of_noEntry o (s.enterOff_noEntry i)) hc (s.enterOff_free i)
  unfold State.leaveFault
  refine State.Ledger.active ?_ i
  exact hoff.modCtx i _ fun _ => ⟨rfl, rfl⟩

theorem State.Ledger.atFault (h : s.Ledger m cap) (hc : (s.slot i).charge = 0) (c : Cmd) :
    (s.atFault i c).Ledger m cap := by
  have hleft := h.leaveFault hc
  unfold State.atFault
  split
  · split
    · exact hleft.admitCommand i c
    · exact hleft.admitCommand i c
    · exact hleft.complete i c _
    · exact h.refuse i c _ _
  · exact h.refuse i c _ _

/-- An unpowered slot of a sound part draws nothing (R32). -/
theorem State.Fit.free {full : Prop} (h : s.Fit full) (hp : (s.slot i).ctx.state.powered = false) :
    (s.slot i).charge = 0 := ((h.slots i).quiet.1 hp).1

theorem State.Ledger.arriveChecked (h : s.Ledger m cap) (hf : s.Fit False) (i : SlotId) (c : Cmd) :
    (s.arriveChecked i c).Ledger m cap := by
  unfold State.arriveChecked
  split
  · exact h.refuse i c _ _
  · next hst =>
    split
    · exact h.atFault (hf.free (by rw [hst]; rfl)) c
    · exact h.refuse i c _ _
  · exact h.admitCommand i c

theorem State.Ledger.arriveSense (h : s.Ledger m cap) (hf : s.Fit False) (i : SlotId) (c : Cmd) :
    (s.arriveSense i c).Ledger m cap := by
  unfold State.arriveSense
  split
  · exact h.aside (((State.Aside.rfl.handUp _).complete c _).modSlot _ fun _ => ⟨rfl, rfl, rfl, rfl⟩)
  split
  · exact h.arriveChecked hf i c
  · exact h.aside ((State.Aside.rfl.handUp _).complete c _)

theorem State.Ledger.arriveAbort (h : s.Ledger m cap) (i : SlotId) (c : Cmd) : (s.arriveAbort i c).Ledger m cap := by
  unfold State.arriveAbort
  split
  · exact State.Ledger.settle (h.aside (((State.Aside.rfl.modPass _).completeSensed _ _ _).complete c _)) i
  split
  · exact h.refuse i c _ _
  split
  · exact h.aside ((State.Aside.rfl.modPass _).modPort _).active
  · exact h.complete i c _

theorem State.Ledger.takeCommand (h : s.Ledger m cap) (hf : s.Fit False) (c : Cmd) : (s.takeCommand c).Ledger m cap := by
  unfold State.takeCommand
  split
  · next i _ =>
    unfold State.arriveCommand
    split
    · exact h.complete i c _
    · exact h.arriveAbort i c
    · exact h.arriveSense hf i c
    · exact h.arriveChecked hf i c
  · exact h.of_same (fun j => Slot.sameWork_iff.mp (State.pickUpstream_slot _ j)) (by simp [State.badSlot])
      fun b => by simp [State.badSlot, State.bank]

end engine

end Sys2Proof.Machine
end

section
/-! PROOFS. The loader, the lines, the timers and the links keep the law of sums and budgets. Only a selection of budgets
puts a bank in OVERDRAW, and the sum it has then was within the budget selected before (R31, R44). -/

namespace Sys2Proof.Machine

section events

variable {m : BankId → Prop} {cap : BankId → Nat} {b : BankId} {i : SlotId} {s t : State}

/-! ## The loader -/

theorem State.offered_bank (s : State) (b : BankId) : s.offered.bank b = s.bank b := by
  unfold State.offered
  exact State.Closed.foldl (P := fun u => u.bank b = s.bank b)
    (fun {u} i h => ((u.offerMap_onlyAt i).bank b).trans h) allSlots rfl

/-- The slots that take their entries of the profile draw nothing, so no sum changes (R5). -/
theorem State.Ledger.offered (h : s.Ledger m cap) (hquiet : ∀ i, (s.slot i).Quiet) : s.offered.Ledger m cap :=
  ⟨h.queue.offered, h.balanced.of_same (fun b => by rw [s.offered_bank b]; exact ⟨rfl, rfl⟩) fun b =>
    State.bankSum_congr fun i => (State.offered_slotSame (hquiet i) b).2.1⟩

theorem State.sweepSlot_flows (h : s.Flows t) (i : SlotId) : s.Flows (t.sweepSlot i) := by
  have hc := State.closed_flows s
  unfold State.sweepSlot
  split
  · exact h
  · exact hc.settleEnd i (hc.reportAndServe i (State.sweepAll_keeps (P := s.Flows) (fun {u} e hu =>
      hu.onlyAt (i := i) (u.sweepEntry_onlyAt i e) ((State.Keeps.rfl u).sweepEntry i e)) _ h))

/-- A profile that takes effect at park control selects no budgets (R93). -/
theorem State.parkProfile_flows (s : State) : s.Flows s.parkProfile := by
  unfold State.parkProfile
  split
  · exact (State.closed_flows s).testAll
      (State.Closed.foldl (P := s.Flows) (fun i h => State.sweepSlot_flows h i) allSlots State.Flows.rfl)
  · exact State.Flows.rfl

/-- A profile takes effect: the budgets it selects are compared with the sums that the lowering under it left (R31,
R93, R169). -/
theorem State.Ledger.takeEffect (h : s.Ledger m cap) (hquiet : ∀ i, (s.slot i).Quiet)
    (hcap : ∀ b, (s.bank b).budget ≤ cap b) : s.takeEffect.Ledger m cap := by
  rw [State.takeEffect_readied]
  refine State.Ledger.selectBudgets ((h.offered hquiet).parkProfile.modLoader Loader.ended) fun b => ?_
  have hbudget : (s.readied.bank b).budget = (s.offered.bank b).budget := s.offered.parkProfile_flows.budget b
  change (s.readied.bank b).budget ≤ cap b
  rw [hbudget, s.offered_bank]
  exact hcap b

theorem State.Ledger.startAgain (h : s.Ledger m cap) : s.startAgain.Ledger m cap := by
  unfold State.startAgain
  split
  · exact h.modLoader _
  · exact h

theorem State.Ledger.readPassed (h : s.Ledger m cap) (hquiet : ∀ i, (s.slot i).Quiet)
    (hcap : ∀ b, (s.bank b).budget ≤ cap b) (p : Profile) : (s.readPassed p).Ledger m cap := by
  have htaken : (s.installProfile p).takeEffect.Ledger m cap :=
    (h.modLoader fun l => { l with profile := p, defaulted := false, rejected := false }).takeEffect hquiet hcap
  unfold State.readPassed
  split
  · exact h
  · exact htaken.startAgain
  · exact (htaken.setCtrl _).startAgain

theorem State.Ledger.readFailed (h : s.Ledger m cap) (hquiet : ∀ i, (s.slot i).Quiet)
    (hcap : ∀ b, (s.bank b).budget ≤ cap b) : s.readFailed.Ledger m cap := by
  have htaken : (s.modLoader fun l => { l with defaulted := true }).takeEffect.Ledger m cap :=
    (h.modLoader _).takeEffect hquiet hcap
  unfold State.readFailed
  split
  · exact h
  · exact (htaken.setCtrl _).startAgain
  · exact ((h.modLoader _).setCtrl _).startAgain

theorem State.Ledger.takeImage (h : s.Ledger m cap) (hquiet : ∀ i, (s.slot i).Quiet)
    (hcap : ∀ b, (s.bank b).budget ≤ cap b) (image : List Byte) : (s.takeImage image).Ledger m cap := by
  unfold State.takeImage
  split
  · exact h
  split
  · exact h.readPassed hquiet hcap _
  · exact h.readFailed hquiet hcap

theorem State.Ledger.readTimesOut (h : s.Ledger m cap) (hquiet : ∀ i, (s.slot i).Quiet)
    (hcap : ∀ b, (s.bank b).budget ≤ cap b) : s.readTimesOut.Ledger m cap := by
  unfold State.readTimesOut
  split
  · exact h
  · exact (h.reach _).readFailed hquiet hcap

/-! ## The lines -/

theorem State.Ledger.setPresent (h : s.Ledger m cap) (i : SlotId) (level : Bool) :
    (s.setPresent i level).Ledger m cap := by
  unfold State.setPresent
  exact h.aside (State.Aside.rfl.modSlot _ fun _ => ⟨rfl, rfl, rfl, rfl⟩)

theorem State.Ledger.setPowerFault (h : s.Ledger m cap) (i : SlotId) (level : Bool) :
    (s.setPowerFault i level).Ledger m cap := by
  unfold State.setPowerFault
  exact h.aside (State.Aside.rfl.modSlot _ fun _ => ⟨rfl, rfl, rfl, rfl⟩)

theorem State.Ledger.seated (h : s.Ledger m cap) (i : SlotId) : (s.seated i).Ledger m cap := by
  unfold State.seated
  split
  · exact h.modCtx i _ fun _ => ⟨rfl, rfl⟩
  · exact h

theorem State.Ledger.unseated (h : s.Ledger m cap) (i : SlotId) : (s.unseated i).Ledger m cap := by
  unfold State.unseated
  split
  · exact h.modCtx i _ fun _ => ⟨rfl, rfl⟩
  · exact h.enterRemoved i

/-- The end of the PRESENT debounce: an EMPTY slot takes its map and enters OFF or FAULT, drawing nothing (R24). -/
theorem State.Ledger.seatingDone (h : s.Ledger m cap) (hf : s.Fit False) (i : SlotId) :
    (s.seatingDone i).Ledger m cap := by
  unfold State.seatingDone
  split
  · next t hst ht =>
    have hc : (s.slot i).charge = 0 := hf.free (by rw [hst]; rfl)
    have hcharge : ((s.debounced i t).work i).charge = 0 := by
      obtain ⟨d, hw⟩ := State.work_debounced (t := t) hst
      rw [hw]
      exact hc
    have hmarked : ((s.reach (t + Config.presentDebounceMs)).modCtx i
        (fun c => { c with presentDebounce := none })).Ledger m cap := (h.reach _).modCtx i _ fun _ => ⟨rfl, rfl⟩
    have hd : (s.debounced i t).Ledger m cap :=
      hmarked.free State.OnlyAt.rfl.takeMap (hmarked.queue.takeMap i) (by rw [State.work_modCtx]; exact hc) hcharge
    change (if !((s.debounced i t).slot i).ctx.map.enabled then s.debounced i t
      else if ((s.debounced i t).slot i).ctx.latch then (s.debounced i t).enterFault i .powerTrip
      else (s.debounced i t).enterOff i).Ledger m cap
    split
    · exact hd
    split
    · exact hd.enterFault i _
    · have o := (State.OnlyAt.rfl (i := i) (s := s.debounced i t)).enterOff
      exact hd.free o (hd.queue.of_noEntry o (State.enterOff_noEntry _ i)) hcharge (State.enterOff_free _ i)
  · exact h

theorem State.Ledger.tripped (h : s.Ledger m cap) (i : SlotId) : (s.tripped i).Ledger m cap := by
  have hlatched : (s.modCtx i fun c => { c with latch := true }).Ledger m cap := h.modCtx i _ fun _ => ⟨rfl, rfl⟩
  unfold State.tripped
  simp only
  split
  · exact hlatched
  · exact hlatched.aside (State.Aside.rfl.submit _ _ _ _ _)
  · exact hlatched.enterFault i _

theorem State.Ledger.untripped (h : s.Ledger m cap) (i : SlotId) : (s.untripped i).Ledger m cap := by
  unfold State.untripped
  split
  · exact h.modCtx i _ fun _ => ⟨rfl, rfl⟩
  · exact h

theorem State.Ledger.dockRecognized (h : s.Ledger m cap) (t0 : Nat) : (s.dockRecognized t0).Ledger m cap :=
  h.of_same (fun _ => rfl) rfl fun _ => ⟨rfl, rfl⟩

theorem State.Ledger.dockSettles (h : s.Ledger m cap) (hcap : ∀ b, (s.bank b).budget ≤ cap b) :
    s.dockSettles.Ledger m cap := by
  cases hd : s.admission.dockDebounce with
  | none =>
    rw [State.dockSettles_of_none hd]
    exact h
  | some t0 =>
    rw [State.dockSettles_of_some hd]
    exact (h.dockRecognized t0).selectBudgets hcap

theorem State.Ledger.handleSettles (h : s.Ledger m cap) : s.handleSettles.Ledger m cap := by
  unfold State.handleSettles
  split
  · exact h
  · exact ((h.reach _).setPark _).recognizeHandle

/-! ## The timers -/

theorem State.Ledger.atDeadline (h : s.Ledger m cap) (i : SlotId) (st : SlotSt) {act : State → State}
    (hact : ∀ {u : State}, u.Ledger m cap → (act u).Ledger m cap) : (State.atDeadline i st act s).Ledger m cap := by
  unfold State.atDeadline
  split
  · split
    · exact h
    · exact hact (h.reach _)
  · exact h

theorem State.Aside.countMisses (s : State) (i : SlotId) : s.Aside i (s.modSlot i Slot.countMisses) := by
  have hw := State.work_countMisses s i
  refine ⟨State.OnlyAt.rfl.modSlot _ Slot.countMisses_upstream, Eq.refl _, ?_, ?_, ?_⟩
  · rw [State.slot_ctx, hw]
    exact Slot.countMisses_state _
  · rw [State.slot_ctx, hw]
    exact Slot.countMisses_map _
  · rw [State.slot_charge, hw]
    unfold Slot.countMisses
    split <;> exact Eq.refl _

theorem State.Ledger.queryExpires (h : s.Ledger m cap) (i : SlotId) : (s.queryExpires i).Ledger m cap := by
  unfold State.queryExpires
  split
  · exact h
  · next q _ =>
    have hcounted := (h.reach q.expiry).aside (State.Aside.countMisses _ i)
    simp only
    split
    · exact hcounted.enterFault i _
    · exact hcounted.aside (State.Aside.rfl.modSlot _ fun _ => ⟨rfl, rfl, rfl, rfl⟩)

theorem State.Ledger.idleExpires (h : s.Ledger m cap) (i : SlotId) : (s.idleExpires i).Ledger m cap := by
  unfold State.idleExpires
  split
  · exact h
  · refine State.Ledger.settle (State.Ledger.lower ?_ i) i
    exact (h.reach _).modCtx i _ fun _ => ⟨rfl, rfl⟩

theorem State.Ledger.staggerExpires (h : s.Ledger m cap) (b : BankId) : (s.staggerExpires b).Ledger m cap := by
  unfold State.staggerExpires
  split
  · exact h
  · refine State.Ledger.scan ((h.reach _).of_same (fun _ => rfl) rfl fun d => ?_)
    by_cases hd : d = b
    · subst hd
      rw [State.bank_modBank_self]
      exact ⟨rfl, rfl⟩
    · rw [State.bank_modBank_ne _ _ hd]
      exact ⟨rfl, rfl⟩

theorem State.Ledger.transitExpires (h : s.Ledger m cap) : s.transitExpires.Ledger m cap := by
  unfold State.transitExpires
  split
  · exact h
  · exact ((h.reach _).setPark _).testAll

theorem State.Ledger.holdExpires (h : s.Ledger m cap) (i : SlotId) (tag : Tag) : (s.holdExpires i tag).Ledger m cap := by
  unfold State.holdExpires
  split
  · exact h
  split
  · exact h
  · exact State.Ledger.settle ((h.reach _).aside ((State.Aside.rfl.modPass _).completeSensed _ _ _)) i

theorem State.Ledger.loseSensor (h : s.Ledger m cap) : s.loseSensor.Ledger m cap := by
  unfold State.loseSensor
  split
  · exact h
  · exact (h.reach _).setMotion _

theorem State.Ledger.takeSample (h : s.Ledger m cap) (x y z : BitVec 16) : (s.takeSample x y z).Ledger m cap := by
  unfold State.takeSample
  split
  · exact h
  · exact h.setMotion _

theorem State.Ledger.takeDataReady (h : s.Ledger m cap) : s.takeDataReady.Ledger m cap := by
  unfold State.takeDataReady
  split
  · exact h.setMotion _
  · exact h.setMonitor _

theorem State.Ledger.takeReload (h : s.Ledger m cap) : s.takeReload.Ledger m cap := by
  unfold State.takeReload
  split <;> exact h.modLoader _

/-! ## The links -/

/-- A LINK_RESET empties the queue and every passage, and leaves every charge (R150). -/
theorem State.Ledger.linkEmptied (h : s.Ledger m cap) : s.linkEmptied.Ledger m cap :=
  ⟨⟨fun _ he => absurd he List.not_mem_nil, List.nodup_nil⟩, h.balanced.of_same (fun _ => ⟨rfl, rfl⟩) fun b =>
    State.bankSum_congr fun i => by
      rw [State.share, State.linkEmptied_slot]
      rfl⟩

theorem State.Ledger.linkResetTaken (h : s.Ledger m cap) : s.linkResetTaken.Ledger m cap := by
  rw [State.linkResetTaken_eq]
  exact (h.linkEmptied.testAll.shed 0).shed 1

theorem State.Ledger.takeCtrl (h : s.Ledger m cap) (hf : s.Fit False) (f : CtrlFrame) : (s.takeCtrl f).Ledger m cap := by
  cases f with
  | command c => exact h.takeCommand hf c
  | data slot d => exact h.takeCtrlData slot d
  | linkReset => exact h.linkResetTaken
  | discarded => exact h

theorem State.Ledger.takeDrive (h : s.Ledger m cap) (i : SlotId) (f : DriveFrame) : (s.takeDrive i f).Ledger m cap := by
  cases f with
  | completion r => exact h.takeCompletion i r
  | data d => exact h.takeDriveData i d
  | dataRequest r => exact h.takeDataRequest i r
  | controlReply op a => exact h.takeControlReply i op a
  | stateReply r => exact h.takeStateReply i r
  | alertSelfUnload => exact h.takeSelfUnload i
  | alertFault => exact h.takeFaultAlert i
  | discarded => exact h

theorem State.Ledger.setWaiting (h : s.Ledger m cap) (i : SlotId) (q : List DriveFrame) :
    (s.setWaiting i q).Ledger m cap := by
  unfold State.setWaiting
  exact h.aside (State.Aside.rfl.modSlot _ fun _ => ⟨rfl, rfl, rfl, rfl⟩)

theorem State.Ledger.setCtrlWaiting (h : s.Ledger m cap) (q : List CtrlFrame) : (s.setCtrlWaiting q).Ledger m cap :=
  h.setCtrl _

theorem State.Ledger.drainDrives (h : s.Ledger m cap) (l : List SlotId) (ht : s.drainDrives l = some t) :
    t.Ledger m cap := by
  induction l with
  | nil => cases ht
  | cons j rest ih =>
    unfold State.drainDrives at ht
    split at ht
    · exact ih ht
    split at ht
    · cases ht
      exact (h.setWaiting j _).takeDrive j _
    · exact ih ht

theorem State.Ledger.drainOnce (h : s.Ledger m cap) (hf : s.Fit False) (ht : s.drainOnce = some t) :
    t.Ledger m cap := by
  unfold State.drainOnce at ht
  split at ht
  · exact h.drainDrives _ ht
  split at ht
  · cases ht
    exact (h.setCtrlWaiting _).takeCtrl (hf.setCtrlWaiting _) _
  · exact h.drainDrives _ ht

theorem State.Ledger.drain (h : s.Ledger m cap) (hf : s.Fit False) (n : Nat) : (State.drain n s).Ledger m cap := by
  induction n generalizing s with
  | zero => exact h
  | succ n ih =>
    unfold State.drain
    split
    · exact h
    · next t ht => exact ih (h.drainOnce hf ht) (hf.drainOnce ht)

/-- An event of the part, and the frames taken after it; none of either under RESET (log entry 5). -/
theorem State.Ledger.live {ev : State → State} (h : s.Ledger m cap)
    (hev : s.resetAsserted = false → (ev s).Fit False ∧ (ev s).Ledger m cap) : (State.live ev s).Ledger m cap := by
  unfold State.live
  split
  · exact h
  · next hr =>
    obtain ⟨hf, hl⟩ := hev (by simpa using hr)
    exact hl.drain hf _

theorem State.Ledger.arriveCtrl (h : s.Ledger m cap) (hf : s.resetAsserted = false → s.Fit False) (f : CtrlFrame) :
    (s.arriveCtrl f).Ledger m cap := by
  have hw := h.setCtrlWaiting (s.ctrl.waiting ++ [f])
  unfold State.arriveCtrl
  cases hr : s.resetAsserted with
  | false => exact hw.drain ((hf hr).setCtrlWaiting _) _
  | true =>
    rw [State.drain_reset (s := s.setCtrlWaiting (s.ctrl.waiting ++ [f])) hr]
    exact hw

theorem State.Ledger.arriveDrive (h : s.Ledger m cap) (hf : s.resetAsserted = false → s.Fit False) (i : SlotId)
    (f : DriveFrame) : (s.arriveDrive i f).Ledger m cap := by
  unfold State.arriveDrive
  split
  · exact h
  · next hr => exact (h.setWaiting i _).drain ((hf (by simpa using hr)).setWaiting _) _

theorem State.Ledger.downSent (h : s.Ledger m cap) (i : SlotId) : (s.downSent i).Ledger m cap := by
  unfold State.downSent
  split
  · exact h
  · exact h.aside (State.Aside.rfl.modPort _)

theorem State.Ledger.upSent (h : s.Ledger m cap) : s.upSent.Ledger m cap := by
  unfold State.upSent
  split
  · exact h
  · exact h.of_same (fun j => Slot.sameWork_iff.mp (State.pickUpstream_slot _ j)) (by simp)
      fun b => by simp [State.bank]

end events

end Sys2Proof.Machine
end

section
/-! PROOFS. The law of sums and budgets through RESET and over every command. -/

namespace Sys2Proof.Machine

section commands

variable {m : BankId → Prop} {cap : BankId → Nat} {s t : State}

/-! ## RESET -/

/-- Where no slot draws anything and no bank is in OVERDRAW, the law holds. -/
theorem State.Ledger.of_free (hq : s.QueueOk) (hc : ∀ i, (s.slot i).charge = 0)
    (hb : ∀ b, (s.bank b).overdraw = false) : s.Ledger m cap := by
  have hsum : ∀ b, s.bankSum b = 0 := fun b => by
    rw [State.bankSum_eq]
    exact Finset.sum_eq_zero fun i _ => Slot.share_free (hc i)
  have hnot {b : BankId} (ho : (s.bank b).overdraw = true) : False := by
    rw [hb b] at ho
    cases ho
  exact ⟨hq, fun b _ => by rw [hsum b]; exact Nat.zero_le _, fun _ ho => (hnot ho).elim,
    fun _ _ ho => (hnot ho).elim⟩

theorem State.holdReset_ledger (s : State) : s.holdReset.Ledger m cap := by
  obtain ⟨-, hq, -, -⟩ := s.holdReset_sound
  refine .of_free hq (fun i => ?_) fun b => ?_
  · rw [State.holdReset_slot]
    rfl
  · rw [State.holdReset_bank]
    rfl

theorem Slot.started_free (k : SlotMap) (present powerFault : Bool) : (Slot.started k present powerFault).charge = 0 := by
  unfold Slot.started
  split <;> rfl

theorem State.startUp_ledger (s : State) : s.startUp.Ledger m cap := by
  refine .of_free (State.startUp_fit False s).queue (fun i => ?_) fun b => ?_
  · rw [State.startUp_slot]
    exact Slot.started_free _ _ _
  · have hbank : s.startUp.bank b = s.startBase.bank b := by simp [State.bank, s.startUp_startedAt.admission]
    rw [hbank, State.startBase_bank]
    rfl

/-! ## The commands -/

/-- Every command keeps the law, of a part that is sound where RESET is deasserted, under caps that no budget
exceeds. -/
theorem exec_ledger {c : Instr} (ht : exec c s = .next t) (h : s.Ledger m cap)
    (hf : s.resetAsserted = false → s.Fit False) (hcap : ∀ b, (s.bank b).budget ≤ cap b) : t.Ledger m cap := by
  cases c with
  | resetAssert => cases ht; exact s.holdReset_ledger
  | resetDeassert => cases ht; exact s.startUp_ledger.drain (State.startUp_fit False s) _
  | linkReset => cases ht; exact h.arriveCtrl hf _
  | read c | write c | verify c | flush c | identify c | otherAttached op c | sense c | probe c | spinUp c
  | loadHeads c | unloadHeads c | spinDown c | powerOff c | abort c | data slot d =>
    cases ht; exact h.arriveCtrl hf _
  | frameDiscarded link bytes =>
    cases ht
    cases link with
    | controller => exact h.arriveCtrl hf _
    | drive i => exact h.arriveDrive hf i _
  | driveCompletion i r | driveData i d | dataRequest i r | controlReply i op answer | stateReply i report
  | driveAlertSelfUnload i | driveAlertFault i => cases ht; exact h.arriveDrive hf i _
  | presentAsserted i =>
    cases ht; exact (h.setPresent i _).live fun hr => ⟨((hf hr).setPresent _).seated, (h.setPresent i _).seated i⟩
  | presentDeasserted i =>
    cases ht; exact (h.setPresent i _).live fun hr => ⟨((hf hr).setPresent _).unseated, (h.setPresent i _).unseated i⟩
  | presentDebounceComplete i => cases ht; exact h.live fun hr => ⟨(hf hr).seatingDone, h.seatingDone (hf hr) i⟩
  | powerFaultAsserted i =>
    cases ht
    exact (h.setPowerFault i _).live fun hr => ⟨((hf hr).setPowerFault _).tripped, (h.setPowerFault i _).tripped i⟩
  | powerFaultDeasserted i =>
    cases ht
    exact (h.setPowerFault i _).live fun hr => ⟨((hf hr).setPowerFault _).untripped, (h.setPowerFault i _).untripped i⟩
  | dockChange level =>
    have hline : State.Ledger m cap { s with dockLine := level } := h.of_same (fun _ => rfl) rfl fun _ => ⟨rfl, rfl⟩
    cases ht
    exact hline.live fun hr => ⟨((hf hr).setDockLine _).dockMoves,
      hline.of_same (fun _ => rfl) rfl fun _ => ⟨rfl, rfl⟩⟩
  | dockDebounceComplete => cases ht; exact h.live fun hr => ⟨(hf hr).dockSettles, h.dockSettles hcap⟩
  | handleChange level =>
    have hline : State.Ledger m cap { s with handleLine := level } := h.of_same (fun _ => rfl) rfl fun _ => ⟨rfl, rfl⟩
    cases ht
    exact hline.live fun hr => ⟨((hf hr).setHandleLine _).handleMoves, hline.setPark _⟩
  | handleDebounceComplete => cases ht; exact h.live fun hr => ⟨(hf hr).handleSettles, h.handleSettles⟩
  | reloadEdge => cases ht; exact h.live fun hr => ⟨(hf hr).takeReload, h.takeReload⟩
  | shockTestEdge => cases ht; exact h.live fun hr => ⟨(hf hr).setMonitor _, h.setMonitor _⟩
  | dataReadyEdge => cases ht; exact h.live fun hr => ⟨(hf hr).takeDataReady, h.takeDataReady⟩
  | sample x y z => cases ht; exact h.live fun hr => ⟨(hf hr).takeSample x y z, h.takeSample x y z⟩
  | lossTimerExpiry => cases ht; exact h.live fun hr => ⟨(hf hr).loseSensor, h.loseSensor⟩
  | powerDeadlineExpiry i | unloadDeadlineExpiry i | stopDeadlineExpiry i =>
    cases ht; exact h.live fun hr => ⟨(hf hr).atFaultDeadline i _ _, h.atDeadline i _ fun hu => hu.enterFault i _⟩
  | spinDeadlineExpiry i =>
    cases ht; exact h.live fun hr => ⟨(hf hr).atSpinDeadline i, h.atDeadline i _ fun hu => hu.spinFails i _⟩
  | loadDeadlineExpiry i =>
    cases ht; exact h.live fun hr => ⟨(hf hr).atLoadDeadline i, h.atDeadline i _ fun hu => hu.loadFails i⟩
  | queryScheduleExpiry i => cases ht; exact h.live fun hr => ⟨(hf hr).queryExpires, h.queryExpires i⟩
  | idleTimerExpiry i => cases ht; exact h.live fun hr => ⟨(hf hr).idleExpires, h.idleExpires i⟩
  | staggerTimerExpiry b => cases ht; exact h.live fun hr => ⟨(hf hr).staggerExpires b, h.staggerExpires b⟩
  | transitTimerExpiry => cases ht; exact h.live fun hr => ⟨(hf hr).transitExpires, h.transitExpires⟩
  | holdDeadlineExpiry i tag => cases ht; exact h.live fun hr => ⟨(hf hr).holdExpires tag, h.holdExpires i tag⟩
  | profileReadComplete image =>
    cases ht; exact h.live fun hr => ⟨(hf hr).takeImage image, h.takeImage (fun i => ((hf hr).slots i).quiet) hcap image⟩
  | readLimitExpiry =>
    cases ht; exact h.live fun hr => ⟨(hf hr).readTimesOut, h.readTimesOut (fun i => ((hf hr).slots i).quiet) hcap⟩
  | driveFrameSent i => cases ht; exact h.live fun hr => ⟨(hf hr).downSent, h.downSent i⟩
  | upstreamFrameSent => cases ht; exact h.live fun hr => ⟨(hf hr).upSent, h.upSent⟩

/-! ## The step -/

/-- What bounds the sum of a bank in OVERDRAW after a step: its sum before, or the budget it had, under which a bank
stood that comes into OVERDRAW. -/
def State.sumCap (s : State) (b : BankId) : Nat := max (s.bankSum b) (s.bank b).budget

/-- The law at the start of a step, the marks right where they are all right. -/
theorem State.SumsOk.ledger (h : s.SumsOk) (hq : s.QueueOk) : s.Ledger (fun _ => s.MarksOk) s.sumCap where
  queue := hq
  balanced :=
    { within := fun b ho => (h b).resolve_left (by rw [ho]; exact Bool.false_ne_true)
      capped := fun _ _ => Nat.le_max_left _ _
      exceeds := fun b hm => hm b }

theorem step_ledger (ht : step s = .next t) (hs : s.Sound) (h : s.Ledger m cap)
    (hcap : ∀ b, (s.bank b).budget ≤ cap b) : t.Ledger m cap := by
  unfold step at ht
  split at ht
  · cases ht
    exact h.of_same (fun _ => rfl) rfl fun _ => ⟨rfl, rfl⟩
  · next c rest _ =>
    exact exec_ledger ht (h.of_same (fun _ => rfl) rfl fun _ => ⟨rfl, rfl⟩) (fun hr => (hs.fit hr).setPending rest) hcap

theorem State.Balanced.sumsOk (h : s.Balanced m cap) : s.SumsOk := fun b => by
  cases ho : (s.bank b).overdraw with
  | true => exact .inl rfl
  | false => exact .inr (h.within b ho)

end commands

/-- Settles O57: the law is kept by every operation, with the former sums as caps: a bank found in OVERDRAW was above
its budget, so that its sum is its cap. -/
theorem sumsStayWithinBudgets : Obligations.SumsStayWithinBudgets := by
  unfold Obligations.SumsStayWithinBudgets
  intro s t ht hs hsums
  obtain ⟨-, hqueue, -, -⟩ := id hs
  have h := (step_ledger ht hs (hsums.ledger hqueue) fun _ => Nat.le_max_right _ _).balanced
  refine ⟨h.sumsOk, fun hmarks => ⟨fun b => h.exceeds b hmarks, fun b hbefore hafter => ?_⟩⟩
  have hcap : s.sumCap b = s.bankSum b := Nat.max_eq_left (hmarks b hbefore).le
  exact (h.capped b hafter).trans_eq hcap

end Sys2Proof.Machine
end

section
/-! PROOFS. The motion monitor: what each of the nine steps of a sample leaves in each field, and the sample as a
whole where it jolts, where it finds JOLT, and where it does neither (R56 to R71). -/

namespace Sys2Proof.Machine

/-! ## What the later steps leave alone -/

/-- From m to m', no field but the baselines, the motion state and its two counts changed. -/
def Motion.Alike (m m' : Motion) : Prop :=
  m' = { m with state := m'.state, settle := m'.settle, quiet := m'.quiet, gx := m'.gx, gy := m'.gy, gz := m'.gz }

/-- From m to m', no field but the motion state and its two counts changed. -/
def Motion.Moved (m m' : Motion) : Prop :=
  m' = { m with state := m'.state, settle := m'.settle, quiet := m'.quiet }

section steps

variable {p : MotionParams} {m m' m'' : Motion} {st : MotionSt} {x y z gz : Int} {j v : Nat}

theorem Motion.Moved.rfl : m.Moved m := Eq.refl m

theorem Motion.Alike.trans (h : m.Alike m') (k : m'.Alike m'') : m.Alike m'' := by
  unfold Motion.Alike at *
  rw [k, h]

theorem Motion.Moved.alike (h : m.Moved m') : m.Alike m' := by
  unfold Motion.Moved at h
  unfold Motion.Alike
  rw [h]

theorem Motion.Moved.baselines (h : m.Moved m') : m'.gx = m.gx ∧ m'.gy = m.gy ∧ m'.gz = m.gz := by
  unfold Motion.Moved at h
  rw [h]
  exact ⟨Eq.refl _, Eq.refl _, Eq.refl _⟩

/-! ## A change of motion state -/

theorem Motion.become_moved (m : Motion) (st : MotionSt) : m.Moved (m.become st) := by
  unfold Motion.become
  split <;> exact Eq.refl _

@[simp] theorem Motion.become_state (m : Motion) (st : MotionSt) : (m.become st).state = st := by
  unfold Motion.become
  split
  · assumption
  · rfl

/-- A change to another state zeroes both counts (R71). -/
theorem Motion.become_of_ne (h : m.state ≠ st) : m.become st = { m with state := st, settle := 0, quiet := 0 } :=
  if_neg h

theorem attitude_cases (p : MotionParams) (gz : Int) (n : Nat) :
    attitude p gz n = .tilted ∨ attitude p gz n = .rolling ∨ attitude p gz n = .still := by
  unfold attitude
  split
  · exact .inl rfl
  · split
    · exact .inr (.inl rfl)
    · exact .inr (.inr rfl)

theorem attitude_ne_jolt (p : MotionParams) (gz : Int) (n : Nat) : attitude p gz n ≠ .jolt := by
  rcases attitude_cases p gz n with h | h | h <;> rw [h] <;> exact MotionSt.noConfusion

/-! ## Steps 1 to 5 -/

theorem Motion.seed_eq (m : Motion) (x y z : Int) :
    m.seed x y z
      = { m with
          seeded := true
          gx := if m.seeded then m.gx else 256 * x
          gy := if m.seeded then m.gy else 256 * y
          gz := if m.seeded then m.gz else 256 * z } := by
  unfold Motion.seed
  cases h : m.seeded
  · rfl
  · cases m
    subst h
    rfl

theorem Motion.score_le (m : Motion) (x y z : Int) : m.score x y z ≤ 4095 := by
  unfold Motion.score
  split
  · exact Nat.le_refl _
  · exact Nat.min_le_left _ _

/-- A reading is its own baseline once it has seeded the monitor (R57). -/
theorem Motion.score_seeding (hs : m.seeded = false) (hp : m.shockPending = false) (x y z : Int) :
    (m.seed x y z).score x y z = 0 := by
  have hb (a : Int) : (a - baseline (256 * a)).natAbs = 0 := by
    unfold baseline
    omega
  simp [Motion.score, Motion.seed_eq, hs, hp, hb]

/-- The jolt score of a sample (R58, R59). -/
def Motion.joltScore (x y z : Int) (m : Motion) : Nat := (m.seed x y z).score x y z

/-- The monitor at the end of step 5 (R57 to R60). -/
def Motion.scored (p : MotionParams) (x y z : Int) (m : Motion) : Motion :=
  { m.seed x y z with acc := accumulate p (m.seed x y z).acc (m.joltScore x y z), shockPending := false }

theorem Motion.scored_eq (p : MotionParams) (x y z : Int) (m : Motion) :
    m.scored p x y z
      = { m with
          seeded := true
          gx := if m.seeded then m.gx else 256 * x
          gy := if m.seeded then m.gy else 256 * y
          gz := if m.seeded then m.gz else 256 * z
          acc := accumulate p m.acc (m.joltScore x y z)
          shockPending := false } := by
  rw [Motion.scored, Motion.seed_eq]

/-- A sample, by its steps from the sixth on (R56). -/
theorem Motion.sample_eq (p : MotionParams) (x y z : Int) (m : Motion) :
    Motion.sample p x y z m
      = Motion.leaveJolt p (baseline (m.scored p x y z).gz)
          (Motion.advance p (baseline (m.scored p x y z).gz)
            (Motion.track p (!m.seeded) x y z
              (Motion.count p (m.joltScore x y z) (vibration p (m.scored p x y z).acc) (m.scored p x y z)))) := rfl

/-! ## Steps 6 and 7 -/

/-- The monitor in JOLT with both counts at 0 (R61, R71). -/
def Motion.jolted (m : Motion) : Motion := { m with state := .jolt, settle := 0, quiet := 0 }

/-- The monitor with its settle count replaced (R62). -/
def Motion.settleAt (n : Nat) (m : Motion) : Motion := { m with settle := n }

/-- The tally with a sample's jolt score counted (R61). -/
def Motion.tallied (p : MotionParams) (j : Nat) (m : Motion) : Motion :=
  { m with tally := if p.troll ≤ j then m.tally + 1 else m.tally }

theorem Motion.count_jolt (h : p.tjolt ≤ j) :
    Motion.count p j v m = (m.tallied p j).jolted := if_pos h

theorem Motion.count_settling (h : j < p.tjolt) (hs : m.state = .jolt) :
    Motion.count p j v m = (m.tallied p j).settleAt (if v < p.tsettle then m.settle + 1 else 0) :=
  (if_neg (Nat.not_le.mpr h)).trans (if_pos hs)

theorem Motion.count_outside (h : j < p.tjolt) (hs : m.state ≠ .jolt) :
    Motion.count p j v m = m.tallied p j := (if_neg (Nat.not_le.mpr h)).trans (if_neg hs)

theorem Motion.count_moved (p : MotionParams) (j v : Nat) (m : Motion) : (m.tallied p j).Moved (Motion.count p j v m) := by
  unfold Motion.count
  simp only
  split
  · exact Eq.refl _
  · split <;> exact Eq.refl _

theorem Motion.track_jolt (h : m.state = .jolt) (b : Bool) : Motion.track p b x y z m = m := by
  simp [Motion.track, h]

theorem Motion.track_seeding (p : MotionParams) (x y z : Int) (m : Motion) : Motion.track p true x y z m = m := by
  simp [Motion.track]

theorem Motion.track_follows (h : m.state ≠ .jolt) :
    Motion.track p false x y z m
      = { m with gx := follow p m.gx x, gy := follow p m.gy y, gz := follow p m.gz z } := by
  simp [Motion.track, h]

theorem Motion.track_alike (p : MotionParams) (b : Bool) (x y z : Int) (m : Motion) :
    m.Alike (Motion.track p b x y z m) := by
  unfold Motion.track
  split <;> exact Eq.refl _

theorem Motion.track_kept (p : MotionParams) (b : Bool) (x y z : Int) (m : Motion) :
    (Motion.track p b x y z m).state = m.state ∧ (Motion.track p b x y z m).settle = m.settle
      ∧ (Motion.track p b x y z m).quiet = m.quiet := by
  unfold Motion.track
  split <;> exact ⟨rfl, rfl, rfl⟩

/-! ## Steps 8 and 9 -/

/-- The window advanced, and at its end started again with its tally kept as the last (R64). -/
def Motion.windowed (m : Motion) : Motion :=
  if Config.windowSamples ≤ m.window + 1 then { m with window := 0, tLast := m.tally, tally := 0 }
  else { m with window := m.window + 1 }

theorem Motion.windowed_within (h : m.window + 1 < 800) : m.windowed = { m with window := m.window + 1 } :=
  if_neg (Nat.not_le.mpr h)

theorem Motion.windowed_ends (h : m.window + 1 = 800) :
    m.windowed = { m with window := 0, tLast := m.tally, tally := 0 } := if_pos h.ge

theorem Motion.Alike.windowed (h : m.Alike m') : m.windowed.Alike m'.windowed := by
  unfold Motion.Alike at h
  rw [h]
  unfold Motion.windowed
  simp only
  split <;> exact Eq.refl _

theorem Motion.windowed_kept (m : Motion) :
    m.windowed.state = m.state ∧ m.windowed.settle = m.settle ∧ m.windowed.quiet = m.quiet
      ∧ m.windowed.gx = m.gx ∧ m.windowed.gy = m.gy ∧ m.windowed.gz = m.gz := by
  unfold Motion.windowed
  split <;> exact ⟨rfl, rfl, rfl, rfl, rfl, rfl⟩

theorem Motion.evaluate_moved (p : MotionParams) (gz : Int) (m : Motion) : m.Moved (Motion.evaluate p gz m) := by
  unfold Motion.evaluate
  split
  · exact m.become_moved _
  · exact m.become_moved _
  · split
    · exact m.become_moved _
    · split
      · split
        · exact m.become_moved _
        · exact Eq.refl _
      · exact Eq.refl _
  · split
    · exact m.become_moved _
    · exact Eq.refl _
  · exact Eq.refl _
  · exact Eq.refl _

/-- No evaluation leads into JOLT (R67 to R70). -/
theorem Motion.evaluate_ne_jolt (h : m.state ≠ .jolt) : (Motion.evaluate p gz m).state ≠ .jolt := by
  cases hs : m.state <;> simp only [Motion.evaluate, hs]
  case settling => rw [Motion.become_state]; exact attitude_ne_jolt _ _ _
  case still => rw [Motion.become_state]; exact attitude_ne_jolt _ _ _
  case rolling => (repeat' split) <;> simp
  case tilted => (repeat' split) <;> simp [hs]
  case jolt => exact absurd hs h
  case sensorLost => exact MotionSt.noConfusion

theorem Motion.evaluate_jolt (h : m.state = .jolt) : Motion.evaluate p gz m = m := by
  unfold Motion.evaluate
  rw [h]

/-- At the end of a window, and nowhere else, comes the evaluation (R64). -/
theorem Motion.advance_eq (p : MotionParams) (gz : Int) (m : Motion) :
    Motion.advance p gz m
      = if Config.windowSamples ≤ m.window + 1 then Motion.evaluate p gz m.windowed else m.windowed := by
  unfold Motion.advance Motion.windowed
  split <;> rfl

theorem Motion.advance_within (h : m.window + 1 < 800) : Motion.advance p gz m = m.windowed := by
  rw [Motion.advance_eq]
  exact if_neg (Nat.not_le.mpr h)

theorem Motion.advance_ends (h : m.window + 1 = 800) : Motion.advance p gz m = Motion.evaluate p gz m.windowed := by
  rw [Motion.advance_eq]
  exact if_pos h.ge

theorem Motion.advance_jolt (h : m.state = .jolt) : Motion.advance p gz m = m.windowed := by
  rw [Motion.advance_eq, Motion.evaluate_jolt (m.windowed_kept.1.trans h), ite_self]

theorem Motion.advance_moved (p : MotionParams) (gz : Int) (m : Motion) : m.windowed.Moved (Motion.advance p gz m) := by
  rw [Motion.advance_eq]
  split
  · exact Motion.evaluate_moved _ _ _
  · exact Motion.Moved.rfl

theorem Motion.advance_ne_jolt (h : m.state ≠ .jolt) : (Motion.advance p gz m).state ≠ .jolt := by
  have hw : m.windowed.state ≠ .jolt := by rwa [m.windowed_kept.1]
  rw [Motion.advance_eq]
  split
  · exact Motion.evaluate_ne_jolt hw
  · exact hw

theorem Motion.leaveJolt_outside (h : m.state ≠ .jolt) : Motion.leaveJolt p gz m = m := by
  simp [Motion.leaveJolt, h]

theorem Motion.leaveJolt_stays (h : m.settle < p.dsettle) : Motion.leaveJolt p gz m = m := by
  simp [Motion.leaveJolt, Nat.not_le.mpr h]

theorem Motion.leaveJolt_leaves (hs : m.state = .jolt) (h : p.dsettle ≤ m.settle) :
    Motion.leaveJolt p gz m = { m with state := attitude p gz m.tLast, settle := 0, quiet := 0 } := by
  simp only [Motion.leaveJolt, hs, h, decide_true, Bool.and_self, if_true]
  exact Motion.become_of_ne (by rw [hs]; exact (attitude_ne_jolt _ _ _).symm)

theorem Motion.leaveJolt_moved (p : MotionParams) (gz : Int) (m : Motion) : m.Moved (Motion.leaveJolt p gz m) := by
  unfold Motion.leaveJolt
  split
  · exact m.become_moved _
  · exact Eq.refl _

/-! ## The sample as a whole -/

/-- The fields that the later steps leave alone are those of the tally counted and the window advanced. -/
theorem Motion.sample_alike (p : MotionParams) (x y z : Int) (m : Motion) :
    ((m.scored p x y z).tallied p (m.joltScore x y z)).windowed.Alike (Motion.sample p x y z m) := by
  rw [Motion.sample_eq]
  refine Motion.Alike.trans ?_ (Motion.leaveJolt_moved p _ _).alike
  refine Motion.Alike.trans ?_ (Motion.advance_moved p _ _).alike
  exact ((Motion.count_moved p _ _ _).alike.trans (Motion.track_alike p _ x y z _)).windowed

/-- A jolt leads to JOLT, its window advanced (R61). -/
theorem Motion.sample_jolts (hd : 1 ≤ p.dsettle) (h : p.tjolt ≤ m.joltScore x y z) :
    Motion.sample p x y z m
      = ((m.scored p x y z).tallied p (m.joltScore x y z)).jolted.windowed := by
  rw [Motion.sample_eq, Motion.count_jolt h, Motion.track_jolt rfl, Motion.advance_jolt rfl]
  refine Motion.leaveJolt_stays ?_
  rw [(Motion.windowed_kept _).2.1]
  exact hd

@[simp] theorem Motion.scored_state (p : MotionParams) (x y z : Int) (m : Motion) : (m.scored p x y z).state = m.state := by
  simp [Motion.scored_eq]
@[simp] theorem Motion.scored_settle (p : MotionParams) (x y z : Int) (m : Motion) :
    (m.scored p x y z).settle = m.settle := by
  simp [Motion.scored_eq]

/-- Any other sample in JOLT counts towards settling, and leaves JOLT at the end of the count (R62, R65). -/
theorem Motion.sample_settling (h : m.joltScore x y z < p.tjolt) (hs : m.state = .jolt) :
    Motion.sample p x y z m
      = Motion.leaveJolt p (baseline (m.scored p x y z).gz)
          (Motion.windowed
            (((m.scored p x y z).tallied p (m.joltScore x y z)).settleAt
              (if vibration p (m.scored p x y z).acc < p.tsettle then m.settle + 1 else 0))) := by
  have hstate : (m.scored p x y z).state = .jolt := by simpa using hs
  rw [Motion.sample_eq, Motion.count_settling h hstate, Motion.scored_settle]
  generalize (if vibration p (m.scored p x y z).acc < p.tsettle then m.settle + 1 else 0) = n
  have hcounted : (((m.scored p x y z).tallied p (m.joltScore x y z)).settleAt n).state = .jolt := hstate
  rw [Motion.track_jolt hcounted, Motion.advance_jolt hcounted]

/-- Any other sample outside JOLT moves the baselines and the window (R63, R64). -/
theorem Motion.sample_outside (h : m.joltScore x y z < p.tjolt) (hs : m.state ≠ .jolt) :
    Motion.sample p x y z m
      = Motion.advance p (baseline (m.scored p x y z).gz)
          (Motion.track p (!m.seeded) x y z ((m.scored p x y z).tallied p (m.joltScore x y z))) := by
  have hstate : (m.scored p x y z).state ≠ .jolt := by simpa using hs
  have htrack := (Motion.track_kept p (!m.seeded) x y z ((m.scored p x y z).tallied p (m.joltScore x y z))).1
  rw [Motion.sample_eq, Motion.count_outside h hstate]
  exact Motion.leaveJolt_outside (Motion.advance_ne_jolt (by rw [htrack]; exact hstate))

end steps

end Sys2Proof.Machine
end

section
/-! PROOFS. The arithmetic of a sample and the window-end evaluation (R56 to R71). -/

namespace Sys2Proof.Machine

section sample

variable {p : MotionParams} {m m' : Motion} {x y z gz : Int} {n : Nat}

/-! ## The fields that the later steps leave -/

theorem Motion.Alike.kept (h : m.Alike m') :
    m'.acc = m.acc ∧ m'.seeded = m.seeded ∧ m'.shockPending = m.shockPending ∧ m'.window = m.window
      ∧ m'.tally = m.tally ∧ m'.tLast = m.tLast := by
  unfold Motion.Alike at h
  rw [h]
  exact ⟨rfl, rfl, rfl, rfl, rfl, rfl⟩

theorem Motion.windowed_scored (m : Motion) :
    m.windowed.acc = m.acc ∧ m.windowed.seeded = m.seeded ∧ m.windowed.shockPending = m.shockPending := by
  unfold Motion.windowed
  split <;> exact ⟨rfl, rfl, rfl⟩

/-- A sample is scored, and after it the monitor is seeded with no shock test pending (R57, R59, R60). -/
theorem Motion.sample_scored (p : MotionParams) (x y z : Int) (m : Motion) :
    (Motion.sample p x y z m).acc = accumulate p m.acc (m.joltScore x y z)
      ∧ (Motion.sample p x y z m).seeded = true ∧ (Motion.sample p x y z m).shockPending = false := by
  obtain ⟨hacc, hseeded, hshock, -⟩ := (Motion.sample_alike p x y z m).kept
  obtain ⟨wacc, wseeded, wshock⟩ := ((m.scored p x y z).tallied p (m.joltScore x y z)).windowed_scored
  rw [hacc, hseeded, hshock, wacc, wseeded, wshock, Motion.tallied, Motion.scored_eq]
  exact ⟨rfl, rfl, rfl⟩

/-- The window and the tallies after a sample (R61, R64). -/
theorem Motion.sample_window (p : MotionParams) (x y z : Int) (m : Motion) :
    (m.window + 1 < 800 → (Motion.sample p x y z m).window = m.window + 1
        ∧ (Motion.sample p x y z m).tLast = m.tLast
        ∧ (Motion.sample p x y z m).tally = if p.troll ≤ m.joltScore x y z then m.tally + 1 else m.tally)
      ∧ (m.window + 1 = 800 → (Motion.sample p x y z m).window = 0 ∧ (Motion.sample p x y z m).tally = 0
        ∧ (Motion.sample p x y z m).tLast
          = if p.troll ≤ m.joltScore x y z then m.tally + 1 else m.tally) := by
  obtain ⟨-, -, -, hwindow, htally, hlast⟩ := (Motion.sample_alike p x y z m).kept
  rw [hwindow, htally, hlast]
  have hw : ((m.scored p x y z).tallied p (m.joltScore x y z)).window = m.window := by
    rw [Motion.tallied, Motion.scored_eq]
  refine ⟨fun h => ?_, fun h => ?_⟩
  · rw [Motion.windowed_within (by rwa [hw]), Motion.tallied, Motion.scored_eq]
    exact ⟨rfl, rfl, rfl⟩
  · rw [Motion.windowed_ends (by rwa [hw]), Motion.tallied, Motion.scored_eq]
    exact ⟨rfl, rfl, rfl⟩

/-! ## The baselines -/

/-- A jolt leaves the baselines as they were, and both counts at 0 (R61, R63, R71). -/
theorem Motion.sample_jolts_fields (hd : 1 ≤ p.dsettle) (h : p.tjolt ≤ m.joltScore x y z) :
    (Motion.sample p x y z m).state = .jolt ∧ (Motion.sample p x y z m).settle = 0
      ∧ (Motion.sample p x y z m).quiet = 0 ∧ (Motion.sample p x y z m).gx = (m.scored p x y z).gx
      ∧ (Motion.sample p x y z m).gy = (m.scored p x y z).gy
      ∧ (Motion.sample p x y z m).gz = (m.scored p x y z).gz := by
  rw [Motion.sample_jolts hd h]
  exact Motion.windowed_kept _

/-- Outside JOLT the baselines are those of step 7 (R63). -/
theorem Motion.sample_baselines (h : m.joltScore x y z < p.tjolt) (hs : m.state ≠ .jolt) :
    let t := Motion.track p (!m.seeded) x y z ((m.scored p x y z).tallied p (m.joltScore x y z))
    (Motion.sample p x y z m).gx = t.gx ∧ (Motion.sample p x y z m).gy = t.gy
      ∧ (Motion.sample p x y z m).gz = t.gz := by
  intro t
  obtain ⟨-, -, -, hx, hy, hz⟩ := t.windowed_kept
  rw [Motion.sample_outside h hs, ← hx, ← hy, ← hz]
  exact (Motion.advance_moved p _ t).baselines

/-- Short of the end of its window such a sample changes neither the motion state nor a count (R64). -/
theorem Motion.sample_within (h : m.joltScore x y z < p.tjolt) (hs : m.state ≠ .jolt) (hw : m.window + 1 < 800) :
    (Motion.sample p x y z m).state = m.state ∧ (Motion.sample p x y z m).settle = m.settle
      ∧ (Motion.sample p x y z m).quiet = m.quiet := by
  let c := (m.scored p x y z).tallied p (m.joltScore x y z)
  have hc : c.state = m.state ∧ c.settle = m.settle ∧ c.quiet = m.quiet ∧ c.window = m.window := by
    simp only [c, Motion.tallied, Motion.scored_eq, and_self]
  obtain ⟨cstate, csettle, cquiet, cwindow⟩ := hc
  obtain ⟨tstate, tsettle, tquiet⟩ := Motion.track_kept p (!m.seeded) x y z c
  obtain ⟨-, -, -, twindow, -, -⟩ := (Motion.track_alike p (!m.seeded) x y z c).kept
  obtain ⟨h1, h2, h3, -⟩ := (Motion.track p (!m.seeded) x y z c).windowed_kept
  rw [Motion.sample_outside h hs, Motion.advance_within (by rw [twindow, cwindow]; exact hw), h1, h2, h3]
  exact ⟨tstate.trans cstate, tsettle.trans csettle, tquiet.trans cquiet⟩

/-! ## The way out of JOLT -/

/-- In JOLT the baselines stand, and the settle count decides (R62, R63, R65). -/
theorem Motion.sample_settles (h : m.joltScore x y z < p.tjolt) (hs : m.state = .jolt)
    (hn : n = if vibration p (m.scored p x y z).acc < p.tsettle then m.settle + 1 else 0) :
    (Motion.sample p x y z m).gx = (m.scored p x y z).gx ∧ (Motion.sample p x y z m).gy = (m.scored p x y z).gy
      ∧ (Motion.sample p x y z m).gz = (m.scored p x y z).gz
      ∧ (n < p.dsettle → (Motion.sample p x y z m).state = .jolt ∧ (Motion.sample p x y z m).settle = n)
      ∧ (p.dsettle ≤ n → (Motion.sample p x y z m).settle = 0 ∧ (Motion.sample p x y z m).quiet = 0
          ∧ (Motion.sample p x y z m).state
            = attitude p (baseline (m.scored p x y z).gz) (Motion.sample p x y z m).tLast) := by
  rw [Motion.sample_settling h hs, ← hn]
  let u := (((m.scored p x y z).tallied p (m.joltScore x y z)).settleAt n).windowed
  obtain ⟨hstate, hsettle, -, hx, hy, hz⟩ :=
    (((m.scored p x y z).tallied p (m.joltScore x y z)).settleAt n).windowed_kept
  have hin : u.state = .jolt := hstate.trans ((Motion.scored_state p x y z m).trans hs)
  obtain ⟨baseX, baseY, baseZ⟩ := (Motion.leaveJolt_moved p (baseline (m.scored p x y z).gz) u).baselines
  refine ⟨baseX.trans hx, baseY.trans hy, baseZ.trans hz, fun hlt => ?_, fun hle => ?_⟩
  · rw [Motion.leaveJolt_stays (by rw [hsettle]; exact hlt)]
    exact ⟨hin, hsettle⟩
  · rw [Motion.leaveJolt_leaves hin (by rw [hsettle]; exact hle)]
    exact ⟨rfl, rfl, rfl⟩

end sample

/-- Settles O38: the sample by its steps, as it jolts, finds JOLT, or does neither. -/
theorem sampleArithmetic : Obligations.SampleArithmetic := by
  unfold Obligations.SampleArithmetic
  intro p m x y z hd gx gy gz j m'
  have hj : m.joltScore x y z = j := by
    simp only [Motion.joltScore, Motion.score, Motion.seed_eq, baseline]
    rfl
  have hb : (m.scored p x y z).gx = gx ∧ (m.scored p x y z).gy = gy ∧ (m.scored p x y z).gz = gz := by
    rw [Motion.scored_eq]
    exact ⟨rfl, rfl, rfl⟩
  obtain ⟨seedX, seedY, seedZ⟩ := hb
  obtain ⟨hacc, hseeded, hshock⟩ := Motion.sample_scored p x y z m
  obtain ⟨hwithin, hends⟩ := Motion.sample_window p x y z m
  rw [hj] at hacc hwithin hends
  refine ⟨hacc, hseeded, hshock, fun h0 hp => ?_, fun h => ?_, fun h hs h1 => ?_, fun h hs h0 => ?_,
    fun h hs hw => ?_, fun h hs => ?_, hwithin, hends⟩
  · rw [← hj]
    exact Motion.score_seeding h0 hp x y z
  · obtain ⟨e1, e2, e3, ex, ey, ez⟩ := Motion.sample_jolts_fields hd (hj ▸ h)
    exact ⟨e1, e2, e3, ex.trans seedX, ey.trans seedY, ez.trans seedZ⟩
  · obtain ⟨ex, ey, ez⟩ := Motion.sample_baselines (hj ▸ h) hs
    rw [h1, Bool.not_true, Motion.track_follows (by simpa [Motion.tallied] using hs)] at ex ey ez
    rw [ex, ey, ez, ← seedX, ← seedY, ← seedZ]
    exact ⟨rfl, rfl, rfl⟩
  · obtain ⟨ex, ey, ez⟩ := Motion.sample_baselines (hj ▸ h) hs
    rw [h0, Bool.not_false, Motion.track_seeding] at ex ey ez
    have hseed (a b : Int) : (if m.seeded then a else b) = b := by rw [h0]; rfl
    exact ⟨(ex.trans seedX).trans (hseed _ _), (ey.trans seedY).trans (hseed _ _), (ez.trans seedZ).trans (hseed _ _)⟩
  · exact Motion.sample_within (hj ▸ h) hs hw
  · intro v n
    have hv : vibration p (m.scored p x y z).acc = v := by
      have e : (m.scored p x y z).acc = m'.acc := by rw [hacc, Motion.scored_eq, hj]
      rw [e]
      rfl
    obtain ⟨ex, ey, ez, hstay, hleave⟩ := Motion.sample_settles (n := n) (hj ▸ h) hs (by rw [hv])
    refine ⟨ex.trans seedX, ey.trans seedY, ez.trans seedZ, hstay, fun hle => ?_⟩
    rw [seedZ] at hleave
    exact hleave hle

/-! ## The window-end evaluation -/

section evaluate

variable {p : MotionParams} {m : Motion} {gz : Int}

theorem Motion.evaluate_settling (h : m.state = .settling) :
    (Motion.evaluate p gz m).state = attitude p gz m.tLast := by
  simp only [Motion.evaluate, h, Motion.become_state]

theorem Motion.evaluate_still (h : m.state = .still) : (Motion.evaluate p gz m).state = attitude p gz m.tLast := by
  simp only [Motion.evaluate, h, Motion.become_state]

/-- ROLLING is left for TILTED, or for STILL at the last of its quiet windows in a row (R69). -/
theorem Motion.evaluate_rolling (h : m.state = .rolling) :
    (gz < p.ttilt → (Motion.evaluate p gz m).state = .tilted)
      ∧ (p.ttilt ≤ gz → m.tLast < p.nroll →
          (p.wquiet ≤ m.quiet + 1 →
            (Motion.evaluate p gz m).state = .still ∧ (Motion.evaluate p gz m).quiet = 0)
          ∧ (m.quiet + 1 < p.wquiet →
            (Motion.evaluate p gz m).state = .rolling ∧ (Motion.evaluate p gz m).quiet = m.quiet + 1))
      ∧ (p.ttilt ≤ gz → p.nroll ≤ m.tLast →
          (Motion.evaluate p gz m).state = .rolling ∧ (Motion.evaluate p gz m).quiet = 0) := by
  have hne : m.state ≠ .still := by rw [h]; exact MotionSt.noConfusion
  unfold Motion.evaluate
  rw [h]
  refine ⟨fun htilt => ?_, fun htilt hquiet => ⟨fun hlast => ?_, fun hmore => ?_⟩, fun htilt hroll => ?_⟩
  · simp [htilt]
  · simp [Int.not_lt.mpr htilt, hquiet, hlast, Motion.become_of_ne hne]
  · simp [Int.not_lt.mpr htilt, hquiet, Nat.not_le.mpr hmore]
  · simp [Int.not_lt.mpr htilt, Nat.not_lt.mpr hroll]

/-- TILTED is left at Ttilt + Htilt or above alone (R70). -/
theorem Motion.evaluate_tilted (h : m.state = .tilted) :
    (Motion.evaluate p gz m).state
      = if p.ttilt + p.htilt ≤ gz then (if p.nroll ≤ m.tLast then .rolling else .still) else .tilted := by
  simp only [Motion.evaluate, h]
  split
  · exact Motion.become_state _ _
  · exact h

end evaluate

/-- The sample at window position 799, no jolt and outside JOLT, evaluates the present state (R56, R64). -/
theorem Motion.sample_evaluates {p : MotionParams} {m : Motion} {x y z : Int} (hw : m.window = 799)
    (hs : m.state ≠ .jolt) (h : m.joltScore x y z < p.tjolt) :
    ∃ u : Motion, u.state = m.state ∧ u.quiet = m.quiet
      ∧ u.tLast = (if p.troll ≤ m.joltScore x y z then m.tally + 1 else m.tally)
      ∧ Motion.sample p x y z m
        = Motion.evaluate p ((if m.seeded then m.gz else 256 * z) / 256) u := by
  let c := (m.scored p x y z).tallied p (m.joltScore x y z)
  let t := Motion.track p (!m.seeded) x y z c
  have hc : c.state = m.state ∧ c.quiet = m.quiet ∧ c.window = 799
      ∧ c.tally = (if p.troll ≤ m.joltScore x y z then m.tally + 1 else m.tally) := by
    simp only [c, Motion.tallied, Motion.scored_eq, hw, and_self]
  obtain ⟨cstate, cquiet, cwindow, ctally⟩ := hc
  obtain ⟨tstate, -, tquiet⟩ := Motion.track_kept p (!m.seeded) x y z c
  obtain ⟨-, -, -, twindow, ttally, -⟩ := (Motion.track_alike p (!m.seeded) x y z c).kept
  obtain ⟨wstate, -, wquiet, -⟩ := t.windowed_kept
  have hend : t.window + 1 = 800 := by rw [twindow, cwindow]
  refine ⟨t.windowed, ?_, ?_, ?_, ?_⟩
  · exact (wstate.trans tstate).trans cstate
  · exact (wquiet.trans tquiet).trans cquiet
  · rw [Motion.windowed_ends hend]
    exact ttally.trans ctally
  · rw [Motion.sample_outside h hs, Motion.advance_ends hend, Motion.scored_eq]
    rfl

/-- Settles O39: the sample that ends a window makes the evaluation, and the evaluation goes by the present state. -/
theorem windowEndEvaluates : Obligations.WindowEndEvaluates := by
  unfold Obligations.WindowEndEvaluates
  refine ⟨fun p x y z m hw hs => ?_, fun p gz m => ⟨Motion.evaluate_settling, Motion.evaluate_still,
    fun h => ?_, Motion.evaluate_tilted⟩⟩
  · intro gz j tally m' h
    obtain ⟨hwindow, htally, hlast⟩ := (Motion.sample_window p x y z m).2 (by rw [hw])
    obtain ⟨u, ustate, uquiet, ulast, hu⟩ := Motion.sample_evaluates hw hs h
    have hm' : m' = Motion.evaluate p gz u := hu
    refine ⟨hlast, hwindow, htally, fun hst => ?_, fun hst => ?_, fun hst => ?_⟩
    · rw [hm']
      rcases hst with hst | hst
      · exact (Motion.evaluate_settling (ustate.trans hst)).trans (by rw [ulast]; rfl)
      · exact (Motion.evaluate_still (ustate.trans hst)).trans (by rw [ulast]; rfl)
    · have hroll := Motion.evaluate_rolling (p := p) (gz := gz) (ustate.trans hst)
      rw [ulast, uquiet, ← hm'] at hroll
      exact hroll
    · rw [hm', Motion.evaluate_tilted (ustate.trans hst), ulast]
      rfl
  · obtain ⟨htilt, hquiet, hroll⟩ := Motion.evaluate_rolling (p := p) (gz := gz) h
    exact ⟨htilt, fun h1 h2 => ⟨fun h3 => ((hquiet h1 h2).1 h3).1, (hquiet h1 h2).2⟩, hroll⟩

end Sys2Proof.Machine
end

section
/-! PROOFS. The ranges of the monitor: every sample keeps them (R55, R60, R63, R71, R165). -/

namespace Sys2Proof.Machine

section ranges

variable {p : MotionParams} {m m' : Motion} {x y z gz : Int} {j v k : Nat} {st : MotionSt}

/-- The monitor's fields lie in their ranges but for the settle count, the tally up to some samples ahead of the
window. -/
structure Motion.Bounded (k : Nat) (m : Motion) : Prop where
  gx : baselineOk m.gx
  gy : baselineOk m.gy
  gz : baselineOk m.gz
  acc : m.acc ≤ 262080
  window : m.window ≤ 799
  tally : m.tally ≤ m.window + k
  tLast : m.tLast ≤ 800
  quiet : m.quiet ≤ 15
  settles : m.state ≠ .jolt → m.settle = 0
  quiets : m.state ≠ .rolling → m.quiet = 0

theorem Motion.InRange.bounded (h : m.InRange) : m.Bounded 0 := by
  obtain ⟨gx, gy, gz, acc, window, tally, tLast, -, quiet, settles, quiets⟩ := h
  exact ⟨gx, gy, gz, acc, window, tally, tLast, quiet, settles, quiets⟩

theorem Motion.Bounded.inRange (h : m.Bounded 0) (hs : m.settle ≤ 4000) : m.InRange :=
  ⟨h.gx, h.gy, h.gz, h.acc, h.window, h.tally, h.tLast, hs, h.quiet, h.settles, h.quiets⟩

/-! ## The arithmetic -/

/-- A reading is a number of twelve bits with its sign (R53). -/
theorem reading_bounds (v : BitVec 16) : -2048 ≤ reading v ∧ reading v ≤ 2047 := by
  have hlo := BitVec.le_toInt (v.setWidth 12)
  have hhi := BitVec.toInt_lt (x := v.setWidth 12)
  unfold reading
  omega

/-- The accumulator cannot pass 4095 times 2^kv, nor what a smaller kv has left of it (R60). -/
theorem accumulate_le {acc : Nat} (hkv : 2 ≤ p.kv ∧ p.kv ≤ 6) (ha : acc ≤ 262080) (hj : j ≤ 4095) :
    accumulate p acc j ≤ 262080 := by
  unfold accumulate
  obtain ⟨hlo, hhi⟩ := hkv
  generalize p.kv = n at hlo hhi
  interval_cases n <;> omega

/-- A part of a gap, rounded toward minus infinity, lies between nothing and the whole gap (R63). -/
theorem ediv_pow_between (a : Int) (n : Nat) : min a 0 ≤ a / 2 ^ n ∧ a / 2 ^ n ≤ max a 0 := by
  have hpow : (0 : Int) < 2 ^ n := by positivity
  rcases le_or_gt 0 a with h | h
  · have hle : a / 2 ^ n ≤ a := Int.ediv_le_self _ h
    have hge : 0 ≤ a / 2 ^ n := Int.ediv_nonneg h hpow.le
    omega
  · have hle : a / 2 ^ n ≤ 0 := (Int.ediv_neg_of_neg_of_pos h hpow).le
    have hge : a ≤ a / 2 ^ n := by
      rw [Int.le_ediv_iff_mul_le hpow]
      nlinarith
    omega

/-- A baseline in its range stays there on its way to a reading (R63). -/
theorem follow_ok {g : Int} (hg : baselineOk g) (hx : -2048 ≤ x ∧ x ≤ 2047) : baselineOk (follow p g x) := by
  have h := ediv_pow_between (256 * x - g) p.kb
  unfold follow baselineOk at *
  omega

theorem seedBaseline_ok {g : Int} (b : Bool) (hg : baselineOk g) (hx : -2048 ≤ x ∧ x ≤ 2047) :
    baselineOk (if b then g else 256 * x) := by
  cases b
  · change -524288 ≤ 256 * x ∧ 256 * x ≤ 524032
    omega
  · exact hg

/-! ## The steps -/

theorem Motion.Bounded.become (h : m.Bounded k) (st : MotionSt) : (m.become st).Bounded k := by
  by_cases hst : m.state = st
  · rw [Motion.become, if_pos hst]
    exact h
  · rw [Motion.become_of_ne hst]
    exact { h with quiet := Nat.zero_le _, settles := fun _ => rfl, quiets := fun _ => rfl }

theorem Motion.Bounded.scored (h : m.Bounded 0) (hp : p.Clamped) (hx : -2048 ≤ x ∧ x ≤ 2047)
    (hy : -2048 ≤ y ∧ y ≤ 2047) (hz : -2048 ≤ z ∧ z ≤ 2047) : (m.scored p x y z).Bounded 0 := by
  obtain ⟨-, hkv, -⟩ := hp
  rw [Motion.scored_eq]
  exact { h with
    gx := seedBaseline_ok m.seeded h.gx hx
    gy := seedBaseline_ok m.seeded h.gy hy
    gz := seedBaseline_ok m.seeded h.gz hz
    acc := accumulate_le hkv h.acc (Motion.score_le _ _ _ _) }

theorem Motion.Bounded.tallied (h : m.Bounded 0) : (m.tallied p j).Bounded 1 := by
  refine { h with tally := ?_ }
  have ht := h.tally
  change (if p.troll ≤ j then m.tally + 1 else m.tally) ≤ m.window + 1
  split <;> omega

theorem Motion.Bounded.count (h : m.Bounded 0) : (Motion.count p j v m).Bounded 1 := by
  have ht : (m.tallied p j).Bounded 1 := h.tallied
  rcases Nat.lt_or_ge j p.tjolt with hj | hj
  · by_cases hs : m.state = .jolt
    · rw [Motion.count_settling hj hs]
      exact { ht with settles := fun hne => absurd hs hne }
    · rw [Motion.count_outside hj hs]
      exact ht
  · rw [Motion.count_jolt hj]
    exact { ht with quiet := Nat.zero_le _, settles := fun _ => rfl, quiets := fun _ => rfl }

theorem Motion.Bounded.track (h : m.Bounded k) (b : Bool) (hx : -2048 ≤ x ∧ x ≤ 2047)
    (hy : -2048 ≤ y ∧ y ≤ 2047) (hz : -2048 ≤ z ∧ z ≤ 2047) : (Motion.track p b x y z m).Bounded k := by
  unfold Motion.track
  split
  · exact h
  · exact { h with gx := follow_ok h.gx hx, gy := follow_ok h.gy hy, gz := follow_ok h.gz hz }

theorem Motion.Bounded.windowed (h : m.Bounded 1) : m.windowed.Bounded 0 := by
  have hw := h.window
  have ht := h.tally
  unfold Motion.windowed Config.windowSamples
  split
  · exact { h with window := Nat.zero_le _, tally := Nat.zero_le _, tLast := by change m.tally ≤ 800; omega }
  · exact { h with window := by change m.window + 1 ≤ 799; omega, tally := ht }

/-- The quiet-window count of ROLLING (R69). -/
theorem Motion.Bounded.setQuiet {n : Nat} (h : m.Bounded k) (hs : m.state = .rolling) (hn : n ≤ 15) :
    Motion.Bounded k { m with quiet := n } :=
  { h with quiet := hn, quiets := fun hne => absurd hs hne }

/-- The quiet-window count stays below Wquiet (R69). -/
theorem Motion.Bounded.evaluate (h : m.Bounded k) (hp : p.wquiet ≤ 15) : (Motion.evaluate p gz m).Bounded k := by
  unfold Motion.evaluate
  split
  · exact h.become _
  · exact h.become _
  · next hs =>
    split
    · exact h.become _
    split
    · split
      · exact h.become _
      · exact h.setQuiet hs (by omega)
    · exact h.setQuiet hs (Nat.zero_le _)
  · split
    · exact h.become _
    · exact h
  · exact h
  · exact h

theorem Motion.Bounded.advance (h : m.Bounded 1) (hp : p.wquiet ≤ 15) : (Motion.advance p gz m).Bounded 0 := by
  rw [Motion.advance_eq]
  split
  · exact h.windowed.evaluate hp
  · exact h.windowed

/-- Out of step 9 the settle count is 0, or below Dsettle (R65). -/
theorem Motion.Bounded.leaveJolt (h : m.Bounded 0) (hp : p.dsettle ≤ 4000) :
    (Motion.leaveJolt p gz m).InRange := by
  by_cases hs : m.state = .jolt
  · rcases Nat.lt_or_ge m.settle p.dsettle with hn | hn
    · rw [Motion.leaveJolt_stays hn]
      exact h.inRange (by omega)
    · rw [Motion.leaveJolt_leaves hs hn]
      exact Motion.Bounded.inRange
        { h with quiet := Nat.zero_le _, settles := fun _ => rfl, quiets := fun _ => rfl } (Nat.zero_le _)
  · rw [Motion.leaveJolt_outside hs]
    exact h.inRange (by rw [h.settles hs]; exact Nat.zero_le _)

/-- A sample of readings in their range keeps the monitor's fields in theirs. -/
theorem Motion.InRange.sample (h : m.InRange) (hp : p.Clamped) (hx : -2048 ≤ x ∧ x ≤ 2047)
    (hy : -2048 ≤ y ∧ y ≤ 2047) (hz : -2048 ≤ z ∧ z ≤ 2047) : (Motion.sample p x y z m).InRange := by
  have hscored := h.bounded.scored hp hx hy hz
  obtain ⟨-, -, -, -, -, ⟨-, hwquiet⟩, -, ⟨-, hdsettle⟩, -⟩ := hp
  rw [Motion.sample_eq]
  exact ((hscored.count.track _ hx hy hz).advance hwquiet).leaveJolt hdsettle

theorem Motion.InRange.setReading (h : m.InRange) (b : Bool) : Motion.InRange { m with reading := b } := h

/-- The loss of the sensor, and its return (R72, R73). -/
theorem Motion.InRange.lose (h : m.InRange) : m.lose.InRange :=
  Motion.Bounded.inRange { h.bounded with quiet := Nat.zero_le _, settles := fun _ => rfl, quiets := fun _ => rfl }
    (Nat.zero_le _)

theorem Motion.InRange.regain (h : m.InRange) : m.regain.InRange :=
  Motion.Bounded.inRange
    { h.bounded with
      window := Nat.zero_le _, tally := Nat.zero_le _, tLast := Nat.zero_le _, quiet := Nat.zero_le _
      settles := fun _ => rfl, quiets := fun _ => rfl }
    (Nat.zero_le _)

end ranges

end Sys2Proof.Machine
end

section
/-! PROOFS. The ranges of the profile, the monitor and park control over every command (R55, R77, R165, R166). -/

namespace Sys2Proof.Machine

/-! ## Profiles -/

theorem between_of_clamp {lo hi v a : Nat} (h : a = max lo (min hi v)) (hb : lo ≤ hi) : lo ≤ a ∧ a ≤ hi := by
  omega

theorem between_of_scaled {k lo hi v a : Nat} (h : a = k * max lo (min hi v)) (hb : lo ≤ hi) :
    k * lo ≤ a ∧ a ≤ k * hi := by
  obtain ⟨hlo, hhi⟩ := between_of_clamp (v := v) rfl hb
  rw [h]
  exact ⟨Nat.mul_le_mul_left k hlo, Nat.mul_le_mul_left k hhi⟩

/-- The entry of a class by its words is clamped, its currents in order (R166). -/
theorem ClassEntry.clamped_of_words {c : ClassEntry} {w : Nat → Nat} {n : Nat} (h : c.OfWords w n)
    (hw : ∀ k, w k < 65536) : c.Clamped := by
  obtain ⟨helec, hrun, hhead, hspin, hpower, hspinMs, hload, hunload, hstop, hui, hsi, hoi⟩ := h
  have hidle (k : Nat) : 1000 * w k ≤ 65535000 := by
    have := hw k
    omega
  have horder : c.iElec ≤ c.iRun ∧ c.iRun ≤ c.iHead ∧ c.iHead ≤ c.iSpin ∧ c.iSpin ≤ 4000 := by
    clear hpower hspinMs hload hunload hstop hui hsi hoi hidle
    omega
  obtain ⟨h1, h2, h3, h4⟩ := horder
  exact ⟨h1, h2, h3, h4, between_of_scaled hpower (by decide), between_of_scaled hspinMs (by decide),
    between_of_scaled hload (by decide), between_of_scaled hunload (by decide), between_of_scaled hstop (by decide),
    hui ▸ hidle _, hsi ▸ hidle _, hoi ▸ hidle _⟩

theorem MotionParams.clamped_of_words {m : MotionParams} {w : Nat → Nat} (h : m.OfWords w) : m.Clamped := by
  obtain ⟨hkb, hkv, htjolt, htroll, hnroll, hwquiet, htsettle, hdsettle, httilt, hhtilt⟩ := h
  refine ⟨between_of_clamp hkb (by decide), between_of_clamp hkv (by decide), between_of_clamp htjolt (by decide),
    between_of_clamp htroll (by decide), between_of_clamp hnroll (by decide), between_of_clamp hwquiet (by decide),
    between_of_clamp htsettle (by decide), between_of_clamp hdsettle (by decide), ?_, hhtilt ▸ Nat.min_le_left _ _⟩
  clear hkb hkv htjolt htroll hnroll hwquiet htsettle hdsettle hhtilt
  generalize (if w 30 < 32768 then (w 30 : Int) else w 30 - 65536) = v at httilt
  omega

theorem parkLevelOfWord_ne_loaded (w : Nat) : parkLevelOfWord w ≠ .loaded := by
  unfold parkLevelOfWord
  split <;> exact Level.noConfusion

/-- The profile of an image is clamped (R165, R166). -/
theorem profileOfImage_clamped (image : List Byte) : (profileOfImage image).Clamped := by
  obtain ⟨-, hbanks, hstagger, hprobe, hhold, hretry, htransit, -, -, -, hmotion, -, -, -, -, -, -, -, -, -, -, -,
    -, hclasses⟩ := profileOfImage_ofWords image
  refine ⟨fun b => ?_, ?_, between_of_clamp hprobe (by decide), between_of_scaled hhold (by decide),
    hretry ▸ Nat.min_le_left _ _, between_of_scaled htransit (by decide), parkLevelOfWord_ne_loaded _,
    MotionParams.clamped_of_words hmotion, fun k => ClassEntry.clamped_of_words (hclasses k) (imageWord_lt image)⟩
  · obtain ⟨hdock, hbattery, hconc⟩ := hbanks b
    exact ⟨hdock ▸ Nat.min_le_left _ _, hbattery ▸ Nat.min_le_left _ _, between_of_clamp hconc (by decide)⟩
  · rw [hstagger]
    exact Nat.mul_le_mul_left 10 (Nat.min_le_left 500 _)

theorem Config.defaults_clamped : Config.defaults.Clamped := by decide

theorem Motion.reset_inRange : Motion.reset.InRange := by decide

/-! ## The law and the operations that keep it -/

section ranged

variable {i : SlotId} {s t : State}

/-- The profile is clamped, the monitor in its ranges, and park control within the lock. -/
structure State.Ranged (s : State) : Prop where
  profile : s.profile.Clamped
  motion : s.motion.InRange
  park : s.park.Ok

/-- What touches none of the three blocks, the loader's other fields apart. -/
theorem State.Ranged.of_eq (h : s.Ranged) (hp : t.profile = s.profile) (hm : t.motion = s.motion)
    (hk : t.park = s.park) : t.Ranged :=
  ⟨by rw [hp]; exact h.profile, by rw [hm]; exact h.motion, by rw [hk]; exact h.park⟩

theorem State.Ranged.keeps (h : s.Ranged) (k : s.Keeps t) : t.Ranged := h.of_eq k.profile k.motion k.park

theorem State.Ranged.setMonitor {m : Motion} (h : s.Ranged) (hm : m.InRange) : State.Ranged { s with motion := m } :=
  ⟨h.profile, hm, h.park⟩

theorem State.Ranged.setPark {p : Park} (h : s.Ranged) (hp : p.Ok) : State.Ranged { s with park := p } :=
  ⟨h.profile, h.motion, hp⟩

theorem State.Ranged.reach (h : s.Ranged) (n : Nat) : (s.reach n).Ranged := h.of_eq rfl rfl rfl

/-! ## The monitor -/

theorem State.Ranged.setMotion {m : Motion} (h : s.Ranged) (hm : m.InRange) : (s.setMotion m).Ranged := by
  unfold State.setMotion
  split
  · exact h.setMonitor hm
  · exact (h.setMonitor hm).keeps ((State.Keeps.rfl _).motionChanged _)

theorem State.Ranged.takeSample (h : s.Ranged) (x y z : BitVec 16) : (s.takeSample x y z).Ranged := by
  obtain ⟨-, -, -, -, -, -, -, hmotion, -⟩ := h.profile
  unfold State.takeSample
  split
  · exact h
  · have hsample := h.motion.sample hmotion (reading_bounds x) (reading_bounds y) (reading_bounds z)
    exact h.setMotion (hsample.setReading false)

theorem State.Ranged.takeDataReady (h : s.Ranged) : s.takeDataReady.Ranged := by
  unfold State.takeDataReady
  split
  · exact h.setMotion (m := s.motion.regain.dataReady s.now) h.motion.regain
  · exact h.setMonitor (m := s.motion.dataReady s.now) h.motion

theorem State.Ranged.takeShock (h : s.Ranged) : s.takeShock.Ranged :=
  h.setMonitor (m := { s.motion with shockPending := true }) h.motion

theorem State.Ranged.loseSensor (h : s.Ranged) : s.loseSensor.Ranged := by
  unfold State.loseSensor
  split
  · exact h
  · exact (h.reach _).setMotion h.motion.lose

/-! ## Park control -/

theorem State.Ranged.handleAsserted (h : s.Ranged) : s.handleAsserted.Ranged := by
  let s1 : State := { s with park := { s.park with handle := true, lowering := false } }
  have h1 : s1.Ranged := h.setPark ⟨Bool.noConfusion, Bool.noConfusion⟩
  have hk : s1.Keeps (s1.unloadAll false).sweep := ((State.Keeps.rfl s1).unloadAll false).sweep
  have h2 := h1.keeps hk
  unfold State.handleAsserted
  refine (h2.setPark ?_).keeps (State.Keeps.rfl _).scan
  rw [hk.park]
  exact ⟨Bool.noConfusion, Bool.noConfusion⟩

theorem State.Ranged.handleDeasserted (h : s.Ranged) : s.handleDeasserted.Ranged :=
  (h.setPark (p := { s.park with handle := false, transitTimer := none, lowering := false })
    ⟨fun _ => ⟨rfl, rfl⟩, Bool.noConfusion⟩).keeps (State.Keeps.rfl _).scan

theorem State.Ranged.handleSettles (h : s.Ranged) : s.handleSettles.Ranged := by
  unfold State.handleSettles State.recognizeHandle
  split
  · exact h
  · next t _ =>
    have h1 := (h.reach (t + Config.lineDebounceMs)).setPark (p := { s.park with handleDebounce := none }) h.park
    simp only
    split
    · exact h1.handleAsserted
    · exact h1.handleDeasserted

/-- The transit timer runs under the lock alone, so the lowering phase begins under it (R90). -/
theorem State.Ranged.transitExpires (h : s.Ranged) : s.transitExpires.Ranged := by
  unfold State.transitExpires
  split
  · exact h
  · next t ht =>
    refine ((h.reach t).setPark (p := { s.park with transitTimer := none, lowering := true })
      ⟨fun hhandle => ?_, fun _ => rfl⟩).keeps (State.Keeps.rfl _).testAll
    rw [(h.park.1 hhandle).1] at ht
    cases ht

/-! ## The loader -/

theorem State.Ranged.modLoader (h : s.Ranged) {f : Loader → Loader} (hf : (f s.loader).profile.Clamped) :
    (s.modLoader f).Ranged := ⟨hf, h.motion, h.park⟩

theorem State.Ranged.takeEffect (h : s.Ranged) : s.takeEffect.Ranged :=
  State.Ranged.keeps (h.modLoader (f := Loader.ended) h.profile) (State.Keeps.rfl s).takeEffect

theorem State.Ranged.raiseProfile (h : s.Ranged) : s.raiseProfile.Ranged := h.of_eq rfl rfl rfl

theorem State.Ranged.startAgain (h : s.Ranged) : s.startAgain.Ranged := by
  unfold State.startAgain
  split
  · exact h.modLoader h.profile
  · exact h

theorem State.Ranged.readPassed {p : Profile} (h : s.Ranged) (hp : p.Clamped) : (s.readPassed p).Ranged := by
  have h1 : (s.installProfile p).Ranged := h.modLoader hp
  unfold State.readPassed
  split
  · exact h
  · exact h1.takeEffect.startAgain
  · exact h1.takeEffect.raiseProfile.startAgain

theorem State.Ranged.readFailed (h : s.Ranged) : s.readFailed.Ranged := by
  unfold State.readFailed
  split
  · exact h
  · exact (h.modLoader (f := fun l => { l with defaulted := true }) h.profile).takeEffect.raiseProfile.startAgain
  · exact (h.modLoader (f := fun l => { l.ended with rejected := true }) h.profile).raiseProfile.startAgain

theorem State.Ranged.takeImage (h : s.Ranged) (image : List Byte) : (s.takeImage image).Ranged := by
  unfold State.takeImage
  split
  · exact h
  · split
    · exact h.readPassed (profileOfImage_clamped _)
    · exact h.readFailed

theorem State.Ranged.readTimesOut (h : s.Ranged) : s.readTimesOut.Ranged := by
  unfold State.readTimesOut
  split
  · exact h
  · exact (h.reach _).readFailed

theorem State.Ranged.takeReload (h : s.Ranged) : s.takeReload.Ranged := by
  unfold State.takeReload
  split <;> exact h.modLoader h.profile

/-! ## The lines and the timers of the slots and the banks -/

theorem State.Ranged.modCtx (h : s.Ranged) (i : SlotId) (f : SlotContext → SlotContext) : (s.modCtx i f).Ranged :=
  h.of_eq rfl rfl rfl

theorem State.Ranged.seated (h : s.Ranged) (i : SlotId) : (s.seated i).Ranged := by
  unfold State.seated
  split
  · exact h.modCtx i _
  · exact h

theorem State.Ranged.unseated (h : s.Ranged) (i : SlotId) : (s.unseated i).Ranged := by
  unfold State.unseated
  split
  · exact h.modCtx i _
  · exact h.keeps ((State.Keeps.rfl s).enterRemoved i)

theorem State.Ranged.seatingDone (h : s.Ranged) (i : SlotId) : (s.seatingDone i).Ranged := by
  unfold State.seatingDone
  split
  · next t _ _ =>
    have h1 := ((h.reach (t + Config.presentDebounceMs)).modCtx i
      (fun c => { c with presentDebounce := none })).keeps ((State.Keeps.rfl _).takeMap i)
    simp only
    split
    · exact h1
    · split
      · exact h1.keeps ((State.Keeps.rfl _).enterFault i _)
      · exact h1.keeps ((State.Keeps.rfl _).enterOff i)
  · exact h

theorem State.Ranged.tripped (h : s.Ranged) (i : SlotId) : (s.tripped i).Ranged := by
  have h1 := h.modCtx i (fun c => { c with latch := true })
  unfold State.tripped
  simp only
  split
  · exact h1
  · exact h1.keeps ((State.Keeps.rfl _).submit i _ _ _ _ _)
  · exact h1.keeps ((State.Keeps.rfl _).enterFault i _)

theorem State.Ranged.untripped (h : s.Ranged) (i : SlotId) : (s.untripped i).Ranged := by
  unfold State.untripped
  split
  · exact h.modCtx i _
  · exact h

theorem State.Ranged.dockSettles (h : s.Ranged) : s.dockSettles.Ranged := by
  unfold State.dockSettles
  split
  · exact h
  · next t _ =>
    have h1 : State.Ranged { s.reach (t + Config.lineDebounceMs) with
        admission := { s.admission with dockDebounce := none, dock := s.dockLine } } := h.of_eq rfl rfl rfl
    exact h1.keeps (State.Keeps.rfl _).selectBudgets

theorem State.Ranged.atDeadline (h : s.Ranged) (st : SlotSt) {act : State → State} (hact : ∀ u : State, u.Keeps (act u)) :
    (State.atDeadline i st act s).Ranged := by
  unfold State.atDeadline
  split
  · split
    · exact h
    · exact (h.reach _).keeps (hact _)
  · exact h

theorem State.Ranged.queryExpires (h : s.Ranged) (i : SlotId) : (s.queryExpires i).Ranged := by
  unfold State.queryExpires
  split
  · exact h
  · next q _ =>
    have h1 : ((s.reach q.expiry).modSlot i Slot.countMisses).Ranged := h.of_eq rfl rfl rfl
    simp only
    split
    · exact h1.keeps ((State.Keeps.rfl _).enterFault i _)
    · exact h1.of_eq rfl rfl rfl

theorem State.Ranged.idleExpires (h : s.Ranged) (i : SlotId) : (s.idleExpires i).Ranged := by
  unfold State.idleExpires
  split
  · exact h
  · exact ((h.reach _).modCtx i _).keeps (((State.Keeps.rfl _).lower i).settle i)

theorem State.Ranged.staggerExpires (h : s.Ranged) (b : BankId) : (s.staggerExpires b).Ranged := by
  unfold State.staggerExpires
  split
  · exact h
  · exact (h.reach _).keeps ((State.Keeps.rfl _).modBank b _).scan

theorem State.Ranged.holdExpires (h : s.Ranged) (i : SlotId) (tag : Tag) : (s.holdExpires i tag).Ranged := by
  unfold State.holdExpires
  split
  · exact h
  · split
    · exact h
    · exact (h.reach _).keeps ((((State.Keeps.rfl _).modPass i _).completeSensed i _ _ _).settle i)

/-! ## The links -/

theorem State.Ranged.drainDrives (h : s.Ranged) (l : List SlotId) (ht : s.drainDrives l = some t) : t.Ranged := by
  induction l with
  | nil => cases ht
  | cons j rest ih =>
    unfold State.drainDrives at ht
    split at ht
    · exact ih ht
    split at ht
    · next q _ _ =>
      cases ht
      have h1 : (s.setWaiting j q).Ranged := h.of_eq rfl rfl rfl
      exact h1.keeps ((State.Keeps.rfl _).takeDrive j _)
    · exact ih ht

theorem State.Ranged.setCtrlWaiting (h : s.Ranged) (q : List CtrlFrame) : (s.setCtrlWaiting q).Ranged :=
  h.of_eq rfl rfl rfl

theorem State.Ranged.drainOnce (h : s.Ranged) (ht : s.drainOnce = some t) : t.Ranged := by
  unfold State.drainOnce at ht
  split at ht
  · exact h.drainDrives _ ht
  split at ht
  · cases ht
    exact (h.setCtrlWaiting _).keeps ((State.Keeps.rfl _).takeCtrl _)
  · exact h.drainDrives _ ht

theorem State.Ranged.drain (h : s.Ranged) (n : Nat) : (State.drain n s).Ranged := by
  induction n generalizing s with
  | zero => exact h
  | succ n ih =>
    unfold State.drain
    split
    · exact h
    · next t ht => exact ih (h.drainOnce ht)

theorem State.Ranged.live {ev : State → State} (h : s.Ranged) (hev : (ev s).Ranged) : (State.live ev s).Ranged := by
  unfold State.live
  split
  · exact h
  · exact hev.drain _

theorem State.Ranged.arriveCtrl (h : s.Ranged) (f : CtrlFrame) : (s.arriveCtrl f).Ranged :=
  (h.setCtrlWaiting _).drain _

theorem State.Ranged.arriveDrive (h : s.Ranged) (i : SlotId) (f : DriveFrame) : (s.arriveDrive i f).Ranged := by
  have hw : ∀ q, (s.setWaiting i q).Ranged := fun _ => h.of_eq rfl rfl rfl
  unfold State.arriveDrive
  split
  · exact h
  · exact (hw _).drain _

theorem State.Ranged.downSent (h : s.Ranged) (i : SlotId) : (s.downSent i).Ranged := by
  unfold State.downSent
  split
  · exact h
  · exact h.of_eq rfl rfl rfl

theorem State.Ranged.upSent (h : s.Ranged) : s.upSent.Ranged := by
  have hfree : State.Ranged { s with ctrl := { s.ctrl with sending := none } } := h.of_eq rfl rfl rfl
  unfold State.upSent
  split
  · exact h
  · exact hfree.keeps (State.Keeps.rfl _).pickUpstream

/-! ## RESET -/

theorem Park.reset_ok (handle : Bool) : (Park.reset handle).Ok := by
  cases handle <;> decide

theorem State.holdReset_ranged (s : State) : s.holdReset.Ranged :=
  ⟨Config.defaults_clamped, Motion.reset_inRange, Park.reset_ok false⟩

theorem State.startUp_ranged (s : State) : s.startUp.Ranged := by
  have h : State.Ranged (State.keepOutside s
      (State.afterReset s.presentLines s.powerFaultLines s.dockLine s.handleLine)) :=
    ⟨Config.defaults_clamped, Motion.reset_inRange, Park.reset_ok s.handleLine⟩
  refine State.Closed.foldl (P := State.Ranged) (fun {u} i hu => ?_) allSlots h
  unfold State.tripAtStart
  split
  · exact hu.keeps ((State.Keeps.rfl u).enterFault i _)
  · exact hu

/-! ## The commands -/

theorem exec_ranged {c : Instr} (ht : exec c s = .next t) (h : s.Ranged) : t.Ranged := by
  cases c with
  | resetAssert => cases ht; exact s.holdReset_ranged
  | resetDeassert => cases ht; exact s.startUp_ranged.drain _
  | linkReset => cases ht; exact h.arriveCtrl _
  | read c | write c | verify c | flush c | identify c | otherAttached op c | sense c | probe c | spinUp c
  | loadHeads c | unloadHeads c | spinDown c | powerOff c | abort c | data slot d =>
    cases ht; exact h.arriveCtrl _
  | frameDiscarded link bytes =>
    cases ht
    cases link with
    | controller => exact h.arriveCtrl _
    | drive i => exact h.arriveDrive i _
  | driveCompletion i r | driveData i d | dataRequest i r | controlReply i op answer | stateReply i report
  | driveAlertSelfUnload i | driveAlertFault i => cases ht; exact h.arriveDrive i _
  | presentAsserted i =>
    have hline : (s.setPresent i true).Ranged := h.of_eq rfl rfl rfl
    cases ht; exact hline.live (hline.seated i)
  | presentDeasserted i =>
    have hline : (s.setPresent i false).Ranged := h.of_eq rfl rfl rfl
    cases ht; exact hline.live (hline.unseated i)
  | presentDebounceComplete i => cases ht; exact h.live (h.seatingDone i)
  | powerFaultAsserted i =>
    have hline : (s.setPowerFault i true).Ranged := h.of_eq rfl rfl rfl
    cases ht; exact hline.live (hline.tripped i)
  | powerFaultDeasserted i =>
    have hline : (s.setPowerFault i false).Ranged := h.of_eq rfl rfl rfl
    cases ht; exact hline.live (hline.untripped i)
  | dockChange level =>
    have hline : State.Ranged { s with dockLine := level } := h.of_eq rfl rfl rfl
    cases ht; exact hline.live (hline.of_eq rfl rfl rfl)
  | dockDebounceComplete => cases ht; exact h.live h.dockSettles
  | handleChange level =>
    have hline : State.Ranged { s with handleLine := level } := h.of_eq rfl rfl rfl
    cases ht; exact hline.live (hline.setPark h.park)
  | handleDebounceComplete => cases ht; exact h.live h.handleSettles
  | reloadEdge => cases ht; exact h.live h.takeReload
  | shockTestEdge => cases ht; exact h.live h.takeShock
  | dataReadyEdge => cases ht; exact h.live h.takeDataReady
  | sample x y z => cases ht; exact h.live (h.takeSample x y z)
  | lossTimerExpiry => cases ht; exact h.live h.loseSensor
  | powerDeadlineExpiry i | unloadDeadlineExpiry i | stopDeadlineExpiry i =>
    cases ht; exact h.live (h.atDeadline _ fun u => (State.Keeps.rfl u).enterFault i _)
  | spinDeadlineExpiry i => cases ht; exact h.live (h.atDeadline _ fun u => (State.Keeps.rfl u).spinFails i _)
  | loadDeadlineExpiry i => cases ht; exact h.live (h.atDeadline _ fun u => (State.Keeps.rfl u).loadFails i)
  | queryScheduleExpiry i => cases ht; exact h.live (h.queryExpires i)
  | idleTimerExpiry i => cases ht; exact h.live (h.idleExpires i)
  | staggerTimerExpiry b => cases ht; exact h.live (h.staggerExpires b)
  | transitTimerExpiry => cases ht; exact h.live h.transitExpires
  | holdDeadlineExpiry i tag => cases ht; exact h.live (h.holdExpires i tag)
  | profileReadComplete image => cases ht; exact h.live (h.takeImage image)
  | readLimitExpiry => cases ht; exact h.live h.readTimesOut
  | driveFrameSent i => cases ht; exact h.live (h.downSent i)
  | upstreamFrameSent => cases ht; exact h.live h.upSent

theorem step_ranged (ht : step s = .next t) (h : s.Ranged) : t.Ranged := by
  unfold step at ht
  split at ht
  · cases ht
    exact h.of_eq rfl rfl rfl
  · exact exec_ranged ht (h.of_eq rfl rfl rfl)

end ranged

/-- Settles O54: samples keep the monitor in its ranges, images are clamped, and the lowering phase begins under the
lock. -/
theorem rangesAreKept : Obligations.RangesAreKept := by
  unfold Obligations.RangesAreKept
  intro s t ht hprofile hmotion hpark
  obtain ⟨hp, hm, hk⟩ := step_ranged ht ⟨hprofile, hmotion, hpark⟩
  exact ⟨hp, hm, hk⟩

end Sys2Proof.Machine
end

section
/-! PROOFS. What an operation on one slot leaves to another slot that has no step to ask for. -/

namespace Sys2Proof.Machine

section aside

variable {i j : SlotId} {k : Option Kind} {x : Slot} {s t : State}

theorem State.Stands.bears_of_onlyAt (h : s.Stands i k x) (o : s.OnlyAt j t) (hk : s.Keeps t) (hj : i ≠ j) :
    State.Bears i k x s t := ⟨o.leaves hk hj, h.of_onlyAt o hk hj⟩

theorem State.Bears.onlyAt {u : State} (h : State.Bears i k x s t) (o : t.OnlyAt j u) (hk : t.Keeps u) (hj : i ≠ j) :
    State.Bears i k x s u := h.andThen fun ht => ht.bears_of_onlyAt o hk hj

/-- Another slot's entry is withdrawn, or placed with a scan (R29, R36). -/
theorem State.Bears.compare_ne (h : State.Bears i k x s t) (hj : i ≠ j) : State.Bears i k x s (t.compare j) := by
  rcases t.compare_cases j with e | e | ⟨kind, -, e⟩ <;> rw [e]
  · exact h.onlyAt State.OnlyAt.rfl.withdraw ((State.Keeps.rfl t).withdraw j) hj
  · exact h
  · exact (h.onlyAt (State.OnlyAt.rfl.setQueue _ (by simp)) ((State.Keeps.rfl t).setQueue _) hj).scan

theorem State.Bears.report_ne (h : State.Bears i k x s t) (hj : i ≠ j) : State.Bears i k x s (t.report j) :=
  (h.onlyAt State.OnlyAt.rfl.reportDemand ((State.Keeps.rfl t).reportDemand j) hj).compare_ne hj

theorem State.Bears.lower_ne (h : State.Bears i k x s t) (hj : i ≠ j) : State.Bears i k x s (t.lower j) :=
  (h.onlyAt State.OnlyAt.rfl.orderDown ((State.Keeps.rfl t).orderDown j) hj).react _ j

/-- The serving of another slot's hold queue (R109, R110). -/
theorem State.Bears.serveRounds_ne (h : State.Bears i k x s t) (hj : i ≠ j) (n : Nat) :
    State.Bears i k x s (State.serveRounds n j t) := by
  induction n generalizing t with
  | zero => exact h
  | succ n ih =>
    have hpass (e : HoldEntry) : State.Bears i k x s (State.serveRounds n j ((t.forwardHeld j e).report j)) :=
      ih ((h.onlyAt (State.OnlyAt.rfl.forwardHeld e) ((State.Keeps.rfl t).forwardHeld j e) hj).report_ne hj)
    have hend {u : State} (hu : State.Bears i k x s u) (e : HoldEntry) :
        State.Bears i k x s (State.serveRounds n j ((u.finishHeld j e).report j)) :=
      ih ((hu.onlyAt (State.OnlyAt.rfl.finishHeld e) ((State.Keeps.rfl u).finishHeld j e) hj).report_ne hj)
    have hbegin : State.Bears i k x s (t.beginHead j) :=
      h.onlyAt State.OnlyAt.rfl.beginHead ((State.Keeps.rfl t).beginHead j) hj
    unfold State.serveRounds
    split
    · exact h
    split
    · exact h
    next e _ _ =>
      split
      · split
        · exact hpass e
        · exact h
      · split
        · exact hpass e
        · exact h
      · split
        · exact hend h e
        · exact h
      · split
        · exact h
        split
        · exact hbegin
        split
        · exact hend hbegin e
        · exact hbegin.lower_ne hj
      · exact h
      · exact h

theorem State.Bears.reportAndServe_ne (h : State.Bears i k x s t) (hj : i ≠ j) :
    State.Bears i k x s (t.reportAndServe j) := (h.report_ne hj).serveRounds_ne hj _

theorem State.Bears.parkTest_ne (h : State.Bears i k x s t) (hj : i ≠ j) : State.Bears i k x s (t.parkTest j) := by
  unfold State.parkTest
  split
  · exact h.lower_ne hj
  · exact h

/-- All that follows a change of another slot. -/
theorem State.Bears.settle_ne (h : State.Bears i k x s t) (hj : i ≠ j) : State.Bears i k x s (State.settle j t) := by
  unfold State.settle State.settleEnd
  exact (((h.reportAndServe_ne hj).parkTest_ne hj).reportAndServe_ne hj).shed _

end aside

end Sys2Proof.Machine
end

section
/-! PROOFS. The unload orders of park control: every slot with its heads down is ordered to UNLOADING, and its step is under
way when all orders are given (R81, R82, R87). -/

namespace Sys2Proof.Machine

section orders

variable {i j : SlotId} {s t : State} {x : Slot} {emergency : Bool}

/-! ## Heads down -/

/-- Slot i has its heads on the media, or is on the way there (R81). -/
def Slot.HeadsDown (x : Slot) : Prop := x.ctx.state = .loaded ∨ x.ctx.state = .loading

theorem State.headsDown_iff : s.headsDown i = true ↔ (s.slot i).HeadsDown := by
  simp [State.headsDown, Slot.HeadsDown]

theorem Slot.HeadsDown.busy (h : x.HeadsDown) : x.Busy := by
  refine .inr (.inr ?_)
  rcases h with h | h <;> rw [h] <;> exact ⟨SlotSt.noConfusion, SlotSt.noConfusion⟩

/-- No raising step starts from a slot with its heads down (R35). -/
theorem State.QueueOk.noEntry_headsDown (h : s.QueueOk) (hx : (s.slot i).HeadsDown) : s.NoEntry i := by
  rintro e he rfl
  obtain ⟨hst, -⟩ := h.1 e he
  rcases hx with hx | hx <;> rw [hx] at hst <;> cases hk : e.kind <;> rw [hk] at hst <;> cases hst

/-! ## One order -/

/-- A slot ordered to unload, marked where the order is an emergency (R7, R82). -/
def Slot.unloadedBy (emergency : Bool) (p : Profile) (now : Nat) (x : Slot) : Slot :=
  let y := x.enter p now .unloading false false
  if emergency then y.markEmergency else y

theorem State.orderDown_headsDown (h : (s.slot i).HeadsDown) : s.orderDown i = s.enter i .unloading false false := by
  unfold State.orderDown
  rcases h with h | h <;> rw [h]

/-- A slot with its heads down, lowered as the admission unit reacts. -/
theorem State.lower_headsDown (h : (s.slot i).HeadsDown) :
    (s.lower i).work i = (s.work i).enter s.profile s.now .unloading false false ∧ (s.lower i).NoEntry i := by
  have hst : (s.orderDown i).Stands i none ((s.orderDown i).work i) := by
    rw [State.orderDown_headsDown h]
    refine .of_work rfl (s.enter_noEntry i .unloading false false) (.inl (.inr (.inr ?_)))
    rw [State.work_enter]
    exact ⟨SlotSt.noConfusion, SlotSt.noConfusion⟩
  obtain ⟨-, hb⟩ := hst.react (s.slot i) i
  refine ⟨hb.work_eq.trans ?_, hb.noEntry⟩
  rw [State.orderDown_headsDown h, State.work_enter]

/-- The state of an order just given, before what follows for the slot. -/
def State.ordered (s : State) (emergency : Bool) (i : SlotId) : State :=
  if emergency then (s.lower i).modSlot i Slot.markEmergency else s.lower i

theorem State.ordered_at (h : (s.slot i).HeadsDown) (emergency : Bool) :
    (s.ordered emergency i).work i = (s.work i).unloadedBy emergency s.profile s.now
      ∧ (s.ordered emergency i).NoEntry i := by
  obtain ⟨hw, hn⟩ := State.lower_headsDown h
  cases emergency
  · exact ⟨hw, hn⟩
  · refine ⟨?_, hn⟩
    have hmark : ((s.lower i).modSlot i Slot.markEmergency).work i = ((s.lower i).work i).markEmergency := by
      rw [State.work, State.slot_modSlot_self]
      rfl
    rw [State.ordered, if_pos rfl, hmark, hw]
    rfl

/-- A slot ordered to unload has its step under way, and reports what the order gave it to report. -/
structure State.Unloading (i : SlotId) (x : Slot) (s : State) : Prop where
  onWay : s.OnWay i x.ctx x.charge x.port.query
  emergency : (s.work i).ctx.emergency = x.ctx.emergency
  requeues : (s.work i).requeues = x.requeues

theorem Slot.unloadedBy_onWay (emergency : Bool) (p : Profile) (n : Nat) (x : Slot) :
    (x.unloadedBy emergency p n).OnWay (x.unloadedBy emergency p n).ctx (x.unloadedBy emergency p n).charge
      (x.unloadedBy emergency p n).port.query := by
  have hidle : (x.enter p n .unloading false false).ctx.idleTimer = none :=
    (Slot.enter_idleTimer p n .unloading false false x).trans (Slot.idleFrom_of_state p n (by decide))
  cases emergency <;> exact ⟨rfl, rfl, hidle, rfl, rfl, rfl⟩

/-- The order for slot i leaves its step under way (R7, R81, R82). -/
theorem State.unloadOrder_unloading (h : (s.slot i).HeadsDown) (emergency : Bool) :
    (State.unloadOrder emergency s i).Unloading i ((s.work i).unloadedBy emergency s.profile s.now) := by
  obtain ⟨hw, hn⟩ := State.ordered_at h emergency
  have heq : State.unloadOrder emergency s i = State.settle i (s.ordered emergency i) :=
    if_pos (State.headsDown_iff.mpr h)
  have hway : (State.settle i (s.ordered emergency i)).OnWay i _ _ _ := State.OnWay.settle
    ⟨by rw [hw]; exact Slot.unloadedBy_onWay emergency s.profile s.now (s.work i), hn⟩
  have hsilent := (State.silent_settle i (s.ordered emergency i)).slots i
  rw [heq]
  refine ⟨hway, ?_, ?_⟩
  · rw [hway.1.ctx]
  · rw [hsilent.requeues, hw]

/-- Orders for other slots leave a slot that has no step to ask for. -/
theorem State.Bears.unloadOrder_ne {k : Option Kind} {u : State} (h : State.Bears i k x s u) (hj : i ≠ j) :
    State.Bears i k x s (State.unloadOrder emergency u j) := by
  have hmark : State.Bears i k x s ((u.lower j).modSlot j Slot.markEmergency) :=
    (h.lower_ne hj).onlyAt (State.OnlyAt.rfl.modSlot _ fun _ => rfl)
      ((State.Keeps.rfl _).modSlot j _ Slot.markEmergency_keeps) hj
  unfold State.unloadOrder
  split
  · refine State.Bears.settle_ne ?_ hj
    split
    · exact hmark
    · exact h.lower_ne hj
  · exact h

/-! ## All orders -/

/-- What leaves a slot with no step to ask for leaves one on its way to unload. -/
theorem State.Unloading.of_bears (h : s.Unloading i x)
    (hb : s.Stands i none (s.work i) → State.Bears i none (s.work i) s t) : t.Unloading i x := by
  obtain ⟨⟨hway, hn⟩, hemergency, hrequeues⟩ := h
  obtain ⟨⟨hidle, hspun, -⟩, -⟩ := hway.between
  obtain ⟨-, ht⟩ := hb (.of_work rfl hn (.inl (.inr (.inr ⟨hidle, hspun⟩))))
  refine ⟨⟨?_, ht.noEntry⟩, ?_, ?_⟩
  all_goals rw [ht.work_eq]
  · exact hway
  · exact hemergency
  · exact hrequeues

theorem State.Unloading.unloadOrder_ne (h : s.Unloading i x) (hj : i ≠ j) :
    (State.unloadOrder emergency s j).Unloading i x :=
  h.of_bears fun hst => (State.Bears.of_stands hst).unloadOrder_ne hj

/-- The orders of a list that does not name slot i leave it as it is, with its heads down. -/
theorem State.unloadOrders_ne (l : List SlotId) (hi : i ∉ l) (h : State.Bears i none x s t) :
    State.Bears i none x s (l.foldl (State.unloadOrder emergency) t) := by
  induction l generalizing t with
  | nil => exact h
  | cons j l ih =>
    rw [List.mem_cons, not_or] at hi
    exact ih hi.2 (h.unloadOrder_ne hi.1)

theorem State.Unloading.unloadOrders (l : List SlotId) (hi : i ∉ l) (h : s.Unloading i x) :
    (l.foldl (State.unloadOrder emergency) s).Unloading i x := by
  induction l generalizing s with
  | nil => exact h
  | cons j l ih =>
    rw [List.mem_cons, not_or] at hi
    exact ih hi.2 (h.unloadOrder_ne hi.1)

/-- Every slot with its heads down when park control takes the change is on its way to unload when all orders are
given (R81, R82). -/
theorem State.unloadAll_unloading (h : (s.slot i).HeadsDown) (hn : s.NoEntry i) (emergency : Bool) :
    (s.unloadAll emergency).Unloading i ((s.work i).unloadedBy emergency s.profile s.now) := by
  have hmem : i ∈ allSlots.filter s.headsDown := List.mem_filter.mpr ⟨mem_allSlots i, State.headsDown_iff.mpr h⟩
  have hnodup : (allSlots.filter s.headsDown).Nodup := (by decide : allSlots.Nodup).filter _
  obtain ⟨l, r, hl⟩ := List.append_of_mem hmem
  rw [hl, List.nodup_middle, List.nodup_cons, List.mem_append, not_or] at hnodup
  obtain ⟨⟨hleft, hright⟩, -⟩ := hnodup
  let u := l.foldl (State.unloadOrder emergency) s
  have hu : State.Bears i none (s.work i) s u :=
    State.unloadOrders_ne l hleft (.of_stands (.of_work rfl hn (.inl h.busy)))
  have hwork : u.work i = s.work i := hu.2.work_eq
  have hdown : (u.slot i).HeadsDown := by
    change (u.work i).HeadsDown
    rw [hwork]
    exact h
  have hown := State.unloadOrder_unloading hdown emergency
  rw [hwork, hu.1.keeps.profile, hu.1.keeps.now] at hown
  unfold State.unloadAll
  rw [hl, List.foldl_append, List.foldl_cons]
  exact hown.unloadOrders r hright

theorem State.Unloading.scan (h : s.Unloading i x) : s.scan.Unloading i x := h.of_bears fun hst => hst.scan

/-! ## What no order marks -/

/-- A slot that no emergency order names has no mark but the one it had (R82). -/
theorem State.unloadOrder_silent (emergency : Bool) (s : State) (hj : i ≠ j) :
    (s.work i).Silent s.now ((State.unloadOrder emergency s j).work i) := by
  unfold State.unloadOrder
  split
  · have hlower := s.silent_lower j
    refine (hlower.slots i).trans ?_
    rw [← hlower.now]
    split
    · have hmark := (State.silent_settle j ((s.lower j).modSlot j Slot.markEmergency)).slots i
      rw [State.work_modSlot_ne _ _ hj] at hmark
      exact hmark
    · exact (State.silent_settle j _).slots i
  · exact Slot.Silent.rfl

theorem State.unloadOrders_silent (l : List SlotId) (hi : i ∉ l) (s : State) :
    (s.work i).Silent s.now ((l.foldl (State.unloadOrder emergency) s).work i) := by
  induction l generalizing s with
  | nil => exact Slot.Silent.rfl
  | cons j l ih =>
    rw [List.mem_cons, not_or] at hi
    have hnow : (State.unloadOrder emergency s j).now = s.now := ((State.Keeps.rfl s).unloadOrder emergency j).now
    have hrest := ih hi.2 (State.unloadOrder emergency s j)
    rw [hnow] at hrest
    exact (State.unloadOrder_silent emergency s hi.1).trans hrest

/-- A slot whose heads were not down gets no emergency mark (R82). -/
theorem State.unloadAll_silent (h : ¬ (s.slot i).HeadsDown) (emergency : Bool) :
    (s.work i).Silent s.now ((s.unloadAll emergency).work i) :=
  State.unloadOrders_silent _ (fun hi => h (State.headsDown_iff.mp (List.mem_filter.mp hi).2)) s

end orders

end Sys2Proof.Machine
end

section
/-! PROOFS. What the controller link port keeps while frames are handed up, and the unload orders raise no notice (R146,
R148). -/

namespace Sys2Proof.Machine

/-- A property of the controller link port that frames handed up keep: the arbiter's turn, and the transmissions that
begin, of which a COMPLETION takes the device notice with it (R145, R146, R149). -/
structure CtrlPort.Steady (R : CtrlPort → Prop) : Prop where
  badSlot : ∀ {c} q, R c → R { c with badSlot := q }
  lastServed : ∀ {c} p, R c → R { c with lastServed := p }
  sending : ∀ {c} u, R c → R { c with sending := u }
  noticeSent : ∀ {c}, R c → R
    { c with
      deviceNotice := false
      causeMotion := c.causeMotion && !c.deviceNotice
      causeProfile := c.causeProfile && !c.deviceNotice }

section steady

variable {R : CtrlPort → Prop} {s t : State}

theorem CtrlPort.Steady.beginUpstream (r : CtrlPort.Steady R) (f : UpFrame) (h : R s.ctrl) :
    R (s.beginUpstream f).ctrl := by
  cases f with
  | completion c => exact r.sending (some { frame := .completion c, word := some s.transitWord }) (r.noticeSent h)
  | data slot d => exact r.sending _ h
  | dataRequest slot q => exact r.sending _ h

theorem CtrlPort.Steady.setUpstreamAt (r : CtrlPort.Steady R) (p : Fin 11) (q : List UpFrame) (h : R s.ctrl) :
    R (s.setUpstreamAt p q).ctrl := by
  unfold State.setUpstreamAt
  split
  · exact h
  · exact r.badSlot _ h

theorem CtrlPort.Steady.pickUpstream (r : CtrlPort.Steady R) (h : R s.ctrl) : R s.pickUpstream.ctrl := by
  unfold State.pickUpstream
  split
  · exact h
  split
  · exact h
  split
  · exact h
  · exact r.beginUpstream _ (r.lastServed _ (r.setUpstreamAt _ _ h))

theorem CtrlPort.Steady.handUp (r : CtrlPort.Steady R) (i : SlotId) (f : UpFrame) (h : R s.ctrl) :
    R (s.handUp i f).ctrl := r.pickUpstream (s := s.modSlot i _) h

theorem CtrlPort.Steady.complete (r : CtrlPort.Steady R) (i : SlotId) (c : Cmd) (code : Byte) (h : R s.ctrl) :
    R (s.complete i c code).ctrl := r.handUp i _ h

theorem CtrlPort.Steady.completeAll (r : CtrlPort.Steady R) (i : SlotId) (code : Byte) (l : List Cmd) (h : R s.ctrl) :
    R (State.completeAll i code l s).ctrl := by
  induction l generalizing s with
  | nil => exact h
  | cons c rest ih => exact ih (r.complete i c code h)

theorem CtrlPort.Steady.enterDown (r : CtrlPort.Steady R) (i : SlotId) (st : SlotSt) (code : Byte) (h : R s.ctrl) :
    R (s.enterDown i st code).ctrl := by
  have hc := r.completeAll i code (s.slot i).pass.commands
    (s := ((s.enter i st false false).modPass i Passage.emptied).modCtx i
      (fun c => { c with spinMark := false, emergency := false })) h
  unfold State.enterDown State.leavingFault
  split <;> exact hc

theorem CtrlPort.Steady.takeMap (r : CtrlPort.Steady R) (i : SlotId) (h : R s.ctrl) : R (s.takeMap i).ctrl := by
  unfold State.takeMap
  simp only
  split
  · split <;> exact h
  · split
    · exact h
    · refine r.enterDown i .empty codeSlotEmpty ?_
      exact h

theorem CtrlPort.Steady.orderDown (r : CtrlPort.Steady R) (i : SlotId) (h : R s.ctrl) : R (s.orderDown i).ctrl := by
  rcases s.orderDown_cases i with ⟨-, e⟩ | ⟨st, -, e⟩ | ⟨e, -⟩ <;> rw [e]
  · refine r.takeMap i (r.completeAll i codeOk _ ?_)
    exact h
  · exact h
  · exact h

theorem State.forwardHeld_ctrl (s : State) (i : SlotId) (e : HoldEntry) : (s.forwardHeld i e).ctrl = s.ctrl := by
  unfold State.forwardHeld
  simp only
  split <;> rfl

/-- The reactions and the servings hand frames up, and touch the port in no other way. -/
theorem CtrlPort.Steady.closed (r : CtrlPort.Steady R) : State.Closed (fun s => R s.ctrl) where
  scan {s} h := by rw [State.scan_ctrl]; exact h
  orderDown i h := r.orderDown i h
  clearMark _ h := h
  compare {s} i h := by
    rcases s.compare_cases i with e | e | ⟨k, -, e⟩ <;> rw [e]
    · exact h
    · exact h
    · rw [State.scan_ctrl]
      exact h
  reportDemand _ h := h
  forwardHeld {s} i e _ h := by rw [State.forwardHeld_ctrl]; exact h
  finishHeld {s} i e _ h := r.complete (s := s.modPass i _) i e.cmd codeOk h
  beginHead _ h := h

theorem CtrlPort.Steady.unloadAll (r : CtrlPort.Steady R) (emergency : Bool) (h : R s.ctrl) :
    R (s.unloadAll emergency).ctrl := by
  unfold State.unloadAll
  refine State.Closed.foldl (P := fun s => R s.ctrl) (fun {u} j hu => ?_) _ h
  unfold State.unloadOrder
  split
  · refine r.closed.settle j ?_
    have hlower := r.closed.lower j hu
    split <;> exact hlower
  · exact hu

/-- That the device notice and its cause MOTION are not raised, if they were not. -/
theorem CtrlPort.steady_notice (notice cause : Bool) :
    CtrlPort.Steady fun c => (c.deviceNotice = true → notice = true) ∧ (c.causeMotion = true → cause = true) where
  badSlot _ h := h
  lastServed _ h := h
  sending _ h := h
  noticeSent h := ⟨Bool.noConfusion, fun e => h.2 (Bool.and_eq_true_iff.mp e).1⟩

end steady

end Sys2Proof.Machine
end

section
/-! PROOFS. The hand-on of a change of motion state: the unload orders of the new state's row, and the device notice
(R66, R80 to R82, R148). -/

namespace Sys2Proof.Machine

section handedOn

variable {i : SlotId} {s t u : State} {m : Motion}

/-- The monitor in a new state at a time, nothing handed on yet. -/
def State.moved (s : State) (m : Motion) (n : Nat) : State := { s with motion := m, now := n }

/-- The change handed to park control and the admission unit, and not yet to the controller link port (R80). -/
def State.orderedFor (s : State) (st : MotionSt) : State :=
  State.scan (if (permitRow s.profile st).unloadOnEntry then s.unloadAll (st == .jolt) else s)

theorem State.motionChanged_eq (former : MotionSt) (s : State) :
    State.motionChanged former s
      = if edgeRaises s.profile former s.motion.state then (s.orderedFor s.motion.state).raiseMotion
        else s.orderedFor s.motion.state := rfl

/-- The notice apart, the slots are those of the orders. -/
theorem State.motionChanged_slot (former : MotionSt) (s : State) (i : SlotId) :
    (State.motionChanged former s).slot i = (s.orderedFor s.motion.state).slot i := by
  rw [State.motionChanged_eq]
  split <;> rfl

/-! ## The orders -/

/-- With unload on entry in its row, a slot with its heads down is on its way to unload (R81, R82). -/
theorem State.orderedFor_unloading (hq : s.QueueOk) (h : (s.slot i).HeadsDown) {st : MotionSt}
    (hrow : (permitRow s.profile st).unloadOnEntry = true) :
    (s.orderedFor st).Unloading i ((s.work i).unloadedBy (st == .jolt) s.profile s.now) := by
  unfold State.orderedFor
  rw [if_pos hrow]
  exact (State.unloadAll_unloading h (hq.noEntry_headsDown h) _).scan

/-- Without it, such a slot stands (R80). -/
theorem State.orderedFor_stands (hq : s.QueueOk) (h : (s.slot i).HeadsDown) {st : MotionSt}
    (hrow : (permitRow s.profile st).unloadOnEntry = false) : (s.orderedFor st).slot i = s.slot i := by
  have hst : s.Stands i none (s.work i) := .of_work rfl (hq.noEntry_headsDown h) (.inl h.busy)
  obtain ⟨-, hb⟩ := hst.scan
  unfold State.orderedFor
  rw [if_neg (by rw [hrow]; exact Bool.false_ne_true), State.slot_eq_work, hb.work_eq, State.scan_up]
  rfl

/-- No order marks a slot whose heads were not down (R82). -/
theorem State.orderedFor_unmarked (h : ¬ (s.slot i).HeadsDown) (st : MotionSt)
    (hm : ((s.orderedFor st).slot i).ctx.emergency = true) : (s.slot i).ctx.emergency = true := by
  have hsilent : (s.work i).Silent s.now ((s.orderedFor st).work i) := by
    unfold State.orderedFor
    split
    · have hnow : (s.unloadAll (st == .jolt)).now = s.now := ((State.Keeps.rfl s).unloadAll _).now
      refine (State.unloadAll_silent h (st == .jolt)).trans ?_
      rw [← hnow]
      exact (State.silent_scan _).slots i
    · exact (State.silent_scan s).slots i
  by_contra hne
  have hclear := hsilent.emergency (Bool.eq_false_of_not_eq_true hne)
  exact Bool.false_ne_true (hclear.symm.trans hm)

/-- The claims' words for a slot ordered to unload (R9, R16, R27, R32, R82). -/
theorem State.Unloading.cameTo {emergency : Bool}
    (h : t.Unloading i ((s.work i).unloadedBy emergency s.profile t.now)) :
    s.CameTo t i .unloading t.now ∧ (t.slot i).ctx.outstanding = .unload
      ∧ (t.slot i).ctx.stepDeadline = some (t.now + ((s.slot i).classIn s.profile).unloadMs)
      ∧ (emergency = true → (t.slot i).ctx.emergency = true ∧ (t.slot i).requeues = 0)
      ∧ (emergency = false → (t.slot i).ctx.emergency = (s.slot i).ctx.emergency
          ∧ (t.slot i).requeues = (s.slot i).requeues) := by
  obtain ⟨⟨hway, -⟩, hemergency, hrequeues⟩ := h
  let y := (s.work i).enter s.profile t.now .unloading false false
  have hx : ∃ mark, (s.work i).unloadedBy emergency s.profile t.now
      = { y with requeues := if emergency then 0 else y.requeues, ctx := { y.ctx with emergency := mark } }
        ∧ mark = if emergency then true else (s.work i).ctx.emergency := by
    cases emergency <;> exact ⟨_, rfl, rfl⟩
  obtain ⟨mark, hx, hmark⟩ := hx
  rw [hx] at hway hemergency hrequeues
  refine ⟨State.cameTo_of_work (x := s.work i) rfl rfl rfl hway.state hway.charge ?_ fun _ _ => ?_, ?_, ?_, ?_, ?_⟩
  · exact hway.query.trans (Slot.enter_query _ _ false false _ rfl)
  · rw [hway.ctx]
    exact Slot.enter_idleTimer _ _ .unloading _ _ _
  · exact congrArg SlotContext.outstanding hway.ctx
  · exact congrArg SlotContext.stepDeadline hway.ctx
  · rintro rfl
    exact ⟨hemergency.trans hmark, hrequeues⟩
  · rintro rfl
    exact ⟨hemergency.trans hmark, hrequeues⟩

/-- The notice apart, a slot that is to unload does so. -/
theorem State.Unloading.motionChanged {former : MotionSt} {x : Slot}
    (h : (s.orderedFor s.motion.state).Unloading i x) : (State.motionChanged former s).Unloading i x := by
  rw [State.motionChanged_eq]
  split
  · obtain ⟨hway, hemergency, hrequeues⟩ := h
    exact ⟨hway, hemergency, hrequeues⟩
  · exact h

/-! ## The notice -/

theorem edgeRaises_iff (p : Profile) (former new : MotionSt) :
    edgeRaises p former new = true ↔ edgePolicy p new = .entry ∨ edgePolicy p new = .entryAndExit
      ∨ edgePolicy p former = .entryAndExit := by
  simp [edgeRaises, or_assoc]

theorem State.orderedFor_notice (s : State) (st : MotionSt) :
    ((s.orderedFor st).ctrl.deviceNotice = true → s.ctrl.deviceNotice = true)
      ∧ ((s.orderedFor st).ctrl.causeMotion = true → s.ctrl.causeMotion = true) := by
  have r := CtrlPort.steady_notice s.ctrl.deviceNotice s.ctrl.causeMotion
  unfold State.orderedFor
  rw [State.scan_ctrl]
  split
  · exact r.unloadAll _ ⟨id, id⟩
  · exact ⟨id, id⟩

/-- The device notice is raised as the edge policies ask, and else not (R148). -/
theorem State.motionChanged_notice (former : MotionSt) (s : State) :
    if edgePolicy s.profile s.motion.state = .entry ∨ edgePolicy s.profile s.motion.state = .entryAndExit
        ∨ edgePolicy s.profile former = .entryAndExit then
      (State.motionChanged former s).ctrl.deviceNotice = true ∧ (State.motionChanged former s).ctrl.causeMotion = true
    else
      ((State.motionChanged former s).ctrl.deviceNotice = true → s.ctrl.deviceNotice = true)
        ∧ ((State.motionChanged former s).ctrl.causeMotion = true → s.ctrl.causeMotion = true) := by
  rw [State.motionChanged_eq]
  by_cases h : edgeRaises s.profile former s.motion.state = true
  · rw [if_pos h, if_pos ((edgeRaises_iff _ _ _).mp h)]
    exact ⟨rfl, rfl⟩
  · rw [if_neg h, if_neg fun hp => h ((edgeRaises_iff _ _ _).mpr hp)]
    exact s.orderedFor_notice _

/-! ## The change as a whole -/

/-- The claims' words for a change of motion state at a time (R66, R80 to R82, R148). -/
theorem State.motionChanged_handedOn (hq : s.QueueOk) (m : Motion) (n : Nat) :
    s.MotionHandedOn (State.motionChanged s.motion.state (s.moved m n)) m.state := by
  let t := State.motionChanged s.motion.state (s.moved m n)
  have hnow : t.now = n := ((State.Keeps.rfl (s.moved m n)).motionChanged _).now
  have hqueue : (s.moved m n).QueueOk := hq
  refine ⟨fun i hi => ⟨fun hrow => ?_, fun hrow => ?_⟩, State.motionChanged_notice s.motion.state (s.moved m n)⟩
  · have hunload : t.Unloading i ((s.work i).unloadedBy (m.state == .jolt) s.profile t.now) := by
      rw [hnow]
      exact (State.orderedFor_unloading hqueue hi hrow).motionChanged
    obtain ⟨hcame, hout, hdeadline, hmarked, hunmarked⟩ := hunload.cameTo
    exact ⟨hcame, hout, hdeadline, fun e => hmarked (by rw [e]; rfl), fun e => hunmarked (beq_false_of_ne e)⟩
  · rw [State.motionChanged_slot]
    exact State.orderedFor_stands hqueue hi hrow

/-! ## The monitor's events -/

/-- A change of the monitor's fields at a time, handed on where its motion state changes (R66). -/
theorem State.setMotion_changed (h : m.state ≠ s.motion.state) (n : Nat) :
    State.setMotion { s with now := n } m = State.motionChanged s.motion.state (s.moved m n) := if_neg h

theorem State.setMotion_same (h : m.state = s.motion.state) : s.setMotion m = { s with motion := m } := if_pos h

theorem State.setMotion_keeps (s : State) (m : Motion) : State.Keeps { s with motion := m } (s.setMotion m) := by
  unfold State.setMotion
  split
  · exact State.Keeps.rfl _
  · exact (State.Keeps.rfl _).motionChanged _

theorem exec_event {c : Instr} {ev : State → State} (hc : s.Calm) (h : exec c s = .next (State.live ev s)) :
    exec c s = .next (ev s) := by rw [h, State.live_calm hc]

theorem exec_sample (h : s.Calm) (x y z : BitVec 16) : exec (.sample x y z) s = .next (s.takeSample x y z) :=
  exec_event (ev := fun t => t.takeSample x y z) h rfl

/-- The monitor with its read over (R53). -/
def Motion.readOver (m : Motion) : Motion := { m with reading := false }

@[simp] theorem Motion.readOver_state (m : Motion) : m.readOver.state = m.state := rfl

/-- The monitor after a sample (R53, R56). -/
def State.sampled (s : State) (x y z : BitVec 16) : Motion :=
  (Motion.sample s.profile.motion (reading x) (reading y) (reading z) s.motion).readOver

theorem State.sampled_state (s : State) (x y z : BitVec 16) :
    (s.sampled x y z).state
      = (Motion.sample s.profile.motion (reading x) (reading y) (reading z) s.motion).state :=
  Motion.readOver_state _

theorem State.takeSample_lost (h : s.motion.state = .sensorLost) (x y z : BitVec 16) : s.takeSample x y z = s :=
  if_pos h

theorem State.takeSample_eq (h : s.motion.state ≠ .sensorLost) (x y z : BitVec 16) :
    s.takeSample x y z = s.setMotion (s.sampled x y z) := if_neg h

end handedOn

/-- Settles O37: a sample replaces the monitor's fields, and only a change of its state is handed on. -/
theorem samplesAreProcessed : Obligations.SamplesAreProcessed := by
  unfold Obligations.SamplesAreProcessed
  intro s x y z hc
  refine ⟨fun hlost => ?_, fun hlost => ?_⟩
  · rw [exec_sample hc, State.takeSample_lost hlost]
  · have hm := (s.setMotion_keeps (s.sampled x y z)).motion
    refine ⟨_, by rw [exec_sample hc, State.takeSample_eq hlost], hm, fun hsame => ?_⟩
    rw [hm] at hsame ⊢
    exact State.setMotion_same hsame

/-- Settles O40: a sample's change of motion state is handed on, and an entry into JOLT marks what it unloads. -/
theorem joltUnloadsEverySlot : Obligations.JoltUnloadsEverySlot := by
  unfold Obligations.JoltUnloadsEverySlot
  intro s t x y z new hc hq hlost hne hnew ht
  have hstate : (s.sampled x y z).state = new := (s.sampled_state x y z).trans hnew
  have hchange : (s.sampled x y z).state ≠ s.motion.state := by
    rw [hstate]
    exact hne.symm
  have heq : t = State.motionChanged s.motion.state (s.moved (s.sampled x y z) s.now) := by
    rw [exec_sample hc, State.takeSample_eq hlost] at ht
    cases ht
    exact State.setMotion_changed hchange s.now
  have hon : s.MotionHandedOn t new := by
    rw [heq, ← hstate]
    exact State.motionChanged_handedOn hq (s.sampled x y z) s.now
  refine ⟨hon, ?_⟩
  rintro rfl
  obtain ⟨hslots, hnotice⟩ := hon
  refine ⟨fun i => ⟨fun hdown => ?_, fun h1 h2 hmark => ?_⟩, fun hpolicy => ?_⟩
  · obtain ⟨⟨hstate, -⟩, -, -, hmarked, -⟩ := (hslots i hdown).1 rfl
    exact ⟨hstate, hmarked rfl⟩
  · rw [heq, State.motionChanged_slot] at hmark
    exact State.orderedFor_unmarked (s := s.moved (s.sampled x y z) s.now) (not_or.mpr ⟨h1, h2⟩) _ hmark
  · have hraise : edgePolicy s.profile .jolt = .entry ∨ edgePolicy s.profile .jolt = .entryAndExit := by
      change s.profile.edges.jolt = .entry ∨ s.profile.edges.jolt = .entryAndExit
      cases he : s.profile.edges.jolt with
      | none => exact absurd he hpolicy
      | entry => exact .inl rfl
      | entryAndExit => exact .inr rfl
    rw [if_pos (hraise.imp id .inl)] at hnotice
    exact hnotice

/-- Settles O36: the edges change the monitor's fields alone, and the loss and the return of the sensor are changes of
motion state that are handed on. -/
theorem sensorEdgesAndLoss : Obligations.SensorEdgesAndLoss := by
  unfold Obligations.SensorEdgesAndLoss
  intro s hc
  have hready : exec .dataReadyEdge s = .next s.takeDataReady := exec_event hc rfl
  have hexpiry : exec .lossTimerExpiry s = .next s.loseSensor := exec_event hc rfl
  refine ⟨exec_event (ev := State.takeShock) hc rfl, fun hlost => ?_, fun hlost => ?_, fun t0 ht0 => ?_, fun hnone => ?_⟩
  · rw [hready, State.takeDataReady, if_neg hlost]
    rfl
  · let m := s.motion.regain.dataReady s.now
    have heq : s.takeDataReady = s.setMotion m := if_pos hlost
    have hchange : m.state ≠ s.motion.state := by rw [hlost]; exact MotionSt.noConfusion
    refine ⟨s.setMotion m, by rw [hready, heq], (s.setMotion_keeps m).motion, fun hq => ?_⟩
    have hon := State.motionChanged_handedOn hq m s.now
    rw [← State.setMotion_changed hchange] at hon
    exact hon
  · have heq : s.loseSensor = (s.reach t0).setMotion s.motion.lose := by rw [State.loseSensor, ht0]
    have hk := (s.reach t0).setMotion_keeps s.motion.lose
    refine ⟨_, by rw [hexpiry, heq], hk.now, hk.motion, fun hne hq => ?_⟩
    have hon := State.motionChanged_handedOn hq s.motion.lose (max s.now t0)
    rw [← State.setMotion_changed (Ne.symm hne)] at hon
    exact hon
  · rw [hexpiry, State.loseSensor, hnone]

end Sys2Proof.Machine
end
